-- ==== Sys2Proof/Word.lean ====
section
/-! DEFINITION. The word types of the Ferapol 24: what the ports and the bus carry as bits. -/

namespace Sys2Proof

/-- One byte of a port frame or of a charge link frame. -/
abbrev Byte := BitVec 8

/-- A 16-bit word: a session number, a set of notices or stop causes (R192). -/
abbrev Half := BitVec 16

/-- A 32-bit word: the time counter (R127), a pilot capture (R11). -/
abbrev Word := BitVec 32

/-- A standard identifier of the charge link (R155). -/
abbrev CanId := BitVec 11

end Sys2Proof
end

