-- ==== Sys2Proof/Syntax.lean ====
section
/-! DEFINITION. The commands of the Ferapol 24: one constructor for each row of the opcode table, with
the operands each command brings. -/

namespace Sys2Proof

/-- An 8-byte driver identity, uninterpreted (section 3.2). -/
structure Tag where
  b0 : Byte
  b1 : Byte
  b2 : Byte
  b3 : Byte
  b4 : Byte
  b5 : Byte
  b6 : Byte
  b7 : Byte
deriving DecidableEq, Repr

/-- The two host ports (chapter 10). -/
inductive Port where
  | vehicle
  | fleet
deriving DecidableEq, Repr

/-- The three digital inputs (section 1.7). -/
inductive DigitalInput where
  | contactorAux
  | converterFault
  | inletFlap
deriving DecidableEq, Repr

/-- The level that five consecutive samples of a digital input read (R17). -/
inductive LineLevel where
  | low
  | high
deriving DecidableEq, Repr

/-- Four like things, one for each pack zone 0..3. -/
structure Quad (α : Type) where
  z0 : α
  z1 : α
  z2 : α
  z3 : α
deriving DecidableEq, Repr

/-- One sample of a zone sensor: a temperature in dC or a band indication (R4). -/
inductive ZoneSample where
  | temp (dC : Int)
  | openBand
  | shortBand
deriving DecidableEq, Repr

/-- One sample of the pilot line in dV, marked when it was taken between a rising edge and the next
falling edge (R9). -/
structure PilotSample where
  level : Int
  high : Bool
deriving DecidableEq, Repr

/-- The 100 simultaneous samples of one inlet phase in a window: dV and dA (R2). -/
structure PhaseSamples where
  voltage : Vector Int 100
  current : Vector Int 100
deriving DecidableEq, Repr

/-- The samples of one measurement window: 100 of each windowed channel (section 1.1). -/
structure WindowSamples where
  l1 : PhaseSamples
  l2 : PhaseSamples
  l3 : PhaseSamples
  bus : Vector Int 100
  outCurrent : Vector Int 100
  heatCurrent : Vector Int 100
  zones : Quad (Vector ZoneSample 100)
  pilot : Vector PilotSample 100
  proximity : Vector Int 100
  supply : Vector Int 100
deriving DecidableEq, Repr

/-- A frame received on the charge link without a bus error (R156). -/
structure CanFrame where
  extended : Bool
  remote : Bool
  ident : CanId
  data : List Byte
deriving DecidableEq, Repr

/-- The three kinds the part transmits (R155, R161). -/
inductive TxKind where
  | status
  | authRequest
  | sessionSummary
deriving DecidableEq, Repr

/-- How a transmit attempt ends (R162). -/
inductive TxOutcome where
  | acknowledged
  | arbitrationLost
  | failed
deriving DecidableEq, Repr

/-- Which message of a slot a 500 ms timer belongs to: the slot's own message or its successor (R161). -/
inductive TxWhich where
  | current
  | successor
deriving DecidableEq, Repr

/-- The commands, in the order of the opcode table. A request of a host port carries its sequence number
and its content bytes (section 12.3). -/
inductive Instr where
  /-- The 100 ms window closes (R1). `eventsFirst`: the level-trigger input events of this close (R18) are
  taken before the set is delivered; the manual gives no order of the two. -/
  | measurementWindowClose (samples : WindowSamples) (eventsFirst : Bool)
  | pilotRisingEdge (capture : Word)
  | pilotFallingEdge (capture : Word)
  | staticTimerExpiry
  | digitalInputSettledChange (input : DigitalInput) (level : LineLevel)
  | closeConfirmTimeout
  | openConfirmTimeout
  | currentWaitTimerExpiry
  | pauseTimerExpiry
  | requestExpiry
  | poll (seq : Byte) (content : List Byte)
  | readStatus (seq : Byte) (content : List Byte)
  | chargeRequest (seq : Byte) (content : List Byte)
  | stop (seq : Byte) (content : List Byte)
  | clearWeld (seq : Byte) (content : List Byte)
  | setDriverTag (seq : Byte) (content : List Byte)
  | clearInsulationFault (seq : Byte) (content : List Byte)
  | readInsulation (seq : Byte) (content : List Byte)
  | writeConfig (seq : Byte) (content : List Byte)
  | readConfig (seq : Byte) (content : List Byte)
  | writeTempTable (seq : Byte) (content : List Byte)
  | sleep (seq : Byte) (content : List Byte)
  | reset (seq : Byte) (content : List Byte)
  | identify (port : Port) (seq : Byte) (content : List Byte)
  | enableNotices (port : Port) (seq : Byte) (content : List Byte)
  | ackNotices (port : Port) (seq : Byte) (content : List Byte)
  /-- A request that the port itself refuses: the header and content bytes as they came (R171, R176). -/
  | unknownRequest (port : Port) (bytes : List Byte)
  | busyTransaction
  | deferredActionRelease
  | readOldestRecord (seq : Byte) (content : List Byte)
  | releaseRecord (seq : Byte) (content : List Byte)
  | readOpenRecord (seq : Byte) (content : List Byte)
  | setTime (seq : Byte) (content : List Byte)
  | setSpendCap (seq : Byte) (content : List Byte)
  | allowAdd (seq : Byte) (content : List Byte)
  | allowRemove (seq : Byte) (content : List Byte)
  | allowRead (seq : Byte) (content : List Byte)
  | authVerdict (session : Half) (echo : Tag) (verdict : Byte)
  | authTimerExpiry
  | allocationTimerExpiry
  | slotTimerExpiry
  | quietWindowOpen
  /-- The half-period timer expires (R108). `samples`: the sense samples in mV that the MFE delivered while
  the quiet window was open. -/
  | halfPeriodTimerExpiry (samples : List Int)
  | meteringTimerExpiry
  | timeCounterTick
  | receiveSegment (frame : CanFrame)
  | powerLimit (limit : Half)
  | tariff (version index count : Byte) (start price : Half)
  /-- The post's TIME message; the offset is signed (section 12.2). -/
  | time (seconds : Word) (offset : Option Half)
  | stopMessage
  | linkAliveTimerExpiry
  | postLimitTimerExpiry
  | statusTimerExpiry
  | transmitAttemptStart
  | transmitAttemptEnd (outcome : TxOutcome)
  | messageTimerExpiry (kind : TxKind) (which : TxWhich)
  | xon
  | xoff
  | framingError
  | fleetByteReceived (byte : Byte)
  | fleetResponseSent
  | resetPin
  | supplyHeldReset
  | retentionSupplyFall
  | resetExit
  /-- A waking event in SLEEP (R189): the sources that arise together; `fleetByte` is the byte that
  arrived on the fleet port, if one did. -/
  | wake (pilot vehicle flap : Bool) (fleetByte : Option Byte)
  | requestAnswered
deriving DecidableEq, Repr

end Sys2Proof
end

