-- ==== Sys2Proof/Decode.lean ====
section
/-! DEFINITION. The words of the opcode table. The table gives no row any bits, so no word spells a
command: the requests, messages and events of the part are told apart by their ports, not by an opcode. -/

namespace Sys2Proof

/-- The command a table word spells: none, since no row of the opcode table has bits. -/
def decodeTableWord (_nbits _w : Nat) : Option Instr := none

end Sys2Proof
end

