-- ==== Sys2Proof/Config.lean ====
section
/-! DEFINITION. What an implementation fixes and what the manual leaves free. The constants have no
body: nothing can be proved of their values. -/

namespace Sys2Proof.Config

/-- The part identity of IDENTIFY (R186): a 2-byte value the manual does not give. Log 14. -/
opaque partIdentity : BitVec 16

/-- Names the part's own revision code (R186), which is this number plus one: nonzero, and otherwise
not given. Log 14. -/
opaque revisionIndex : Fin 65535

/-- A byte of a status record or of a READ-INSULATION response for which section 12 gives no code
(the value is absent and its field has no code for that). First argument: how many such records
were formed before; second: the field's place. Log 11. -/
opaque unstatedByte : Nat → Nat → BitVec 8

/-- What a field of a layout carries for a value larger than the field: width in bytes and value.
Log 12. -/
opaque fieldOverflow : Nat → Int → BitVec 64

/-- The session inlet energy register after a sum that does not fit its 64 bits (R124). Log 13. -/
opaque energyOverflow : Nat → Nat → BitVec 64

end Sys2Proof.Config
end

