-- ==== Sys2Proof/Machine/State.lean ====
section
/-! DEFINITION. The state of the Ferapol 24, block by block, and its value after a COLD reset. -/

namespace Sys2Proof.Machine

/-- No command of the part stops it: every refusal of the manual is a response status (R177). -/
inductive Fault where
deriving DecidableEq, Repr

/-- Why a command has no meaning. -/
inductive Refusal where
  /-- Raised by `exec` for a command whose meaning is not written. Safe: the model stops. -/
  | notModelled (mnemonic : String)
deriving DecidableEq, Repr

/-- A timer: stopped, or running with the length in ms it was started with. The lapse of its time is the
expiry command (log 2). -/
abbrev Timer := Option Nat

/-! ### Measurement front end (chapter 1) -/

inductive ZoneValidity where
  | pending
  | valid
  | invalid
deriving DecidableEq, Repr

/-- One zone sensor (R4, R5): validity, recovery count 0..10, published T_k in dC. -/
structure Zone where
  validity : ZoneValidity
  recovery : Nat
  value : Option Int
deriving DecidableEq, Repr

/-- The values of one inlet phase (R2): dV, dA, W. -/
structure PhaseValues where
  volts : Nat
  amps : Nat
  power : Int
deriving DecidableEq, Repr

/-- The windowed values published together (R1, R2, R3, R8). -/
structure MeasurementSet where
  l1 : PhaseValues
  l2 : PhaseValues
  l3 : PhaseValues
  pIn : Int
  vIn : Nat
  vBus : Nat
  vBusValid : Bool
  iOut : Nat
  iHeat : Nat
  vSupMean : Nat
  vSupMin : Nat
deriving DecidableEq, Repr

inductive PilotLevel where
  | detached
  | attached
  | loaded
  | pilotError
deriving DecidableEq, Repr

/-- The cable code (R10), NONE first, then the ratings ascending. -/
inductive CableCode where
  | noCable
  | a13
  | a20
  | a32
  | a63
deriving DecidableEq, Repr

inductive CaptureState where
  | static
  | acquiring
  | locked
deriving DecidableEq, Repr

inductive SettledLevel where
  | low
  | high
  | unsettled
deriving DecidableEq, Repr

inductive Trigger where
  | rising
  | falling
  | change
  | levelHigh
  | levelLow
deriving DecidableEq, Repr

/-- A digital input: its settled level (R17) and the trigger now in effect (R18, log 21). -/
structure InputState where
  level : SettledLevel
  trigger : Trigger
deriving DecidableEq, Repr

/-- The measurement front end. `published` is none while every windowed value is INVALID (R19). -/
structure Mfe where
  windowTimer : Timer
  published : Option MeasurementSet
  zones : Quad Zone
  tMin : Option Int
  pilotLevel : Option PilotLevel
  pilotChange : Option PilotLevel
  cable : Option CableCode
  cableChange : Option CableCode
  captureCounter : Word
  lastRising : Option Word
  fallCount : Nat
  fallCapture : Option Word
  unit : CaptureState
  run : List Nat
  accepted : Option Nat
  candidate : Option Nat
  invalidCount : Nat
  staticTimer : Timer
  offer : Nat
  offerValid : Bool
  aux : InputState
  fault : InputState
  flap : InputState
deriving DecidableEq, Repr

/-! ### Configuration (chapter 11) -/

/-- The configuration record (section 11.1). -/
structure ConfigRecord where
  authRequired : Bool
  permitTemp : Int
  phases : Nat
  pCfg : Nat
  eta : Nat
  reserve : Nat
  fallback : Nat
  pSeg : Nat
  preheatTarget : Int
  chargeTarget : Int
  gain : Nat
  halfPeriod : Nat
  warnOhms : Nat
  faultOhms : Nat
  defaultPrice : Nat
  ownAddress : Nat
  accCode : CanId
  accMask : CanId
  auxTrigger : Trigger
  faultTrigger : Trigger
  flapTrigger : Trigger
deriving DecidableEq, Repr

/-- One row of the temperature table (R183): breakpoint in dC, current in dA. -/
structure TempRow where
  breakpoint : Int
  current : Nat
deriving DecidableEq, Repr

/-- What the blocks read and the sessions' steps leave alone: the configuration record, the temperature
table and the measurement front end. -/
structure Env where
  cfg : ConfigRecord
  table : List TempRow
  mfe : Mfe
deriving DecidableEq, Repr

/-! ### Session controller (chapter 2) -/

inductive SessionState where
  | idle
  | attached
  | authorizing
  | preheat
  | charging
  | paused
  | stopping
  | closed
deriving DecidableEq, Repr

inductive StopCause where
  | vehicleStop
  | postStop
  | authRejected
  | authRevoked
  | selfTestFail
  | insulationFault
  | converterFault
  | contactorFail
  | pauseTimeout
  | cableRemoved
  | supplyLoss
  | resetCommand
  | weld
deriving DecidableEq, Repr

inductive PauseCause where
  | offerZero
  | limitZero
  | vehicleSilent
  | billingHold
  | packVoltage
  | sensorsInvalid
deriving DecidableEq, Repr

inductive Contactor where
  | opened
  | closing
  | closed
  | opening
deriving DecidableEq, Repr

/-- The vehicle charge request (R21). -/
structure ChargeRequest where
  chargeEnable : Bool
  heatEnable : Bool
  hvLive : Bool
  iReq : Nat
  vTarget : Nat
deriving DecidableEq, Repr

/-- The session record (section 2.1). `request` is none while EXPIRED. -/
structure Session where
  state : SessionState
  number : Half
  endReason : Option StopCause
  faultsSeen : Half
  pauseCauses : Byte
  contactor : Contactor
  weldLatch : Bool
  converterLatch : Bool
  request : Option ChargeRequest
  releaseSeen : Bool
  monitorFailure : Bool
  closePending : Bool
  authGranted : Bool
  selfTestPassed : Bool
  confirmTimer : Timer
  waitTimer : Timer
  pauseTimer : Timer
  requestTimer : Timer
deriving DecidableEq, Repr

/-! ### Authorization unit (chapter 3) -/

inductive AuthState where
  | inactive
  | waiting
  | online
  | offline
  | free
  | refused
deriving DecidableEq, Repr

inductive AuthMode where
  | online
  | offline
  | free
deriving DecidableEq, Repr

/-- The pending authorization request (R49); its timer stops when it runs out (R53, R54). -/
structure PendingAuth where
  number : Half
  sendTime : Word
  timer : Timer
deriving DecidableEq, Repr

/-- One entry of the allow-list (R57). -/
structure AllowEntry where
  tag : Tag
  expiry : Option Word
deriving DecidableEq, Repr

structure Auth where
  driverTag : Option Tag
  sessionTag : Option Tag
  state : AuthState
  mode : Option AuthMode
  lateAccept : Bool
  request : Option PendingAuth
  allowList : List AllowEntry
deriving DecidableEq, Repr

/-! ### Power allocator (chapter 4) -/

inductive Binding where
  | none
  | pilot
  | cable
  | post
  | spend
  | config
deriving DecidableEq, Repr

inductive Derating where
  | none
  | halved
  | zero
deriving DecidableEq, Repr

/-- The allocation record (section 4.1), in W. `pPost` and `pSpend` are none for NO-LIMIT. -/
structure AllocRecord where
  pPilot : Nat
  pCable : Nat
  pPost : Option Nat
  pSpend : Option Nat
  pCfg : Nat
  binding : Binding
  derating : Derating
  pInLim : Nat
  pOut : Nat
  iTab : Nat
  pChgReq : Nat
  pHeatReq : Nat
  pChgAlloc : Nat
  pHeatAlloc : Nat
  pChgCmd : Nat
  pendingIncrease : Option Nat
  rampValid : Bool
  command : Nat
deriving DecidableEq, Repr

structure Alloc where
  timer : Timer
  record : AllocRecord
deriving DecidableEq, Repr

/-! ### Heater scheduler (chapter 5) -/

/-- The index of a zone and of its segment. -/
inductive ZoneIx where
  | z0
  | z1
  | z2
  | z3
deriving DecidableEq, Repr

inductive HeaterRun where
  | off
  | armed
  | running
deriving DecidableEq, Repr

structure Heater where
  run : HeaterRun
  target : Option Int
  d : Quad Nat
  inhibited : Quad Bool
  demand : Nat
  held : Nat
  lastHanded : Nat
  slots : List ZoneIx
  frameS : Nat
  position : Option Nat
  started : Nat
  deferred : Bool
  energized : Option ZoneIx
  slotTimer : Timer
deriving DecidableEq, Repr

/-! ### Insulation monitor (chapter 6) -/

inductive MonitorState where
  | off
  | selfTest
  | monitoring
  | inoperative
deriving DecidableEq, Repr

inductive SelfTestKind where
  | startUp
  | session
deriving DecidableEq, Repr

inductive ResultState where
  | noResult
  | ok
  | warn
  | fault
deriving DecidableEq, Repr

inductive Polarity where
  | positive
  | negative
deriving DecidableEq, Repr

inductive ResultPath where
  | bus
  | reference
deriving DecidableEq, Repr

/-- R_iso in kilohm, or ABOVE-RANGE (R110). -/
inductive RIso where
  | kohm (v : Nat)
  | aboveRange
deriving DecidableEq, Repr

/-- A cycle result (R110, R111). The thresholds are formed on the bus alone; `vBus` is the V_bus read, none
while it is INVALID. -/
structure CycleResult where
  rIso : RIso
  time : Word
  path : ResultPath
  vBus : Option Nat
  thresholds : Option (Nat × Nat)
deriving DecidableEq, Repr

structure Monitor where
  state : MonitorState
  kind : Option SelfTestKind
  result : ResultState
  last : Option CycleResult
  faultResult : Option CycleResult
  polarity : Polarity
  vPos : Option Int
  window : Bool
  windowSum : Int
  windowCount : Nat
  mark : Bool
  discards : Nat
  noResults : Nat
  low : Nat
  good : Nat
  pass : Nat
  timer : Timer
deriving DecidableEq, Repr

/-! ### Meter and export queue (chapters 7 and 8) -/

inductive EnergyClass where
  | charge
  | heat
  | overhead
deriving DecidableEq, Repr

/-- A line of a billing record (section 7.1); its cost is none until the record closes. -/
structure Line where
  version : Byte
  band : Nat
  cls : EnergyClass
  price : Nat
  mwh : Nat
  cost : Option Nat
deriving DecidableEq, Repr

/-- The end reason of a record: a stop cause, or SPLIT or RESET given by the meter (R33, R136, R143). -/
inductive RecordEnd where
  | cause (c : StopCause)
  | split
  | reset
deriving DecidableEq, Repr

/-- A billing record (section 7.1). `endTime` is none while the record runs; `endReason` then holds the
copy of the session's (R139). -/
structure BillingRecord where
  number : Half
  continuation : Nat
  tag : Option Tag
  mode : Option AuthMode
  startTime : Word
  endTime : Option Word
  endReason : Option RecordEnd
  faultsSeen : Half
  timeStep : Bool
  timeInvalid : Bool
  scheduleChanged : Bool
  lateAccept : Bool
  folded : Bool
  lines : List Line
  totalMwh : Nat
  totalCost : Nat
deriving DecidableEq, Repr

/-- The open record and whether its close has been requested (R139). -/
structure OpenRecord where
  record : BillingRecord
  closeRequested : Bool
deriving DecidableEq, Repr

/-- A tariff band: start minute and price in milli per kWh (section 7.4). -/
structure Band where
  start : Nat
  price : Nat
deriving DecidableEq, Repr

/-- The active schedule: version 0 of the COLD reset, priced by the configuration (R132), or one received
from the post (R134). -/
inductive Schedule where
  | builtin
  | posted (version : Byte) (bands : List Band)
deriving DecidableEq, Repr

/-- The staging schedule (R133): one place for each band of its count. -/
structure Staging where
  version : Byte
  bands : List (Option Band)
deriving DecidableEq, Repr

inductive TimeSource where
  | none
  | fleet
  | post
deriving DecidableEq, Repr

structure Meter where
  timer : Timer
  time : Word
  timeValid : Bool
  source : TimeSource
  offset : Int
  schedule : Schedule
  staging : Option Staging
  energy : Nat
  remCharge : Nat
  remHeat : Nat
  remOverhead : Nat
  openRec : Option OpenRecord
  held : Bool
  spendCap : Nat
deriving DecidableEq, Repr

/-- The export queue, oldest first, and the held position (section 8.1). -/
structure ExportQueue where
  queue : List BillingRecord
  held : Option BillingRecord
deriving DecidableEq, Repr

/-! ### Charge link (chapter 9) -/

inductive LinkState where
  | silent
  | alive
  | lost
deriving DecidableEq, Repr

/-- A receive assembly in progress (R157): segments expected, next segment, content so far. -/
structure Assembly where
  count : Nat
  next : Nat
  content : List Byte
deriving DecidableEq, Repr

/-- The post kinds (R155). -/
inductive PostKind where
  | powerLimit
  | authVerdict
  | tariff
  | time
  | stop
deriving DecidableEq, Repr

/-- An outgoing message (R161): content and identifier fixed at placement, next segment, 500 ms timer. -/
structure TxMessage where
  ident : CanId
  content : List Byte
  next : Nat
  timer : Timer
deriving DecidableEq, Repr

inductive SlotState where
  | empty
  | waiting
  | sending
deriving DecidableEq, Repr

/-- A transmit slot. `replaced`: a newer message was placed while this one was SENDING, so it is discarded
at the end of the attempt, even if that successor has been abandoned meanwhile (R161). -/
structure TxSlot where
  state : SlotState
  message : Option TxMessage
  replaced : Bool
  successor : Option TxMessage
deriving DecidableEq, Repr

structure Link where
  state : LinkState
  aliveTimer : Timer
  postLimit : Option Nat
  postValid : Bool
  postTimer : Timer
  heard : Bool
  asmPowerLimit : Option Assembly
  asmVerdict : Option Assembly
  asmTariff : Option Assembly
  asmTime : Option Assembly
  asmStop : Option Assembly
  status : TxSlot
  authRequest : TxSlot
  summary : TxSlot
  statusTimer : Timer
  onBus : Option CanFrame
deriving DecidableEq, Repr

/-! ### Ports and notice unit (chapter 10) -/

inductive Notice where
  | sessionState
  | insulationWarn
  | insulationFault
  | weld
  | sensorFault
  | linkLost
  | linkTxFail
  | authResult
  | recordReady
  | queueFull
  | scheduleChanged
  | scheduleRejected
  | timeStep
  | wake
deriving DecidableEq, Repr

/-- The pending and enable sets of the two masters and the details of pending notices (R178, R179). -/
structure Notices where
  vehiclePending : Half
  fleetPending : Half
  vehicleEnable : Half
  fleetEnable : Half
  sensorZones : Byte
  txKinds : Byte
  vehicleWake : Byte
  fleetWake : Byte
deriving DecidableEq, Repr

inductive Status where
  | ok
  | clamped
  | busy
  | notReady
  | badRequest
  | refusedState
  | badTable
  | listFull
  | notFound
  | notOldest
  | queueEmpty
  | timeOwned
  | wakePending
  | latchActive
deriving DecidableEq, Repr

/-- A response of a port (section 12.3). -/
structure Response where
  kind : Byte
  seq : Byte
  status : Status
  pending : Half
  content : List Byte
deriving DecidableEq, Repr

inductive DeferredAction where
  | none
  | reset
  | sleep
deriving DecidableEq, Repr

/-- The progress of the request last taken on the vehicle port (R170). In PROCESSING it carries the owner's
answer until it becomes the held response, with the deferred action that is then set (R172, log 3). -/
inductive CommandSlot where
  | empty
  | processing (answer : Response) (action : DeferredAction)
  | answered
deriving DecidableEq, Repr

/-- The vehicle port (section 10.1). `held` is none for the null response. `shiftedOut` is the model's own:
the response the last transaction carried out. -/
structure VehiclePort where
  slot : CommandSlot
  held : Option Response
  deferred : DeferredAction
  ready : Bool
  shiftedOut : Option Response
deriving DecidableEq, Repr

inductive RxState where
  | hunt
  | inFrame
  | discard
deriving DecidableEq, Repr

/-- A request taken on the fleet port and not yet fully answered (R176). -/
structure Request where
  kind : Byte
  seq : Byte
  content : List Byte
deriving DecidableEq, Repr

/-- The response being sent on the fleet port, as the line carries it, and its next byte (R173, R176).
`sending`: the byte before the next one is on the line. `forming`: the answer to an ACK-NOTICES whose moment is
not over, so that a posting of that moment still shows in it (R180, log 50). -/
structure TxProgress where
  bytes : List Byte
  next : Nat
  sending : Bool
  forming : Option Response
deriving DecidableEq, Repr

structure FleetPort where
  fifo : List Byte
  rx : RxState
  outstanding : Option Request
  paused : Bool
  transmit : Option TxProgress
deriving DecidableEq, Repr

/-! ### Supply monitor and start-up (chapter 11) -/

inductive PowerState where
  | starting
  | active
  | sleep
deriving DecidableEq, Repr

inductive ResetCause where
  | pin
  | supply
  | command
deriving DecidableEq, Repr

inductive ResetKind where
  | cold
  | warm
  | command
deriving DecidableEq, Repr

inductive TestOutcome where
  | passed
  | failed
deriving DecidableEq, Repr

/-- `held`: the part is held in reset, and what brought the reset about (R184, R190). -/
structure Supply where
  low : Bool
  power : PowerState
  held : Option ResetCause
  kind : ResetKind
  retentionValid : Bool
  deferredReset : Bool
  selfTest : Option TestOutcome
deriving DecidableEq, Repr

/-! ### The whole part -/

/-- The blocks that act on one another inside one step. `drawn` is the model's own: the argument of the
free value for unstated bytes (log 11). -/
structure Core where
  session : Session
  auth : Auth
  alloc : Alloc
  heater : Heater
  mon : Monitor
  meter : Meter
  queue : ExportQueue
  link : Link
  notices : Notices
  sup : Supply
  drawn : Nat
deriving DecidableEq, Repr

/-- The driven lines (R20, R81, R94, R106, R179): the generator in mV, the command line in permille. -/
structure Lines where
  pilotLoad : Bool
  contactorDrive : Bool
  converterEnable : Bool
  commandDuty : Nat
  segments : Quad Bool
  generator : Int
  referencePath : Bool
  vehicleAttention : Bool
  fleetAttention : Bool
deriving DecidableEq, Repr

/-- The state of the part and the queue of waiting commands, first in, first out. -/
structure State where
  env : Env
  core : Core
  vport : VehiclePort
  fport : FleetPort
  lines : Lines
  pending : List Instr
deriving DecidableEq, Repr

/-! ### Reset values -/

/-- An input that has not settled, with the trigger in effect. -/
def InputState.fresh (t : Trigger) : InputState := { level := .unsettled, trigger := t }

/-- A zone before its first window (R5, R19). -/
def Zone.fresh : Zone := { validity := .pending, recovery := 0, value := none }

/-- One value for all four zones. -/
def quadAll {α : Type} (a : α) : Quad α := { z0 := a, z1 := a, z2 := a, z3 := a }

/-- The configuration record after a COLD reset (section 11.1, R166). -/
def ConfigRecord.default : ConfigRecord where
  authRequired := true
  permitTemp := 0
  phases := 3
  pCfg := 11000
  eta := 940
  reserve := 1000
  fallback := 3700
  pSeg := 2000
  preheatTarget := 50
  chargeTarget := 150
  gain := 8
  halfPeriod := 1000
  warnOhms := 500
  faultOhms := 100
  defaultPrice := 0
  ownAddress := 0
  accCode := 0
  accMask := 63
  auxTrigger := .levelHigh
  faultTrigger := .levelHigh
  flapTrigger := .levelHigh

/-- The temperature table after a COLD reset (R183). -/
def defaultTable : List TempRow :=
  [⟨-400, 0⟩, ⟨-100, 0⟩, ⟨0, 150⟩, ⟨50, 300⟩, ⟨100, 500⟩, ⟨150, 800⟩, ⟨450, 400⟩, ⟨550, 0⟩]

/-- The front end with nothing measured (R19): the window timer and the inputs are given. -/
def Mfe.fresh (window : Timer) (aux fault flap : InputState) : Mfe where
  windowTimer := window
  published := none
  zones := quadAll Zone.fresh
  tMin := none
  pilotLevel := none
  pilotChange := none
  cable := none
  cableChange := none
  captureCounter := 0
  lastRising := none
  fallCount := 0
  fallCapture := none
  unit := .static
  run := []
  accepted := none
  candidate := none
  invalidCount := 0
  staticTimer := none
  offer := 0
  offerValid := false
  aux := aux
  fault := fault
  flap := flap

/-- The front end on leaving a reset, with the triggers of the configuration (R19, R1). -/
def Mfe.afterReset (cfg : ConfigRecord) : Mfe :=
  Mfe.fresh (some 100) (InputState.fresh cfg.auxTrigger) (InputState.fresh cfg.faultTrigger)
    (InputState.fresh cfg.flapTrigger)

/-- The session record after a COLD reset (R46). -/
def Session.reset : Session where
  state := .idle
  number := 0
  endReason := none
  faultsSeen := 0
  pauseCauses := 0
  contactor := .opened
  weldLatch := false
  converterLatch := false
  request := none
  releaseSeen := false
  monitorFailure := false
  closePending := false
  authGranted := false
  selfTestPassed := false
  confirmTimer := none
  waitTimer := none
  pauseTimer := none
  requestTimer := none

/-- The authorization unit after a COLD reset (R61). -/
def Auth.reset : Auth where
  driverTag := none
  sessionTag := none
  state := .inactive
  mode := none
  lateAccept := false
  request := none
  allowList := []

/-- The record of a zero allocation (R62, R85). -/
def AllocRecord.zero : AllocRecord where
  pPilot := 0
  pCable := 0
  pPost := none
  pSpend := none
  pCfg := 0
  binding := .none
  derating := .none
  pInLim := 0
  pOut := 0
  iTab := 0
  pChgReq := 0
  pHeatReq := 0
  pChgAlloc := 0
  pHeatAlloc := 0
  pChgCmd := 0
  pendingIncrease := none
  rampValid := false
  command := 0

/-- The allocator after a reset, its timer stopped until ACTIVE (R85). -/
def Alloc.reset : Alloc := { timer := none, record := AllocRecord.zero }

/-- The heater after a reset, in STARTING, in SLEEP and after a wake (R103). -/
def Heater.reset : Heater where
  run := .off
  target := none
  d := quadAll 0
  inhibited := quadAll true
  demand := 0
  held := 0
  lastHanded := 0
  slots := []
  frameS := 0
  position := none
  started := 0
  deferred := false
  energized := none
  slotTimer := none

/-- The monitor on leaving a COLD reset: the start-up self-test begins (R123, R107, R116). -/
def Monitor.reset : Monitor where
  state := .selfTest
  kind := some .startUp
  result := .noResult
  last := none
  faultResult := none
  polarity := .positive
  vPos := none
  window := false
  windowSum := 0
  windowCount := 0
  mark := false
  discards := 0
  noResults := 0
  low := 0
  good := 0
  pass := 0
  timer := some 1000

/-- The meter after a COLD reset (R143). -/
def Meter.reset : Meter where
  timer := none
  time := 0
  timeValid := false
  source := .none
  offset := 0
  schedule := .builtin
  staging := none
  energy := 0
  remCharge := 0
  remHeat := 0
  remOverhead := 0
  openRec := none
  held := false
  spendCap := 0

/-- The export queue after a COLD reset (R154). -/
def ExportQueue.reset : ExportQueue := { queue := [], held := none }

/-- An EMPTY transmit slot (R168). -/
def TxSlot.empty : TxSlot :=
  { state := .empty, message := none, replaced := false, successor := none }

/-- The charge link after a reset and after a wake (R168). -/
def Link.reset : Link where
  state := .silent
  aliveTimer := none
  postLimit := none
  postValid := false
  postTimer := none
  heard := false
  asmPowerLimit := none
  asmVerdict := none
  asmTariff := none
  asmTime := none
  asmStop := none
  status := TxSlot.empty
  authRequest := TxSlot.empty
  summary := TxSlot.empty
  statusTimer := none
  onBus := none

/-- The notices routed to the vehicle master (R178), by the codes of section 12.6. -/
def vehicleRouted : Half := 0x22FF

/-- The notices routed to the fleet master (R178). -/
def fleetRouted : Half := 0x3FAD

/-- The notice unit after a reset (R181, R179). -/
def Notices.reset : Notices where
  vehiclePending := 0
  fleetPending := 0
  vehicleEnable := vehicleRouted
  fleetEnable := fleetRouted
  sensorZones := 0
  txKinds := 0
  vehicleWake := 0
  fleetWake := 0

/-- The vehicle port after a reset (R170, R181). -/
def VehiclePort.reset : VehiclePort :=
  { slot := .empty, held := none, deferred := .none, ready := true, shiftedOut := none }

/-- The fleet port after a reset (R181). -/
def FleetPort.reset : FleetPort :=
  { fifo := [], rx := .hunt, outstanding := none, paused := false, transmit := none }

/-- The start-up block after a COLD reset (R191). -/
def Supply.reset : Supply where
  low := false
  power := .starting
  held := none
  kind := .cold
  retentionValid := true
  deferredReset := false
  selfTest := none

/-- The blocks after a COLD reset. -/
def Core.reset : Core where
  session := Session.reset
  auth := Auth.reset
  alloc := Alloc.reset
  heater := Heater.reset
  mon := Monitor.reset
  meter := Meter.reset
  queue := ExportQueue.reset
  link := Link.reset
  notices := Notices.reset
  sup := Supply.reset
  drawn := 0

/-- The lines in STARTING: the self-test drives the generator on the reference path (R106). -/
def Lines.reset : Lines where
  pilotLoad := false
  contactorDrive := false
  converterEnable := false
  commandDuty := 0
  segments := quadAll false
  generator := 25000
  referencePath := true
  vehicleAttention := false
  fleetAttention := false

/-- The part right after a COLD reset, in STARTING, with no command waiting. -/
def State.reset : State where
  env :=
    { cfg := ConfigRecord.default, table := defaultTable,
      mfe := Mfe.afterReset ConfigRecord.default }
  core := Core.reset
  vport := VehiclePort.reset
  fport := FleetPort.reset
  lines := Lines.reset
  pending := []

end Sys2Proof.Machine
end

