-- ==== Sys2Proof/Machine/Codes.lean ====
section
/-! DEFINITION. The codes of section 12.6. -/

namespace Sys2Proof.Machine

def SessionState.code : SessionState → Nat
  | .idle => 0
  | .attached => 1
  | .authorizing => 2
  | .preheat => 3
  | .charging => 4
  | .paused => 5
  | .stopping => 6
  | .closed => 7

def Contactor.code : Contactor → Nat
  | .opened => 0
  | .closing => 1
  | .closed => 2
  | .opening => 3

def AuthState.code : AuthState → Nat
  | .inactive => 0
  | .waiting => 1
  | .online => 2
  | .offline => 3
  | .free => 4
  | .refused => 5

def AuthMode.code : AuthMode → Nat
  | .online => 2
  | .offline => 3
  | .free => 4

def MonitorState.code : MonitorState → Nat
  | .off => 0
  | .selfTest => 1
  | .monitoring => 2
  | .inoperative => 3

def ResultState.code : ResultState → Nat
  | .noResult => 0
  | .ok => 1
  | .warn => 2
  | .fault => 3

def Binding.code : Binding → Nat
  | .none => 0
  | .pilot => 1
  | .cable => 2
  | .post => 3
  | .spend => 4
  | .config => 5

def StopCause.code : StopCause → Nat
  | .vehicleStop => 0
  | .postStop => 1
  | .authRejected => 2
  | .authRevoked => 3
  | .selfTestFail => 4
  | .insulationFault => 5
  | .converterFault => 6
  | .contactorFail => 7
  | .pauseTimeout => 8
  | .cableRemoved => 9
  | .supplyLoss => 10
  | .resetCommand => 11
  | .weld => 12

def RecordEnd.code : RecordEnd → Nat
  | .cause c => c.code
  | .split => 13
  | .reset => 14

def PauseCause.code : PauseCause → Nat
  | .offerZero => 0
  | .limitZero => 1
  | .vehicleSilent => 2
  | .billingHold => 3
  | .packVoltage => 4
  | .sensorsInvalid => 5

def EnergyClass.code : EnergyClass → Nat
  | .charge => 0
  | .heat => 1
  | .overhead => 2

def Notice.code : Notice → Nat
  | .sessionState => 0
  | .insulationWarn => 1
  | .insulationFault => 2
  | .weld => 3
  | .sensorFault => 4
  | .linkLost => 5
  | .linkTxFail => 6
  | .authResult => 7
  | .recordReady => 8
  | .queueFull => 9
  | .scheduleChanged => 10
  | .scheduleRejected => 11
  | .timeStep => 12
  | .wake => 13

def Status.code : Status → Nat
  | .ok => 0
  | .clamped => 1
  | .busy => 2
  | .notReady => 3
  | .badRequest => 4
  | .refusedState => 5
  | .badTable => 6
  | .listFull => 7
  | .notFound => 8
  | .notOldest => 9
  | .queueEmpty => 10
  | .timeOwned => 11
  | .wakePending => 12
  | .latchActive => 13

def ResetKind.code : ResetKind → Nat
  | .cold => 0
  | .warm => 1
  | .command => 2

def PowerState.code : PowerState → Nat
  | .starting => 0
  | .active => 1
  | .sleep => 2

def Trigger.code : Trigger → Nat
  | .rising => 0
  | .falling => 1
  | .change => 2
  | .levelHigh => 3
  | .levelLow => 4

/-- The trigger a code stands for, none for a code outside the table. -/
def Trigger.ofCode : Nat → Option Trigger
  | 0 => some .rising
  | 1 => some .falling
  | 2 => some .change
  | 3 => some .levelHigh
  | 4 => some .levelLow
  | _ => none

def Derating.code : Derating → Nat
  | .none => 0
  | .halved => 1
  | .zero => 2

def HeaterRun.code : HeaterRun → Nat
  | .off => 0
  | .armed => 1
  | .running => 2

def SelfTestKind.code : SelfTestKind → Nat
  | .startUp => 0
  | .session => 1

def ResultPath.code : ResultPath → Nat
  | .bus => 0
  | .reference => 1

def Polarity.code : Polarity → Nat
  | .positive => 0
  | .negative => 1

def TimeSource.code : TimeSource → Nat
  | .none => 0
  | .fleet => 1
  | .post => 2

def LinkState.code : LinkState → Nat
  | .silent => 0
  | .alive => 1
  | .lost => 2

def SlotState.code : SlotState → Nat
  | .empty => 0
  | .waiting => 1
  | .sending => 2

def PilotLevel.code : PilotLevel → Nat
  | .detached => 0
  | .attached => 1
  | .loaded => 2
  | .pilotError => 3

/-- The cable codes ascend with the rating (R10). -/
def CableCode.code : CableCode → Nat
  | .noCable => 0
  | .a13 => 1
  | .a20 => 2
  | .a32 => 3
  | .a63 => 4

/-- The rating in ampere (R66). -/
def CableCode.ampere : CableCode → Nat
  | .noCable => 0
  | .a13 => 13
  | .a20 => 20
  | .a32 => 32
  | .a63 => 63

def SettledLevel.code : SettledLevel → Nat
  | .low => 0
  | .high => 1
  | .unsettled => 2

def TestOutcome.code : TestOutcome → Nat
  | .passed => 0
  | .failed => 1

/-- The bit of LINK-TX-FAIL's detail (section 12.4). -/
def TxCode : TxKind → Nat
  | .status => 0
  | .authRequest => 1
  | .sessionSummary => 2

end Sys2Proof.Machine
end

