-- ==== Sys2Proof/Machine/Ops.lean ====
section
/-! DEFINITION. The named operations over State and the arithmetic, byte and set operations that every
block uses. -/

namespace Sys2Proof

/-! ### Zones and tags -/

def Quad.get {α : Type} (q : Quad α) : Machine.ZoneIx → α
  | .z0 => q.z0
  | .z1 => q.z1
  | .z2 => q.z2
  | .z3 => q.z3

def Quad.map {α β : Type} (q : Quad α) (f : α → β) : Quad β :=
  { z0 := f q.z0, z1 := f q.z1, z2 := f q.z2, z3 := f q.z3 }

def Quad.zipWith {α β γ : Type} (f : α → β → γ) (a : Quad α) (b : Quad β) : Quad γ :=
  { z0 := f a.z0 b.z0, z1 := f a.z1 b.z1, z2 := f a.z2 b.z2, z3 := f a.z3 b.z3 }

def Quad.toList {α : Type} (q : Quad α) : List α := [q.z0, q.z1, q.z2, q.z3]

/-- The eight bytes of a tag. -/
def Tag.bytes (t : Tag) : List Byte := [t.b0, t.b1, t.b2, t.b3, t.b4, t.b5, t.b6, t.b7]

/-- The tag that eight bytes are. -/
def Tag.ofBytes : List Byte → Option Tag
  | [a, b, c, d, e, f, g, h] => some ⟨a, b, c, d, e, f, g, h⟩
  | _ => none

end Sys2Proof

namespace Sys2Proof.Machine

/-! ### Updates of one block -/

def Core.onSession (c : Core) (f : Session → Session) : Core := { c with session := f c.session }
def Core.onAuth (c : Core) (f : Auth → Auth) : Core := { c with auth := f c.auth }
def Core.onAlloc (c : Core) (f : Alloc → Alloc) : Core := { c with alloc := f c.alloc }
def Core.onHeater (c : Core) (f : Heater → Heater) : Core := { c with heater := f c.heater }
def Core.onMon (c : Core) (f : Monitor → Monitor) : Core := { c with mon := f c.mon }
def Core.onMeter (c : Core) (f : Meter → Meter) : Core := { c with meter := f c.meter }
def Core.onQueue (c : Core) (f : ExportQueue → ExportQueue) : Core := { c with queue := f c.queue }
def Core.onLink (c : Core) (f : Link → Link) : Core := { c with link := f c.link }
def Core.onNotices (c : Core) (f : Notices → Notices) : Core := { c with notices := f c.notices }
def Core.onSup (c : Core) (f : Supply → Supply) : Core := { c with sup := f c.sup }

/-- One more record with unstated bytes has been formed (log 11). -/
def Core.draw (c : Core) : Core := { c with drawn := c.drawn + 1 }

def State.onCore (s : State) (f : Core → Core) : State := { s with core := f s.core }
def State.onVport (s : State) (f : VehiclePort → VehiclePort) : State := { s with vport := f s.vport }
def State.onFport (s : State) (f : FleetPort → FleetPort) : State := { s with fport := f s.fport }
def State.onMfe (s : State) (f : Mfe → Mfe) : State :=
  { s with env := { s.env with mfe := f s.env.mfe } }
def State.onCfg (s : State) (f : ConfigRecord → ConfigRecord) : State :=
  { s with env := { s.env with cfg := f s.env.cfg } }
def State.withTable (s : State) (t : List TempRow) : State := { s with env := { s.env with table := t } }

/-- An effect of the blocks that reads the environment. -/
def State.run (s : State) (f : Env → Core → Core) : State := s.onCore (f s.env)

/-! ### Numbers (section 4.2, 4.3) -/

/-- The nearest value of lo..hi (section 4.3). -/
def clampNat (lo hi v : Nat) : Nat := max lo (min hi v)

/-- The nearest value of lo..hi (section 4.3). -/
def clampInt (lo hi v : Int) : Int := max lo (min hi v)

/-- The mean of samples, rounded down toward minus infinity (R2). -/
def mean (l : List Int) : Int := l.sum / l.length

/-- Sets the bits `k`..0 of a square root from above: the largest `r` found with `r * r ≤ n`. -/
def rootFrom (n : Nat) : Nat → Nat → Nat
  | 0, r => if (r + 1) * (r + 1) ≤ n then r + 1 else r
  | k + 1, r =>
    rootFrom n k (if (r + 2 ^ (k + 1)) * (r + 2 ^ (k + 1)) ≤ n then r + 2 ^ (k + 1) else r)

/-- The square root of `n` rounded down, up to 4,095: enough for the ranges of R2. -/
def root (n : Nat) : Nat := rootFrom n 11 0

/-- The RMS value of samples, rounded down and clamped to 0..`hi` (R2, log 7). -/
def rms (hi : Nat) (l : List Int) : Nat := min hi (root (mean (l.map fun v => v * v)).toNat)

/-- The smallest of a list of integers, or `v` if it is below them. -/
def minFrom (v : Int) (l : List Int) : Int := l.foldl min v

/-- The distance of two numbers (R13, R130). -/
def distance (a b : Nat) : Nat := max a b - min a b

/-! ### Sets as masks (R192) -/

/-- Whether the member coded `i` is in the set. -/
def hasBit {n : Nat} (m : BitVec n) (i : Nat) : Bool := m.getLsbD i

/-- The set of the single member coded `i`. -/
def bit (n i : Nat) : BitVec n := BitVec.ofNat n (2 ^ i)

/-- The set with the member coded `i` in or out. -/
def putBit {n : Nat} (m : BitVec n) (i : Nat) (on : Bool) : BitVec n :=
  if on then m ||| bit n i else m &&& ~~~ bit n i

/-- The set of the positions of a list that are true, position 0 first. -/
def maskOf (n : Nat) (l : List Bool) : BitVec n :=
  BitVec.ofNat n (l.foldr (fun b acc => b.toNat + 2 * acc) 0)

/-! ### Zones -/

def ZoneIx.code : ZoneIx → Nat
  | .z0 => 0
  | .z1 => 1
  | .z2 => 2
  | .z3 => 3

/-- The zones in index order. -/
def ZoneIx.all : List ZoneIx := [.z0, .z1, .z2, .z3]

/-! ### Bytes (R192) -/

/-- A number as `n` bytes, least significant byte first. -/
def le : Nat → Nat → List Byte
  | 0, _ => []
  | n + 1, v => BitVec.ofNat 8 v :: le n (v / 256)

/-- The number that bytes carry, least significant byte first. -/
def leVal : List Byte → Nat
  | [] => 0
  | b :: rest => b.toNat + 256 * leVal rest

/-- A field of `n` bytes; a value that does not fit is carried as the free value of log 12. -/
def field (n v : Nat) : List Byte :=
  if v < 256 ^ n then le n v else le n (Config.fieldOverflow n v).toNat

/-- A signed field of `n` bytes in two's complement (R192, log 12). -/
def signedField (n : Nat) (v : Int) : List Byte :=
  if -(256 ^ n / 2 : Int) ≤ v ∧ v < (256 ^ n / 2 : Int) then le n (v % 256 ^ n).toNat
  else le n (Config.fieldOverflow n v).toNat

/-- A 2-byte word read as a signed value (R192). -/
def signed16 (v : Nat) : Int := (BitVec.ofNat 16 v).toInt

/-- One byte of the frame check (R193): the register after `k` more bits. -/
def crcBits : Nat → Half → Half
  | 0, r => r
  | k + 1, r => crcBits k (if hasBit r 0 then (r >>> 1) ^^^ 0x8408 else r >>> 1)

/-- The frame check of a frame's header and content bytes (R193). -/
def frameCheck (bytes : List Byte) : Half :=
  ~~~ (bytes.foldl (fun r b => crcBits 8 (r ^^^ b.setWidth 16)) 0xFFFF)

/-- A tag as it is sent; absent as eight zero bytes (R192). -/
def tagField : Option Tag → List Byte
  | some t => t.bytes
  | none => le 8 0

end Sys2Proof.Machine
end

