-- ==== Sys2Proof/Machine/Flags.lean ====
section
/-! DEFINITION. The conditions the blocks read of one another: every flag, set and line that is computed
from State. -/

namespace Sys2Proof.Machine

/-! ### Power -/

/-- The part is neither held in reset nor asleep: its blocks take events (R184, R189). -/
def Core.up (c : Core) : Bool := c.sup.held.isNone && c.sup.power != .sleep

/-- The part is ACTIVE and not held in reset. -/
def Core.active (c : Core) : Bool := c.sup.held.isNone && c.sup.power == .active

/-! ### Measured conditions -/

/-- The active level of a trigger (R18). -/
def Trigger.activeLevel : Trigger → SettledLevel
  | .rising | .change | .levelHigh => .high
  | .falling | .levelLow => .low

/-- The input is active: its settled level is its active level (R18). -/
def InputState.active (i : InputState) : Bool := i.level == i.trigger.activeLevel

/-- Detachment (section 2.3): a pilot level of DETACHED or a cable code of NONE. -/
def Mfe.detached (m : Mfe) : Bool := m.pilotLevel == some .detached || m.cable == some .noCable

/-- The pilot level is ATTACHED or LOADED (R23, R24). -/
def Mfe.pilotPresent (m : Mfe) : Bool :=
  m.pilotLevel == some .attached || m.pilotLevel == some .loaded

/-- The cable code is a rating (R23). -/
def Mfe.cableRated (m : Mfe) : Bool :=
  match m.cable with
  | some .noCable | none => false
  | some _ => true

/-- V_in of the set published last; INVALID reads as 0 (R65, R66). -/
def Mfe.vIn (m : Mfe) : Nat := (m.published.map (·.vIn)).getD 0

/-- V_bus of the set published last, none while its valid flag is clear (R3, R19). -/
def Mfe.vBus? (m : Mfe) : Option Nat :=
  m.published.bind fun p => if p.vBusValid then some p.vBus else none

/-! ### The vehicle charge request (R22: EXPIRED presents clear enables, I_req 0, HV-live clear) -/

def Session.chargeEnable (s : Session) : Bool := (s.request.map (·.chargeEnable)).getD false
def Session.heatEnable (s : Session) : Bool := (s.request.map (·.heatEnable)).getD false
def Session.hvLive (s : Session) : Bool := (s.request.map (·.hvLive)).getD false
def Session.iReq (s : Session) : Nat := (s.request.map (·.iReq)).getD 0

/-- Neither enable is set. -/
def ChargeRequest.release (r : ChargeRequest) : Bool := !r.chargeEnable && !r.heatEnable

/-! ### Session states -/

/-- PREHEAT and CHARGING, the states in which power flows. -/
def SessionState.powered : SessionState → Bool
  | .preheat | .charging => true
  | .idle | .attached | .authorizing | .paused | .stopping | .closed => false

/-- AUTHORIZING, PREHEAT, CHARGING and PAUSED: a stop cause moves the session (R32) and the pause causes
are kept (R30). -/
def SessionState.live : SessionState → Bool
  | .authorizing | .preheat | .charging | .paused => true
  | .idle | .attached | .stopping | .closed => false

/-- AUTHORIZING through STOPPING (R182, R183, R120). -/
def SessionState.busy (s : SessionState) : Bool := s.live || s == .stopping

/-- The opening class "at once" (R32). -/
def StopCause.atOnce : StopCause → Bool
  | .insulationFault | .cableRemoved | .supplyLoss => true
  | .vehicleStop | .postStop | .authRejected | .authRevoked | .selfTestFail | .converterFault
  | .contactorFail | .pauseTimeout | .resetCommand | .weld => false

/-! ### Export queue and meter -/

/-- The room flag (R145). -/
def ExportQueue.room (q : ExportQueue) : Bool := q.queue.length < 8 || q.held.isNone

/-- The oldest record held (R144). -/
def ExportQueue.oldest (q : ExportQueue) : Option BillingRecord :=
  match q.queue with
  | r :: _ => some r
  | [] => q.held

/-- The version of the active schedule (R132). -/
def Schedule.version : Schedule → Byte
  | .builtin => 0
  | .posted v _ => v

/-- The bands of the active schedule; version 0 of the COLD reset is priced by the configuration (R132). -/
def Schedule.bands (defaultPrice : Nat) : Schedule → List Band
  | .builtin => [{ start := 0, price := defaultPrice }]
  | .posted _ bands => bands

/-- The minute of day (R131). -/
def Meter.minute (m : Meter) : Nat := (((m.time.toNat / 60 : Nat) + m.offset) % 1440).toNat

/-- The last band of a list that starts at or before a minute, with its index; bands ascend. -/
def bandAt (minute : Nat) : Nat → List Band → Option (Nat × Band)
  | _, [] => none
  | i, b :: rest =>
    if b.start ≤ minute then some ((bandAt minute (i + 1) rest).getD (i, b)) else none

/-- The current band and its index (R131). -/
def currentBand (cfg : ConfigRecord) (m : Meter) : Nat × Band :=
  (bandAt m.minute 0 (m.schedule.bands cfg.defaultPrice)).getD (0, { start := 0, price := 0 })

/-- The price of the current band (R131). -/
def currentPrice (cfg : ConfigRecord) (m : Meter) : Nat := (currentBand cfg m).2.price

/-- The mode of the open record is ONLINE: the time is the post's (R128). -/
def Meter.timeOwned (m : Meter) : Bool :=
  match m.openRec with
  | some o => o.record.mode == some .online
  | none => false

/-! ### Start blocks (R24) -/

/-- The missing start conditions, by the codes of section 12.6: PILOT, REQUEST, ENABLE, WELD,
CONVERTER-FAULT, INSULATION, MONITOR, RECORD, QUEUE, TAG, SUPPLY. -/
def missingStart (e : Env) (c : Core) : Half :=
  maskOf 16
    [ !e.mfe.pilotPresent,
      c.session.request.isNone,
      !(c.session.chargeEnable || c.session.heatEnable),
      c.session.weldLatch,
      c.session.converterLatch,
      c.mon.result == .fault,
      c.session.monitorFailure,
      c.meter.openRec.isSome,
      !c.queue.room,
      e.cfg.authRequired && c.auth.driverTag.isNone,
      c.sup.low ]

/-- The start blocks reported: empty outside ATTACHED (R44). -/
def startBlocks (e : Env) (c : Core) : Half :=
  if c.session.state == .attached then missingStart e c else 0

/-! ### Pause conditions (R30) -/

/-- OFFER-ZERO: the offer is 0 or invalid, or the pilot level is PILOT-ERROR. -/
def offerZero (m : Mfe) : Bool := m.offer == 0 || !m.offerValid || m.pilotLevel == some .pilotError

/-- PACK-VOLTAGE: V_bus outside 2,500..4,500 dV or invalid, or HV-live clear. -/
def packVoltage (m : Mfe) (s : Session) : Bool :=
  !s.hvLive || match m.vBus? with
    | some v => v < 2500 || 4500 < v
    | none => true

/-- SENSORS-INVALID: T_min absent and charge enable set. -/
def sensorsInvalid (m : Mfe) (s : Session) : Bool := m.tMin.isNone && s.chargeEnable

/-! ### Waking conditions (R188) -/

/-- The FIFO holds nothing beyond a single flag. -/
def fifoQuiet (fifo : List Byte) : Bool := fifo == [] || fifo == [0x7E]

/-- The wake sources in their waking condition, by their codes: PILOT, FLEET, VEHICLE, FLAP. A pilot level
that has not been published is not waking (log 22). -/
def wakingSources (m : Mfe) (f : FleetPort) : Byte :=
  maskOf 8
    [ (match m.pilotLevel with
        | some .detached | none => false
        | some _ => true),
      !fifoQuiet f.fifo || f.outstanding.isSome,
      false,
      m.flap.active ]

/-! ### Driven lines -/

/-- The value of the converter command line (R81): the command in PREHEAT and CHARGING without a FAULT. -/
def commandLine (c : Core) : Nat :=
  if c.session.state.powered && c.mon.result != .fault then c.alloc.record.command else 0

/-- The contactor drive (R20). -/
def contactorDrive (s : Session) : Bool :=
  match s.state, s.contactor with
  | .authorizing, .closing => true
  | .preheat, .closed | .charging, .closed | .paused, .closed | .stopping, .closed => true
  | _, _ => false

/-- The pilot request load (R20). -/
def pilotLoad (s : Session) : Bool :=
  match s.state, s.contactor with
  | .authorizing, .closing => true
  | .preheat, _ | .charging, _ | .paused, _ | .stopping, _ => true
  | _, _ => false

/-- The generator output in mV (R106). -/
def generatorOut (m : Monitor) : Int :=
  match m.state, m.polarity with
  | .selfTest, .positive | .monitoring, .positive => 25000
  | .selfTest, .negative | .monitoring, .negative => -25000
  | .off, _ | .inoperative, _ => 0

/-- Every line the part drives (R20, R81, R94, R106, R179); all withdrawn while a reset is held (R184). -/
def linesOf (c : Core) : Lines :=
  if c.sup.held.isSome then { Lines.reset with generator := 0, referencePath := false }
  else
    { pilotLoad := pilotLoad c.session
      contactorDrive := contactorDrive c.session
      converterEnable := c.session.state.powered
      commandDuty := commandLine c * 1000 / 22000
      segments :=
        { z0 := c.heater.energized == some .z0
          z1 := c.heater.energized == some .z1
          z2 := c.heater.energized == some .z2
          z3 := c.heater.energized == some .z3 }
      generator := generatorOut c.mon
      referencePath := c.mon.state == .selfTest
      vehicleAttention := (c.notices.vehiclePending &&& c.notices.vehicleEnable) != 0
      fleetAttention := (c.notices.fleetPending &&& c.notices.fleetEnable) != 0 }

/-- The lines follow the state at the end of each step; READY is negated while a reset is held (R184). -/
def State.settle (s : State) : State :=
  { s with
    lines := linesOf s.core
    vport := { s.vport with ready := s.vport.ready && s.core.sup.held.isNone } }

end Sys2Proof.Machine
end

