-- ==== Sys2Proof/Machine/Layout.lean ====
section
/-! DEFINITION. The layouts of chapter 12: status core, status record, insulation response, billing record,
configuration. A field whose value is absent and for which the tables give no code carries unstated
bytes (log 11). -/

namespace Sys2Proof.Machine

/-- `n` unstated bytes of the record now formed, for the field at `place` (log 11). -/
def unstated (c : Core) (place : Nat) : Nat → List Byte
  | 0 => []
  | n + 1 => Config.unstatedByte c.drawn place :: unstated c (place + 1) n

def boolField (b : Bool) : List Byte := [if b then 1 else 0]

/-- A one-byte field whose absent value is 0xFF (R192). -/
def byteOrFF (v : Option Nat) : List Byte := field 1 (v.getD 0xFF)

/-- A two-byte field with a code for the absent value. -/
def halfOr (absent : Nat) (v : Option Nat) : List Byte := field 2 (v.getD absent)

/-- A signed two-byte field that reads 0x8000 when absent. -/
def signedOr8000 (v : Option Int) : List Byte :=
  match v with
  | some x => signedField 2 x
  | none => le 2 0x8000

/-- A flags byte or set of up to 8 members, member 0 first. -/
def flagsByte (l : List Bool) : List Byte := [maskOf 8 l]

/-! ### Status core (section 12.4) -/

/-- The request's fields; an EXPIRED request has I_req 0, and its V_target is not stated (R22, log 11). -/
def requestFields (c : Core) : List Byte :=
  flagsByte
      [ c.session.chargeEnable, c.session.heatEnable, c.session.hvLive, false, false, false, false,
        c.session.request.isNone ]
    ++ field 2 c.session.iReq
    ++ match c.session.request with
      | some r => field 2 r.vTarget
      | none => unstated c 14 2

/-- The session controller's fields (R44). -/
def sessionFields (e : Env) (c : Core) : List Byte :=
  field 1 c.session.state.code ++ le 2 c.session.number.toNat ++ le 2 (startBlocks e c).toNat
    ++ [c.session.pauseCauses] ++ byteOrFF (c.session.endReason.map StopCause.code)
    ++ le 2 c.session.faultsSeen.toNat ++ field 1 c.session.contactor.code
    ++ flagsByte [c.session.weldLatch, c.session.converterLatch] ++ requestFields c

/-- The authorization unit's fields (R56): the send time reads 0 without a pending request. -/
def authFields (c : Core) : List Byte :=
  flagsByte [c.auth.driverTag.isSome, c.auth.lateAccept, c.auth.request.isSome]
    ++ field 1 c.auth.state.code ++ byteOrFF (c.auth.mode.map AuthMode.code)
    ++ le 4 ((c.auth.request.map (·.sendTime.toNat)).getD 0)

/-- The first 39 bytes of the status record, and the content of STATUS (R165). -/
def statusCore (e : Env) (c : Core) : List Byte :=
  sessionFields e c ++ authFields c
    ++ field 2 c.alloc.record.pInLim ++ field 1 c.alloc.record.binding.code
    ++ field 2 c.alloc.record.command ++ field 1 c.mon.result.code ++ le 4 c.meter.time.toNat
    ++ [c.meter.schedule.version] ++ field 4 (c.meter.energy / 3600)
    ++ [maskOf 8
        [ c.queue.queue.length.testBit 0, c.queue.queue.length.testBit 1,
          c.queue.queue.length.testBit 2, c.queue.queue.length.testBit 3, c.queue.held.isSome ]]

/-! ### Groups of the status record (section 12.4) -/

/-- Allocator group, 37 bytes. -/
def allocGroup (r : AllocRecord) : List Byte :=
  field 4 r.pPilot ++ field 4 r.pCable ++ field 4 (r.pPost.getD 0xFFFFFFFF)
    ++ field 4 (r.pSpend.getD 0xFFFFFFFF) ++ field 4 r.pCfg ++ field 1 r.derating.code
    ++ field 2 r.pOut ++ field 2 r.iTab ++ field 2 r.pChgReq ++ field 2 r.pHeatReq
    ++ field 2 r.pChgAlloc ++ field 2 r.pHeatAlloc ++ field 2 r.pChgCmd
    ++ halfOr 0xFFFF r.pendingIncrease

/-- The slot list entries at positions after the current one (R96, R102). -/
def Heater.remaining (h : Heater) : Nat :=
  match h.position with
  | some p => h.slots.length - (p + 1)
  | none => 0

/-- Heater group, 16 bytes. -/
def heaterGroup (h : Heater) : List Byte :=
  field 1 h.run.code ++ signedOr8000 h.target ++ h.d.toList.flatMap (field 1)
    ++ flagsByte h.inhibited.toList ++ field 1 h.demand ++ field 2 h.held ++ field 1 h.frameS
    ++ field 1 h.started ++ field 1 h.remaining ++ byteOrFF h.position
    ++ byteOrFF (h.energized.map ZoneIx.code)

/-- R_iso as sent: 0xFFFE for ABOVE-RANGE. -/
def RIso.wire : RIso → Nat
  | .kohm v => v
  | .aboveRange => 0xFFFE

/-- Monitor group, 3 bytes. -/
def monitorGroup (m : Monitor) : List Byte :=
  field 1 m.state.code ++ halfOr 0xFFFF (m.last.map (·.rIso.wire))

/-- Meter group, 36 bytes. -/
def meterGroup (e : Env) (c : Core) : List Byte :=
  boolField c.meter.timeValid ++ field 1 c.meter.source.code ++ signedField 2 c.meter.offset
    ++ field 1 (currentBand e.cfg c.meter).1 ++ field 2 (currentPrice e.cfg c.meter)
    ++ (match c.meter.staging with
      | some s => [s.version] ++ field 1 (s.bands.filter Option.isSome).length
      | none => le 2 0)
    ++ field 4 c.meter.spendCap ++ boolField c.meter.held ++ field 8 c.meter.energy
    ++ field 2 c.meter.remCharge ++ field 2 c.meter.remHeat ++ field 2 c.meter.remOverhead
    ++ match c.meter.openRec with
      | some o =>
        le 2 o.record.number.toNat ++ field 1 o.record.continuation
          ++ field 1 o.record.lines.length ++ field 4 (o.record.lines.map (·.mwh)).sum
      | none => unstated c 120 2 ++ byteOrFF none ++ byteOrFF none ++ unstated c 124 4

/-- Queue group, 5 bytes. -/
def queueGroup (c : Core) : List Byte :=
  boolField c.queue.room ++ boolField c.queue.oldest.isSome
    ++ match c.queue.oldest with
      | some r => le 2 r.number.toNat ++ field 1 r.continuation
      | none => unstated c 130 2 ++ byteOrFF none

/-- A transmit slot, 3 bytes; without a message its next segment is absent. -/
def slotFields (s : TxSlot) : List Byte :=
  field 1 s.state.code ++ byteOrFF (s.message.map (·.next)) ++ boolField s.successor.isSome

/-- Link group, 15 bytes. -/
def linkGroup (e : Env) (l : Link) : List Byte :=
  field 1 l.state.code ++ field 1 e.cfg.ownAddress ++ halfOr 0xFFFF l.postLimit
    ++ boolField (!l.postValid) ++ boolField l.heard ++ slotFields l.status
    ++ slotFields l.authRequest ++ slotFields l.summary

/-- The windowed values of a published set (R2, R3). -/
def setFields (p : MeasurementSet) : List Byte :=
  field 2 p.l1.volts ++ field 2 p.l2.volts ++ field 2 p.l3.volts
    ++ field 2 p.l1.amps ++ field 2 p.l2.amps ++ field 2 p.l3.amps
    ++ signedField 2 p.l1.power ++ signedField 2 p.l2.power ++ signedField 2 p.l3.power
    ++ signedField 2 p.pIn ++ field 2 p.vIn ++ field 2 p.vBus ++ field 2 p.iOut ++ field 2 p.iHeat

/-- T_k as published; without a value its bytes are not stated. -/
def zoneField (c : Core) (place : Nat) (z : Zone) : List Byte :=
  match z.value with
  | some t => signedField 2 t
  | none => unstated c place 2

/-- Measurement group, 52 bytes. -/
def measureGroup (c : Core) (m : Mfe) : List Byte :=
  flagsByte
      [ m.published.isSome, m.vBus?.isSome, m.published.isSome, m.published.isSome,
        m.zones.z0.validity == .valid, m.zones.z1.validity == .valid,
        m.zones.z2.validity == .valid, m.zones.z3.validity == .valid ]
    ++ (match m.published with
      | some p => setFields p
      | none => unstated c 150 28)
    ++ zoneField c 180 m.zones.z0 ++ zoneField c 182 m.zones.z1 ++ zoneField c 184 m.zones.z2
    ++ zoneField c 186 m.zones.z3 ++ signedOr8000 m.tMin
    ++ byteOrFF (m.published.map (·.vSupMean)) ++ byteOrFF (m.published.map (·.vSupMin))
    ++ byteOrFF (m.pilotLevel.map PilotLevel.code) ++ byteOrFF (m.cable.map CableCode.code)
    ++ halfOr 0xFFFF m.accepted ++ field 2 m.offer ++ boolField m.offerValid
    ++ field 1 m.aux.level.code ++ field 1 m.fault.level.code ++ field 1 m.flap.level.code
    ++ flagsByte [m.aux.active, m.fault.active, m.flap.active]

/-- Supply group, 2 bytes, and notice details group, 3 bytes. -/
def supplyAndDetails (c : Core) : List Byte :=
  boolField c.sup.low ++ field 1 c.sup.power.code
    ++ [c.notices.sensorZones, c.notices.txKinds, c.notices.vehicleWake]

/-- The status record of READ-STATUS, 208 bytes (R177, section 12.4). Its layout has no place for record close
pending (R152), and the model adds none (log 44). -/
def statusRecord (e : Env) (c : Core) : List Byte :=
  statusCore e c ++ allocGroup c.alloc.record ++ heaterGroup c.heater ++ monitorGroup c.mon
    ++ meterGroup e c ++ queueGroup c ++ linkGroup e c.link ++ measureGroup c e.mfe
    ++ supplyAndDetails c

/-- What the response to READ-STATUS carries: the status record, and behind it the reset kind last taken, which is
read with READ-STATUS too (R184) and has no place in the record's 208 bytes (log 44). -/
def statusContent (e : Env) (c : Core) : List Byte := statusRecord e c ++ field 1 c.sup.kind.code

/-! ### READ-INSULATION (section 12.3) -/

/-- The 13-byte block of a cycle result. -/
def resultBlock (c : Core) (place : Nat) : Option CycleResult → List Byte
  | none => le 2 0xFFFF ++ le 4 0 ++ le 1 0xFF ++ le 6 0
  | some r =>
    field 2 r.rIso.wire ++ le 4 r.time.toNat ++ field 1 r.path.code
      ++ (match r.vBus with
        | some v => field 2 v
        | none => unstated c place 2)
      ++ match r.thresholds with
        | some (w, f) => field 2 w ++ field 2 f
        | none => unstated c (place + 2) 4

/-- The 44 bytes of READ-INSULATION (R122). -/
def insulationContent (e : Env) (c : Core) : List Byte :=
  field 1 c.mon.state.code ++ byteOrFF (c.mon.kind.map SelfTestKind.code)
    ++ field 1 c.mon.result.code ++ resultBlock c 200 c.mon.last ++ resultBlock c 210 c.mon.faultResult
    ++ field 1 c.mon.polarity.code ++ boolField c.mon.window ++ signedOr8000 c.mon.vPos
    ++ field 1 c.mon.discards ++ field 1 c.mon.noResults ++ field 1 c.mon.low
    ++ field 1 c.mon.good ++ field 1 c.mon.pass ++ field 2 e.cfg.halfPeriod
    ++ field 2 e.cfg.warnOhms ++ field 2 e.cfg.faultOhms

/-! ### Billing record (section 12.5) -/

/-- A line, 13 bytes; a cost not yet formed reads 0. -/
def lineBytes (l : Line) : List Byte :=
  [l.version] ++ field 1 l.band ++ field 1 l.cls.code ++ field 2 l.price ++ field 4 l.mwh
    ++ field 4 (l.cost.getD 0)

/-- The fields that follow the record's identity: end reason and total energy differ for a running record. -/
def recordBytes (r : BillingRecord) (endReason : Option RecordEnd) (total : Nat) : List Byte :=
  le 2 r.number.toNat ++ field 1 r.continuation ++ tagField r.tag
    ++ byteOrFF (r.mode.map AuthMode.code) ++ le 4 r.startTime.toNat
    ++ le 4 ((r.endTime.map (·.toNat)).getD 0) ++ byteOrFF (endReason.map RecordEnd.code)
    ++ le 2 r.faultsSeen.toNat
    ++ flagsByte
      [r.timeStep, r.timeInvalid, r.scheduleChanged, r.lateAccept, r.folded, r.tag.isSome]
    ++ field 1 r.lines.length ++ field 4 total ++ field 4 r.totalCost ++ r.lines.flatMap lineBytes

/-- A closed record as READ-OLDEST-RECORD returns it (R147). -/
def closedBytes (r : BillingRecord) : List Byte := recordBytes r r.endReason r.totalMwh

/-- The READ-OPEN-RECORD response (R150): a running record shows no end reason and the sum of its lines. -/
def openContent : Option OpenRecord → List Byte
  | none => le 1 0
  | some o =>
    if o.closeRequested then le 1 2 ++ closedBytes o.record
    else le 1 1 ++ recordBytes o.record none (o.record.lines.map (·.mwh)).sum

/-! ### Configuration (section 12.3) -/

/-- The 21 fields of READ-CONFIG in the order of their presence bits. -/
def configFields (g : ConfigRecord) : List Byte :=
  field 2 g.authRequired.toNat ++ signedField 2 g.permitTemp ++ field 2 g.phases ++ field 2 g.pCfg
    ++ field 2 g.eta ++ field 2 g.reserve ++ field 2 g.fallback ++ field 2 g.pSeg
    ++ signedField 2 g.preheatTarget ++ signedField 2 g.chargeTarget ++ field 2 g.gain
    ++ field 2 g.halfPeriod ++ field 2 g.warnOhms ++ field 2 g.faultOhms ++ field 2 g.defaultPrice
    ++ field 2 g.ownAddress ++ le 2 g.accCode.toNat ++ le 2 g.accMask.toNat
    ++ field 2 g.auxTrigger.code ++ field 2 g.faultTrigger.code ++ field 2 g.flapTrigger.code

/-- The 74 bytes of READ-CONFIG (R182). -/
def configContent (e : Env) : List Byte :=
  configFields e.cfg
    ++ e.table.flatMap fun r => signedField 2 r.breakpoint ++ field 2 r.current

/-- An allow-list entry as ALLOW-READ returns it (section 12.3). -/
def allowEntryBytes (a : AllowEntry) : List Byte :=
  a.tag.bytes ++ boolField a.expiry.isSome ++ le 4 ((a.expiry.map (·.toNat)).getD 0)

/-- IDENTIFY (R186): the revision code reads 0 during STARTING. -/
def identifyContent (s : Supply) : List Byte :=
  le 2 Config.partIdentity.toNat
    ++ le 2 (if s.power == .starting then 0 else Config.revisionIndex.val + 1)
    ++ field 1 s.kind.code ++ field 1 s.power.code ++ byteOrFF (s.selfTest.map TestOutcome.code)

end Sys2Proof.Machine
end

