-- ==== Sys2Proof/Machine/Notices.lean ====
section
/-! DEFINITION. The notice unit (section 10.4): posting, enabling and acknowledging notices. -/

namespace Sys2Proof.Machine

/-- The notice enters the pending set of each master it is routed to (R178). -/
def enterNotice (n : Notice) (u : Notices) : Notices :=
  { u with
    vehiclePending := u.vehiclePending ||| (bit 16 n.code &&& vehicleRouted)
    fleetPending := u.fleetPending ||| (bit 16 n.code &&& fleetRouted) }

/-- A block posts a notice without a detail (R178). -/
def post (n : Notice) (c : Core) : Core := c.onNotices (enterNotice n)

/-- SENSOR-FAULT names a set of zones, added to its detail (R5, R178). -/
def postSensorFault (zones : Byte) (c : Core) : Core :=
  if zones = 0 then c
  else c.onNotices fun u => { enterNotice .sensorFault u with sensorZones := u.sensorZones ||| zones }

/-- LINK-TX-FAIL names the kind of the abandoned message (R163, R178). -/
def postTxFail (k : TxKind) (c : Core) : Core :=
  c.onNotices fun u => { enterNotice .linkTxFail u with txKinds := u.txKinds ||| bit 8 (TxCode k) }

/-- WAKE names its sources to both masters (R189, R178). -/
def postWake (sources : Byte) (c : Core) : Core :=
  c.onNotices fun u =>
    { enterNotice .wake u with
      vehicleWake := u.vehicleWake ||| sources
      fleetWake := u.fleetWake ||| sources }

/-- The pending set that the header of a response on a port carries (R170, R178). -/
def Notices.pendingOf (u : Notices) : Port → Half
  | .vehicle => u.vehiclePending
  | .fleet => u.fleetPending

/-- ENABLE-NOTICES: the enable set becomes the routed notices named (R179). -/
def enableNotices (p : Port) (mask : Half) (u : Notices) : Notices :=
  match p with
  | .vehicle => { u with vehicleEnable := mask &&& vehicleRouted }
  | .fleet => { u with fleetEnable := mask &&& fleetRouted }

/-- The details of the vehicle master's notices that are no longer pending are emptied (R178). -/
def clearVehicleDetails (u : Notices) : Notices :=
  { u with
    sensorZones := if hasBit u.vehiclePending Notice.sensorFault.code then u.sensorZones else 0
    txKinds := if hasBit u.vehiclePending Notice.linkTxFail.code then u.txKinds else 0
    vehicleWake := if hasBit u.vehiclePending Notice.wake.code then u.vehicleWake else 0 }

/-- The detail of the fleet master's WAKE is emptied once it is not pending (R178). -/
def clearFleetDetails (u : Notices) : Notices :=
  { u with fleetWake := if hasBit u.fleetPending Notice.wake.code then u.fleetWake else 0 }

/-- ACK-NOTICES: the named notices leave the requesting master's pending set, with their details (R180). -/
def ackNotices (p : Port) (mask : Half) (u : Notices) : Notices :=
  match p with
  | .vehicle => clearVehicleDetails { u with vehiclePending := u.vehiclePending &&& ~~~ mask }
  | .fleet => clearFleetDetails { u with fleetPending := u.fleetPending &&& ~~~ mask }

end Sys2Proof.Machine
end

