-- ==== Sys2Proof/Machine/Link.lean ====
section
/-! DEFINITION. The charge link (chapter 9): taking frames, transmit slots, link state and post limit. -/

namespace Sys2Proof.Machine

/-! ### Identifiers and frames (R155, section 12.2) -/

/-- The identifier of a kind and an address. -/
def identOf (kind address : Nat) : CanId := BitVec.ofNat 11 (kind * 64 + address)

/-- The kind numbers of the van's messages. -/
def txKindNumber : TxKind → Nat
  | .status => 16
  | .authRequest => 17
  | .sessionSummary => 18

/-- How many segments a content takes: 7 bytes each, and at least one. -/
def segmentCount (content : List Byte) : Nat := max 1 ((content.length + 6) / 7)

/-- The frame that carries segment `m.next` of a message. -/
def segmentFrame (m : TxMessage) : CanFrame where
  extended := false
  remote := false
  ident := m.ident
  data := BitVec.ofNat 8 (m.next * 16 + (segmentCount m.content - 1))
    :: (m.content.drop (m.next * 7)).take 7

/-! ### Transmit slots (R161, R162, R163) -/

def Link.slot (l : Link) : TxKind → TxSlot
  | .status => l.status
  | .authRequest => l.authRequest
  | .sessionSummary => l.summary

def Link.setSlot (l : Link) (k : TxKind) (s : TxSlot) : Link :=
  match k with
  | .status => { l with status := s }
  | .authRequest => { l with authRequest := s }
  | .sessionSummary => { l with summary := s }

/-- A slot WAITING with a message. -/
def TxSlot.waitingWith (m : TxMessage) : TxSlot :=
  { state := .waiting, message := some m, replaced := false, successor := none }

/-- Placement (R161): a message being sent is finished first, and the new one is its successor. -/
def placeIn (m : TxMessage) (s : TxSlot) : TxSlot :=
  match s.state with
  | .empty | .waiting => TxSlot.waitingWith m
  | .sending => { s with replaced := true, successor := some m }

/-- A message is placed in its slot with its 500 ms timer and the own address as it stands (R161). -/
def placeMessage (e : Env) (k : TxKind) (content : List Byte) (c : Core) : Core :=
  c.onLink fun l =>
    l.setSlot k (placeIn
      { ident := identOf (txKindNumber k) e.cfg.ownAddress, content, next := 0, timer := some 500 }
      (l.slot k))

/-- A STATUS is formed and placed (R164, R165). -/
def placeStatus (e : Env) (c : Core) : Core :=
  (placeMessage e .status (statusCore e c) c).draw

/-- AUTH-REQUEST: session number and session tag (R49, section 12.2). -/
def placeAuthRequest (e : Env) (c : Core) : Core :=
  placeMessage e .authRequest (le 2 c.session.number.toNat ++ tagField c.auth.sessionTag) c

/-- SESSION-SUMMARY of a record placed for export (R151, section 12.2). -/
def placeSummary (e : Env) (r : BillingRecord) (c : Core) : Core :=
  placeMessage e .sessionSummary
    (le 2 r.number.toNat ++ field 1 r.continuation ++ field 4 r.totalMwh ++ field 4 r.totalCost) c

/-- The kinds in the order of their identifiers: the kind number decides (R155, R162). -/
def txOrder : List TxKind := [.status, .authRequest, .sessionSummary]

/-- No attempt of the part is under way (R162). -/
def Link.idle (l : Link) : Bool := txOrder.all fun k => (l.slot k).state != .sending

/-- The WAITING slot with the lowest identifier (R162). -/
def Link.firstWaiting (l : Link) : Option TxKind :=
  txOrder.find? fun k => (l.slot k).state == .waiting && (l.slot k).message.isSome

/-- The slot that is SENDING, if any. -/
def Link.sendingKind (l : Link) : Option TxKind :=
  txOrder.find? fun k => (l.slot k).state == .sending

/-- An attempt starts with the next segment of the first waiting slot (R162). -/
def startAttempt (l : Link) : Link :=
  match if l.idle then l.firstWaiting else none with
  | some k =>
    { l.setSlot k { l.slot k with state := .sending } with
      onBus := (l.slot k).message.map segmentFrame }
  | none => l

/-- What a slot holds after its message has left it: the successor, WAITING, or nothing (R161). -/
def afterMessage (s : TxSlot) : TxSlot :=
  match s.successor with
  | some m => TxSlot.waitingWith m
  | none => TxSlot.empty

/-- The message's last segment is the one just sent. -/
def lastSegment (m : TxMessage) : Bool := m.next + 1 == segmentCount m.content

/-- The end of an attempt (R161, R162, R163): the slot afterwards, and whether its message was abandoned. A
message whose 500 ms ran out during the attempt is abandoned unless its last segment was
acknowledged. -/
def endAttempt (o : TxOutcome) (s : TxSlot) (m : TxMessage) : TxSlot × Bool :=
  if o == .acknowledged && lastSegment m then (afterMessage s, false)
  else if m.timer.isNone then (afterMessage s, true)
  else if s.replaced then (afterMessage s, false)
  else
    ({ s with
        state := .waiting
        message := some (if o == .acknowledged then { m with next := m.next + 1 } else m) }, false)

/-- The attempt under way ends, and an abandonment is posted (R162, R163). -/
def finishAttempt (o : TxOutcome) (c : Core) : Core :=
  match c.link.sendingKind with
  | none => c
  | some k =>
    match (c.link.slot k).message with
    | none => c
    | some m =>
      let c' := c.onLink fun l =>
        { l.setSlot k (endAttempt o (l.slot k) m).1 with onBus := none }
      if (endAttempt o (c.link.slot k) m).2 then postTxFail k c' else c'

/-- The 500 ms timer of a slot's own message runs out (R163). -/
def expireCurrent (k : TxKind) (c : Core) : Core :=
  match (c.link.slot k).message with
  | none => c
  | some m =>
    if m.timer.isNone then c
    else
      match (c.link.slot k).state with
      | .sending =>
        c.onLink fun l => l.setSlot k { l.slot k with message := some { m with timer := none } }
      | .waiting | .empty => postTxFail k (c.onLink fun l => l.setSlot k TxSlot.empty)

/-- The 500 ms timer of a successor runs out: it is abandoned at once (R161). -/
def expireSuccessor (k : TxKind) (c : Core) : Core :=
  if (c.link.slot k).successor.isNone then c
  else postTxFail k (c.onLink fun l => l.setSlot k { l.slot k with successor := none })

/-! ### Link state and post limit (R159, R160) -/

/-- A frame of a post kind: the post is alive (R159). -/
def hearPost (c : Core) : Core :=
  c.onLink fun l => { l with state := .alive, aliveTimer := some 5000 }

/-- The link-alive timer expires (R159). -/
def loseLink (c : Core) : Core :=
  let c' := c.onLink fun l => { l with aliveTimer := none }
  if c.link.state == .alive then post .linkLost (c'.onLink fun l => { l with state := .lost }) else c'

/-- A POWER-LIMIT is taken (R160). -/
def takePowerLimit (limit : Nat) (c : Core) : Core :=
  c.onLink fun l =>
    { l with
      postLimit := some (clampNat 0 2200 limit)
      postValid := true
      postTimer := some 5000
      heard := true }

/-- The post limit goes stale (R160). -/
def stalePostLimit (c : Core) : Core :=
  c.onLink fun l => { l with postValid := false, postTimer := none }

/-- At the entry to AUTHORIZING the post limit is forgotten (R160). -/
def forgetPostLimit (c : Core) : Core :=
  c.onLink fun l => { l with postLimit := none, postValid := false, postTimer := none, heard := false }

/-! ### Taking frames (R156, R157) -/

/-- The post kind of a kind number. -/
def postKind : Nat → Option PostKind
  | 1 => some .powerLimit
  | 2 => some .authVerdict
  | 3 => some .tariff
  | 4 => some .time
  | 5 => some .stop
  | _ => none

/-- The filter: a standard data frame with a segment byte, broadcast or matching code and mask (R156). -/
def frameAccepted (cfg : ConfigRecord) (f : CanFrame) : Bool :=
  !f.extended && !f.remote && f.data != []
    && (f.ident.toNat % 64 == 63 || ((f.ident ^^^ cfg.accCode) &&& cfg.accMask) == 0)

def Link.assembly (l : Link) : PostKind → Option Assembly
  | .powerLimit => l.asmPowerLimit
  | .authVerdict => l.asmVerdict
  | .tariff => l.asmTariff
  | .time => l.asmTime
  | .stop => l.asmStop

def Link.setAssembly (l : Link) (k : PostKind) (a : Option Assembly) : Link :=
  match k with
  | .powerLimit => { l with asmPowerLimit := a }
  | .authVerdict => { l with asmVerdict := a }
  | .tariff => { l with asmTariff := a }
  | .time => { l with asmTime := a }
  | .stop => { l with asmStop := a }

/-- One frame at an assembly (R157): segment byte, content bytes, assembly before; the assembly after, and
the segment count and content of a message that it completes. -/
def assemble (segByte : Byte) (bytes : List Byte) (a : Option Assembly) :
    Option Assembly × Option (Nat × List Byte) :=
  let k := segByte.toNat / 16
  let count := segByte.toNat % 16 + 1
  if k = 0 then
    if count = 1 then (none, some (1, bytes)) else (some { count, next := 1, content := bytes }, none)
  else
    match a with
    | none => (none, none)
    | some a =>
      if k = a.next && count = a.count then
        if k + 1 = count then (none, some (count, a.content ++ bytes))
        else (some { a with next := k + 1, content := a.content ++ bytes }, none)
      else (none, none)

/-- A complete message has the segment count and a content length of its kind (R157, R155, section 12.2). -/
def messageFits (k : PostKind) (count len : Nat) : Bool :=
  match k with
  | .powerLimit => count == 1 && len == 2
  | .authVerdict => count == 2 && len == 11
  | .tariff => count == 1 && len == 7
  | .time => count == 1 && (len == 4 || len == 6)
  | .stop => count == 1 && len == 0

end Sys2Proof.Machine
end

