-- ==== Sys2Proof/Machine/Heater.lean ====
section
/-! DEFINITION. The heater scheduler (chapter 5): run state, demand, frame, slots, trim and deferral. -/

namespace Sys2Proof.Machine

/-- A disturbance report to the monitor: it counts while the quiet window is open (R109). -/
def disturb (c : Core) : Core :=
  if c.mon.window then c.onMon fun m => { m with mark := true } else c

/-! ### Forced edges and OFF (R86, R99) -/

/-- A segment is de-energized outside a scheduled boundary, and the edge reported (R99). -/
def forcedEdge (c : Core) : Core :=
  if c.heater.energized.isSome then disturb (c.onHeater fun h => { h with energized := none }) else c

/-- The scheduler in OFF: no frame runs (R86). -/
def Heater.off (h : Heater) : Heater :=
  { h with
    run := .off
    slots := []
    frameS := 0
    position := none
    started := 0
    deferred := false
    energized := none
    slotTimer := none }

/-- The run state becomes OFF at the event that causes it (R86, R100). -/
def heaterOff (c : Core) : Core := (forcedEdge c).onHeater Heater.off

/-! ### Targets and demand (R87, R88, R89) -/

/-- The zone target of a session state (R87). -/
def targetOf (cfg : ConfigRecord) : SessionState → Option Int
  | .preheat => some cfg.preheatTarget
  | .charging | .paused => some cfg.chargeTarget
  | .idle | .attached | .authorizing | .stopping | .closed => none

/-- The demand of one zone in slots (R88). -/
def zoneDemand (target : Option Int) (gain : Nat) (inhibited : Bool) (z : Zone) : Nat :=
  match target, z.value with
  | some t, some v => if inhibited then 0 else (clampInt 0 64 ((t - v) * gain / 10)).toNat
  | _, _ => 0

/-- The demands and D formed from the zones published last (R88). -/
def Heater.formDemand (e : Env) (h : Heater) : Heater :=
  let d := Quad.zipWith (zoneDemand h.target e.cfg.gain) h.inhibited e.mfe.zones
  { h with d, demand := min 64 d.toList.sum }

/-- INHIBITED follows the validity of the set delivered; a zone inhibited while energized loses its segment
by a forced edge (R89). -/
def inhibitZones (e : Env) (c : Core) : Core :=
  let inhibited := e.mfe.zones.map fun z => z.validity != .valid
  let c' := c.onHeater fun h => { h with inhibited }
  match c.heater.energized with
  | some k => if inhibited.get k then forcedEdge c' else c'
  | none => c'

/-- The heater takes a measurement set (R89, R88). -/
def heaterTakeSet (e : Env) (c : Core) : Core := (inhibitZones e c).onHeater (Heater.formDemand e)

/-- The heater follows a change of the session state (R86, R87, R101). -/
def heaterFollow (e : Env) (old new : SessionState) (c : Core) : Core :=
  let c' :=
    if new.powered && !old.powered then c.onHeater fun h => { h with run := .armed }
    else if old.powered && !new.powered then heaterOff c
    else c
  c'.onHeater fun h => Heater.formDemand e { h with target := targetOf e.cfg new }

/-! ### The frame (R91, R92, R93) -/

/-- Inserts a zone into an order by value, lowest first; equal values keep the lower index first (R92). -/
def insertZone (value : ZoneIx → Int) (k : ZoneIx) : List ZoneIx → List ZoneIx
  | [] => [k]
  | j :: rest => if value k ≤ value j then k :: j :: rest else j :: insertZone value k rest

/-- The zones in order of their published values, lowest first (R92). -/
def zoneOrder (zones : Quad Zone) : List ZoneIx :=
  ZoneIx.all.foldr (insertZone fun k => (zones.get k).value.getD 0) []

/-- The slot list (R92): in round `r` every zone whose demand exceeds `r` takes one entry, in the order of
the zones; the building stops at `count` entries. -/
def buildSlots (zones : Quad Zone) (d : Quad Nat) (count : Nat) : List ZoneIx :=
  ((List.range 64).flatMap fun r => (zoneOrder zones).filter fun k => r < d.get k).take count

/-- The bound on energized slots that an allocation gives (R91, R93, R96). -/
def slotBound (cfg : ConfigRecord) (alloc : Nat) : Nat := alloc * 64 / cfg.pSeg

/-- The decision at the beginning of slot `p` (R93). -/
def Heater.beginSlot (cfg : ConfigRecord) (p : Nat) (h : Heater) : Heater :=
  match h.slots[p]? with
  | none => { h with energized := none }
  | some k =>
    if h.inhibited.get k then { h with energized := none }
    else if h.started + 1 ≤ slotBound cfg h.lastHanded then
      { h with started := h.started + 1, energized := some k }
    else { h with slots := h.slots.take p, energized := none }

/-- A frame starts (R91): allocation and demand are read, the list is built, slot 0 begins. -/
def Heater.startFrame (e : Env) (h : Heater) : Heater :=
  let s := min h.demand (slotBound e.cfg h.lastHanded)
  Heater.beginSlot e.cfg 0
    { h with
      run := .running
      held := h.lastHanded
      slots := buildSlots e.mfe.zones h.d s
      frameS := s
      started := 0
      position := some 0
      deferred := false
      slotTimer := some 50 }

/-- A slot boundary is taken (R90): the next slot begins, or the frame ends and a new one starts. In ARMED
the boundary is the first frame start (R91). -/
def Heater.takeBoundary (e : Env) (h : Heater) : Heater :=
  match h.run, h.position with
  | .off, _ => h
  | .running, some p =>
    if p < 63 then
      Heater.beginSlot e.cfg (p + 1)
        { h with position := some (p + 1), deferred := false, slotTimer := some 50 }
    else Heater.startFrame e h
  | .running, none | .armed, _ => Heater.startFrame e h

/-- A boundary falls due: taken at once, or deferred while the quiet window is open (R97). -/
def boundaryDue (e : Env) (c : Core) : Core :=
  if c.mon.window then c.onHeater fun h => { h with deferred := true, slotTimer := none }
  else c.onHeater (Heater.takeBoundary e)

/-- The end of the quiet window: a deferred boundary is taken (R97). -/
def heaterWindowEnd (e : Env) (c : Core) : Core :=
  if c.heater.deferred then c.onHeater (Heater.takeBoundary e) else c

/-! ### Changes of allocation (R95, R96) -/

/-- A trim to the bound of a handed value (R96): remaining entries are cut from the end; with fewer allowed
than have started, the running segment is de-energized too. -/
def trim (cfg : ConfigRecord) (v : Nat) (c : Core) : Core :=
  let bound := slotBound cfg v
  let next := (c.heater.position.map (· + 1)).getD 0
  if c.heater.started + (c.heater.slots.length - next) ≤ bound then c
  else if c.heater.started ≤ bound then
    c.onHeater fun h => { h with slots := h.slots.take (next + (bound - h.started)) }
  else forcedEdge (c.onHeater fun h => { h with slots := h.slots.take next })

/-- The allocator hands P_heat_alloc (R82, R95): recorded; in ARMED it starts the first frame; in RUNNING a
lower value trims. In OFF the value is also the allocation held (R86, log 17). -/
def handHeat (e : Env) (v : Nat) (c : Core) : Core :=
  let before := c.heater.lastHanded
  let c' := c.onHeater fun h => { h with lastHanded := v }
  match c.heater.run with
  | .off => c'.onHeater fun h => { h with held := v }
  | .armed => boundaryDue e c'
  | .running => if v < before then trim e.cfg v c' else c'

end Sys2Proof.Machine
end

