-- ==== Sys2Proof/Machine/SessionBase.lean ====
section
/-! DEFINITION. The session controller's state changes and pauses (sections 2.5 to 2.7): what every later part
of the session is built from. -/

namespace Sys2Proof.Machine

/-- The allocator reports a fall of the command line by more than 1,000 W, `before` being its value (R83). -/
def reportFall (before : Nat) (c : Core) : Core :=
  if commandLine c + 1000 < before then disturb c else c

/-- The allocator at the session's exit from PREHEAT and CHARGING: the ramp base and a pending increase are
given up (R78, R79). -/
def leavePowered (c : Core) : Core :=
  c.onAlloc fun a =>
    { a with record := { a.record with rampValid := false, pendingIncrease := none } }

/-- The session record at a change of state: the pause timer runs in PAUSED alone (R31), and the two facts
of R26 are forgotten on leaving AUTHORIZING. -/
def Session.moveTo (new : SessionState) (s : Session) : Session :=
  { s with
    state := new
    pauseTimer := if new == .paused then some 600000 else none
    authGranted := s.authGranted && new == .authorizing
    selfTestPassed := s.selfTestPassed && new == .authorizing }

/-- The allocator follows a change of state out of the running pair (R78, R79). -/
def allocFollow (old new : SessionState) (c : Core) : Core :=
  if old.powered && !new.powered then leavePowered c else c

/-- The session enters `new`: SESSION-STATE is posted (R44), the heater and the allocator follow, and the
command line may fall (R20, R83). -/
def changeState (e : Env) (new : SessionState) (c : Core) : Core :=
  reportFall (commandLine c)
    (allocFollow c.session.state new
      (heaterFollow e c.session.state new (post .sessionState (c.onSession (Session.moveTo new)))))

/-! ### Pause causes (R30) -/

/-- A pause cause is added or removed, in the states that keep the set (R30). -/
def setPause (p : PauseCause) (on : Bool) (c : Core) : Core :=
  if c.session.state.live then
    c.onSession fun s => { s with pauseCauses := putBit s.pauseCauses p.code on }
  else c

/-- T_min is present and at least the permit temperature, and charge is enabled (R28, R29). -/
def chargePermitted (e : Env) (s : Session) : Bool :=
  s.chargeEnable && match e.mfe.tMin with
    | some t => e.cfg.permitTemp ≤ t
    | none => false

/-- The choice of the running state (R28). -/
def runningChoice (e : Env) (s : Session) : SessionState :=
  if s.pauseCauses ≠ 0 then .paused else if chargePermitted e s then .charging else .preheat

def chooseRunning (e : Env) (c : Core) : Core := changeState e (runningChoice e c.session) c

/-- PREHEAT and CHARGING pause while a cause is present; PAUSED is left when the set is empty (R30, R31). -/
def settlePause (e : Env) (c : Core) : Core :=
  match c.session.state with
  | .preheat | .charging => if c.session.pauseCauses ≠ 0 then changeState e .paused c else c
  | .paused => if c.session.pauseCauses = 0 then chooseRunning e c else c
  | .idle | .attached | .authorizing | .stopping | .closed => c

/-- CHARGING falls back to PREHEAT (R29): T_min absent or below the permit temperature minus 20 dC, or
charge enable clear. -/
def chargeLost (e : Env) (s : Session) : Bool :=
  !s.chargeEnable || match e.mfe.tMin with
    | some t => t < e.cfg.permitTemp - 20
    | none => true

/-- The moves between PREHEAT and CHARGING (R29). -/
def temperatureMove (e : Env) (c : Core) : Core :=
  match c.session.state with
  | .preheat => if chargePermitted e c.session then changeState e .charging c else c
  | .charging => if chargeLost e c.session then changeState e .preheat c else c
  | .idle | .attached | .authorizing | .paused | .stopping | .closed => c

/-- The causes that a measurement set evaluates (R30). -/
def pauseOnSet (e : Env) (c : Core) : Core :=
  setPause .offerZero (offerZero e.mfe) c
    |> setPause .packVoltage (packVoltage e.mfe c.session)
    |> setPause .sensorsInvalid (sensorsInvalid e.mfe c.session)

/-- The causes that an arrival or an expiry of the vehicle charge request evaluates (R30). -/
def pauseOnRequest (e : Env) (c : Core) : Core :=
  setPause .vehicleSilent c.session.request.isNone c
    |> setPause .packVoltage (packVoltage e.mfe c.session)
    |> setPause .sensorsInvalid (sensorsInvalid e.mfe c.session)

end Sys2Proof.Machine
end

