-- ==== Sys2Proof/Machine/Meter.lean ====
section
/-! DEFINITION. The meter and the export queue (chapters 7 and 8): energy, lines, splits and folds, closing and
placing records, time, tariff schedules. -/

namespace Sys2Proof.Machine

/-! ### Energy of an interval (R124 to R126) -/

/-- What one metering interval reads: P_in with a negative or INVALID value as 0, and the two output powers
(R124, R125). -/
structure IntervalPowers where
  pIn : Nat
  heat : Nat
  batt : Nat
deriving DecidableEq, Repr

/-- The powers of the set published last (R124, R125). -/
def intervalPowers (m : Mfe) : IntervalPowers :=
  match m.published with
  | none => { pIn := 0, heat := 0, batt := 0 }
  | some p =>
    { pIn := p.pIn.toNat
      heat := if p.vBusValid then p.vBus * p.iHeat / 100 else 0
      batt := if p.vBusValid then p.vBus * (p.iOut - p.iHeat) / 100 else 0 }

/-- The interval's inlet energy in W·ms (R124). -/
def intervalEnergy (p : IntervalPowers) : Nat := p.pIn * 100

/-- The share of a power in the interval's energy (R125); with D = 0 all of it is overhead. -/
def classShare (p : IntervalPowers) (power : Nat) : Nat :=
  intervalEnergy p * power / max p.pIn (p.heat + p.batt)

/-- The charge, heat and overhead shares, which sum to the interval's energy (R125). -/
def shares (p : IntervalPowers) : Nat × Nat × Nat :=
  (classShare p p.batt, classShare p p.heat,
    intervalEnergy p - classShare p p.heat - classShare p p.batt)

/-- The register after it gains `e` (R124); a sum past 64 bits is free (log 13). -/
def addEnergy (register e : Nat) : Nat :=
  if register + e < 2 ^ 64 then register + e else (Config.energyOverflow register e).toNat

/-! ### Lines (R135, R137, R140) -/

/-- The line key of a class: version and band of the moment (R135). -/
structure LineKey where
  version : Byte
  band : Nat
  cls : EnergyClass
deriving DecidableEq, Repr

def Line.key (l : Line) : LineKey := { version := l.version, band := l.band, cls := l.cls }

/-- The energies of an interval that need a line: at least 1 mWh, in class order (R135). -/
def creditable (l : List (LineKey × Nat)) : List (LineKey × Nat) := l.filter fun x => 1 ≤ x.2

/-- A line bears the key. -/
def hasLine (lines : List Line) (k : LineKey) : Bool := lines.any fun l => l.key == k

/-- How many new lines the energies need (R135). -/
def linesNeeded (lines : List Line) (l : List (LineKey × Nat)) : Nat :=
  (l.filter fun x => !hasLine lines x.1).length

/-- Energy is added to the line that bears the key (R135). -/
def addTo (k : LineKey) (mwh : Nat) (l : Line) : Line :=
  if l.key = k then { l with mwh := l.mwh + mwh } else l

def newLine (price : Nat) (k : LineKey) (mwh : Nat) : Line :=
  { version := k.version, band := k.band, cls := k.cls, price, mwh, cost := none }

/-- One class is credited, to its line or to a new one at the end (R135). -/
def creditOne (price : Nat) (lines : List Line) (x : LineKey × Nat) : List Line :=
  if hasLine lines x.1 then lines.map (addTo x.1 x.2) else lines ++ [newLine price x.1 x.2]

def creditAll (price : Nat) (lines : List Line) (l : List (LineKey × Nat)) : List Line :=
  l.foldl (creditOne price) lines

/-- Adds energy to the last line of a list for which `p` holds, looking from the end (R137). -/
def addToLast (p : Line → Bool) (mwh : Nat) (lines : List Line) : List Line :=
  match lines.reverse.findIdx? p with
  | some i => lines.modify (lines.length - 1 - i) fun l => { l with mwh := l.mwh + mwh }
  | none => lines

/-- One class is credited while folding (R137): to its line, to a new line while places remain, to the last
line of its class, or to the last line of the record. -/
def foldOne (price : Nat) (lines : List Line) (x : LineKey × Nat) : List Line :=
  if hasLine lines x.1 || lines.length < 24 then creditOne price lines x
  else if lines.any fun l => l.cls == x.1.cls then
    addToLast (fun l => l.cls == x.1.cls) x.2 lines
  else addToLast (fun _ => true) x.2 lines

def foldAll (price : Nat) (lines : List Line) (l : List (LineKey × Nat)) : List Line :=
  l.foldl (foldOne price) lines

/-- The cost of a line in milli, rounded half up (R140). -/
def lineCost (l : Line) : Nat := (l.mwh * l.price + 500000) / 1000000

def withCost (l : Line) : Line := { l with cost := some (lineCost l) }

/-- The costs and totals of a record that is closed (R140). -/
def formTotals (r : BillingRecord) : BillingRecord :=
  { r with
    lines := r.lines.map withCost
    totalMwh := (r.lines.map (·.mwh)).sum
    totalCost := (r.lines.map lineCost).sum }

/-- The zero line of a record closed without lines (R139). -/
def zeroLine (cfg : ConfigRecord) (m : Meter) : Line :=
  newLine (currentPrice cfg m)
    { version := m.schedule.version, band := (currentBand cfg m).1, cls := .charge } 0

/-- A record is closed with an end reason and faults-seen: end time, TIME-INVALID, a line if it has none,
costs and totals (R139, R140, R143). -/
def closeContent (cfg : ConfigRecord) (m : Meter) (reason : RecordEnd) (faults : Half)
    (r : BillingRecord) : BillingRecord :=
  formTotals
    { r with
      endTime := some m.time
      timeInvalid := r.timeInvalid || !m.timeValid
      endReason := some reason
      faultsSeen := faults
      lines := if r.lines = [] then [zeroLine cfg m] else r.lines }

/-- Faults-seen with an end reason added when one is fixed (R136, R143). -/
def faultsWith (faults : Half) (reason : Option StopCause) : Half :=
  match reason with
  | some c => faults ||| bit 16 c.code
  | none => faults

/-- The stop cause that a running record holds as the copy of the session's end reason (R139). -/
def copiedCause (r : BillingRecord) : Option StopCause :=
  match r.endReason with
  | some (.cause c) => some c
  | _ => none

/-! ### Placing (R146, R151, R152) -/

/-- The place a record takes: the tail of the queue, or the held position (R146). -/
def ExportQueue.place (r : BillingRecord) (q : ExportQueue) : ExportQueue :=
  if q.queue.length < 8 then { q with queue := q.queue ++ [r] } else { q with held := some r }

/-- QUEUE-FULL is posted when an event brings the queue to 8 records from fewer (R152). -/
def postFull (before : Nat) (c : Core) : Core :=
  if before < 8 ∧ c.queue.queue.length = 8 then post .queueFull c else c

/-- A closed record is placed for export (R146): its notices are posted and its summary handed to the link. -/
def placeRecord (e : Env) (r : BillingRecord) (c : Core) : Core :=
  c.onQueue (ExportQueue.place r)
    |> post .recordReady
    |> postFull c.queue.queue.length
    |> placeSummary e r

/-! ### The open record (R139) -/

/-- The record of a new session (R139, R25). -/
def openRecord (c : Core) : Core :=
  c.onMeter fun m =>
    { m with
      energy := 0
      remCharge := 0
      remHeat := 0
      remOverhead := 0
      openRec := some
        { closeRequested := false
          record :=
            { number := c.session.number
              continuation := 0
              tag := c.auth.sessionTag
              mode := none
              startTime := m.time
              endTime := none
              endReason := none
              faultsSeen := 0
              timeStep := false
              timeInvalid := !m.timeValid
              scheduleChanged := false
              lateAccept := false
              folded := false
              lines := []
              totalMwh := 0
              totalCost := 0 } } }

/-- A change of the open record while its close has not been requested (R139). -/
def onRunningRecord (f : BillingRecord → BillingRecord) (c : Core) : Core :=
  c.onMeter fun m =>
    match m.openRec with
    | some o => if o.closeRequested then m else { m with openRec := some { o with record := f o.record } }
    | none => m

/-- The session's end reason and faults-seen are copied into the running record (R139). -/
def copyFaults (c : Core) : Core :=
  onRunningRecord (fun r =>
    { r with
      endReason := c.session.endReason.map RecordEnd.cause
      faultsSeen := c.session.faultsSeen }) c

/-- The record handed over leaves the meter, and the session hears that it is closed (R139, R146). -/
def handOver (e : Env) (r : BillingRecord) (c : Core) : Core :=
  (placeRecord e r (c.onMeter fun m => { m with openRec := none })).onSession
    fun s => { s with closePending := false }

/-- The session asks for the close at its entry to CLOSED (R139, R138): the content is fixed, HELD is left,
and the record is placed at once if there is room. -/
def closeRecord (e : Env) (c : Core) : Core :=
  match c.meter.openRec with
  | none => c.onSession fun s => { s with closePending := false }
  | some o =>
    match c.session.endReason with
    | none => c
    | some cause =>
      let r := closeContent e.cfg c.meter (.cause cause) c.session.faultsSeen o.record
      let c' := c.onMeter fun m =>
        { m with held := false, openRec := some { record := r, closeRequested := true } }
      if c.queue.room then handOver e r c' else c'

/-! ### Splits (R136, R138) -/

/-- The record a split closes (R136). -/
def splitContent (c : Core) (r : BillingRecord) : BillingRecord :=
  formTotals
    { r with
      endTime := some c.meter.time
      endReason := some .split
      faultsSeen := faultsWith c.session.faultsSeen c.session.endReason }

/-- The continuation record (R136); it carries the copies of the session's end reason and faults-seen
(R139, log 19). -/
def continuationOf (c : Core) (r : BillingRecord) : BillingRecord :=
  { r with
    continuation := r.continuation + 1
    startTime := c.meter.time
    endTime := none
    endReason := c.session.endReason.map RecordEnd.cause
    faultsSeen := c.session.faultsSeen
    timeStep := false
    timeInvalid := !c.meter.timeValid
    scheduleChanged := false
    folded := false
    lines := []
    totalMwh := 0
    totalCost := 0 }

/-- The open record is closed as SPLIT and its continuation opened (R136 steps 1 and 2). -/
def splitRecord (e : Env) (o : OpenRecord) (c : Core) : Core :=
  placeRecord e (splitContent c o.record)
    (c.onMeter fun m =>
      { m with openRec := some { closeRequested := false, record := continuationOf c o.record } })

/-- A report of room to the meter (R145, R149): a waiting close is handed over, or in HELD the split is made
and BILLING-HOLD released (R138). -/
def roomReport (e : Env) (c : Core) : Core :=
  match c.meter.openRec with
  | none => c
  | some o =>
    if !c.queue.room then c
    else if o.closeRequested then handOver e o.record c
    else if c.meter.held then
      (splitRecord e o c).onMeter (fun m => { m with held := false })
        |> setPause .billingHold false
        |> settlePause e
    else c

/-! ### Crediting an interval (R135 to R137) -/

/-- The energies of an interval under their keys, in class order (R135). -/
def keyedEnergies (cfg : ConfigRecord) (m : Meter) (chg heat overhead : Nat) : List (LineKey × Nat) :=
  let key (k : EnergyClass) : LineKey :=
    { version := m.schedule.version, band := (currentBand cfg m).1, cls := k }
  creditable [(key .charge, chg), (key .heat, heat), (key .overhead, overhead)]

/-- The lines of the open record are replaced. -/
def setLines (lines : List Line) (folded : Bool) (c : Core) : Core :=
  onRunningRecord (fun r => { r with lines, folded := r.folded || folded }) c

/-- The entry to HELD, with BILLING-HOLD reported (R137). -/
def enterHeld (e : Env) (c : Core) : Core :=
  c.onMeter (fun m => { m with held := true })
    |> setPause .billingHold true
    |> settlePause e

/-- The interval's energies are credited (R135), with a split (R136) or by folding (R137). With continuation 255 a fold
does not enter HELD, though the queue has no room either (log 52). -/
def creditInterval (e : Env) (energies : List (LineKey × Nat)) (c : Core) : Core :=
  match c.meter.openRec with
  | none => c
  | some o =>
    let price := currentPrice e.cfg c.meter
    if o.record.lines.length + linesNeeded o.record.lines energies ≤ 24 then
      setLines (creditAll price o.record.lines energies) false c
    else if o.record.continuation < 255 && c.queue.room then
      setLines (creditAll price [] energies) false (splitRecord e o c)
    else
      let c' := setLines (foldAll price o.record.lines energies) true c
      if o.record.continuation < 255 then
        if c.meter.held then c' else enterHeld e c'
      else c'

/-- One metering interval (R124 to R126): register, remainders, then the credit. -/
def meterInterval (e : Env) (c : Core) : Core :=
  let p := intervalPowers e.mfe
  let sh := shares p
  let chg := c.meter.remCharge + sh.1
  let heat := c.meter.remHeat + sh.2.1
  let overhead := c.meter.remOverhead + sh.2.2
  creditInterval e (keyedEnergies e.cfg c.meter (chg / 3600) (heat / 3600) (overhead / 3600))
    (c.onMeter fun m =>
      { m with
        energy := addEnergy m.energy (intervalEnergy p)
        remCharge := chg % 3600
        remHeat := heat % 3600
        remOverhead := overhead % 3600 })

/-! ### Time (R127 to R130) -/

/-- A set of the counter differs from its value by more than 60 s (R130). -/
def isStep (m : Meter) (t : Word) : Bool := m.timeValid && 60 < distance m.time.toNat t.toNat

/-- The counter is set (R127), with the step check of R130. -/
def setClock (source : TimeSource) (t : Word) (offset : Option Int) (c : Core) : Core :=
  let step := isStep c.meter t
  let c' := c.onMeter fun m =>
    { m with
      time := t
      timeValid := true
      source
      offset := (offset.map (clampInt (-720) 840)).getD m.offset }
  if step then post .timeStep (onRunningRecord (fun r => { r with timeStep := true }) c') else c'

/-! ### Tariff schedules (R133, R134) -/

/-- The start minutes ascend strictly (R134). -/
def ascending : List Nat → Bool
  | a :: b :: rest => a < b && ascending (b :: rest)
  | _ => true

/-- A complete staged schedule passes its check (R134). -/
def schedulePasses (bands : List Band) : Bool :=
  (bands.map (·.start)).head? == some 0 && ascending (bands.map (·.start))

def rejectSchedule (c : Core) : Core := post .scheduleRejected c

/-- A complete schedule is activated, ignored or rejected (R134). -/
def checkSchedule (e : Env) (version : Byte) (bands : List Band) (c : Core) : Core :=
  if !schedulePasses bands then rejectSchedule c
  else if version = c.meter.schedule.version then
    if bands = c.meter.schedule.bands e.cfg.defaultPrice then c else rejectSchedule c
  else
    post .scheduleChanged
      (onRunningRecord (fun r => { r with scheduleChanged := true })
        (c.onMeter fun m => { m with schedule := .posted version bands }))

/-- A TARIFF message is malformed (R133). -/
def tariffMalformed (index count start : Nat) : Bool :=
  count < 1 || 6 < count || count ≤ index || 1439 < start

/-- The staging area that a message continues, or a new one (R133 step 1). -/
def stagingFor (version : Byte) (count : Nat) (st : Option Staging) : Staging :=
  match st with
  | some s =>
    if s.version = version && s.bands.length = count then s
    else { version, bands := List.replicate count none }
  | none => { version, bands := List.replicate count none }

/-- The bands of a staging area that holds them all. -/
def completeBands (l : List (Option Band)) : Option (List Band) :=
  if l.all Option.isSome then some (l.filterMap id) else none

/-- A TARIFF message is taken (R133). -/
def takeTariff (e : Env) (version : Byte) (index count start price : Nat) (c : Core) : Core :=
  if tariffMalformed index count start then
    rejectSchedule (c.onMeter fun m => { m with staging := none })
  else
    let s := stagingFor version count c.meter.staging
    let bands := s.bands.set index (some { start := start, price := price })
    match completeBands bands with
    | some full => checkSchedule e version full (c.onMeter fun m => { m with staging := none })
    | none => c.onMeter fun m => { m with staging := some { s with bands } }

end Sys2Proof.Machine
end

