-- ==== Sys2Proof/Machine/Allocator.lean ====
section
/-! DEFINITION. The power allocator (chapter 4): the eight stages, the three kinds of allocation, the pending
increase. -/

namespace Sys2Proof.Machine

/-! ### Stage 1: inlet terms (R65 to R69) -/

/-- P_pilot (R65). -/
def pilotTerm (e : Env) : Nat :=
  if e.mfe.offerValid then e.mfe.offer * e.mfe.vIn * e.cfg.phases / 100 else 0

/-- P_cable (R66). -/
def cableTerm (e : Env) : Nat :=
  ((e.mfe.cable.map CableCode.ampere).getD 0) * e.mfe.vIn * e.cfg.phases / 10

/-- P_post (R67), none for NO-LIMIT. -/
def postTerm (e : Env) (l : Link) : Option Nat :=
  if l.heard then
    l.postLimit.map fun p => if l.postValid then p * 10 else min (p * 10) e.cfg.fallback
  else none

/-- P_spend (R68), none for NO-LIMIT. -/
def spendTerm (e : Env) (m : Meter) : Option Nat :=
  if m.spendCap = 0 ∨ currentPrice e.cfg m = 0 then none
  else some (m.spendCap * 1000 / currentPrice e.cfg m)

/-- One term against the smallest so far: a tie keeps the earlier term (R69). -/
def tighter (b : Binding) (term : Option Nat) (best : Nat × Binding) : Nat × Binding :=
  match term with
  | some v => if v < best.1 then (v, b) else best
  | none => best

/-- The smallest term and its name, in the order PILOT, CABLE, POST, SPEND, CONFIG (R69). -/
def smallestTerm (pilot cable : Nat) (post spend : Option Nat) (cfg : Nat) : Nat × Binding :=
  (pilot, Binding.pilot) |> tighter .cable (some cable) |> tighter .post post |> tighter .spend spend
    |> tighter .config (some cfg)

/-! ### Stage 2: derating (R70) -/

def deratingOf : ResultState → Derating
  | .noResult | .ok => .none
  | .warn => .halved
  | .fault => .zero

def derate : Derating → Nat → Nat
  | .none, v => v
  | .halved, v => v / 2
  | .zero, _ => 0

/-! ### Stage 4: demands (R72 to R74) -/

/-- The current of the last row at or below a temperature, 0 below the first row (R72). -/
def tableCurrent (t : Int) : Nat → List TempRow → Nat
  | found, [] => found
  | found, r :: rest => if r.breakpoint ≤ t then tableCurrent t r.current rest else found

/-- I_tab (R72). -/
def iTab (e : Env) : Nat :=
  match e.mfe.tMin with
  | some t => tableCurrent t 0 e.table
  | none => 0

/-- P_chg_req (R73). -/
def chargeDemand (e : Env) (s : Session) : Nat :=
  match s.request, e.mfe.vBus? with
  | some r, some v =>
    if s.state == .preheat || !r.chargeEnable || r.vTarget ≤ v then 0
    else min r.iReq (iTab e) * v / 100
  | _, _ => 0

/-- P_heat_req (R74). -/
def heatDemand (e : Env) (c : Core) : Nat :=
  if c.session.heatEnable then c.heater.demand * e.cfg.pSeg / 64 else 0

/-! ### Stages 5 and 6: priority and rounding (R75 to R77) -/

/-- The heater's first share h1 (R76). -/
def firstShare (heatReq reserve pOut : Nat) : Nat := min heatReq (min reserve pOut)

/-- The charge and heater allocations before rounding: PREHEAT (R75) or CHARGING (R76). -/
def shareOut (preheat : Bool) (chgReq heatReq reserve pOut : Nat) : Nat × Nat :=
  if preheat then (0, min heatReq pOut)
  else
    let h1 := firstShare heatReq reserve pOut
    let chg := min chgReq (pOut - h1)
    (chg, h1 + min (heatReq - h1) (pOut - h1 - chg))

/-- Rounded down to a multiple of 10 W (R77). -/
def tens (v : Nat) : Nat := v / 10 * 10

/-! ### Stage 7: ramp and quiet window (R78, R79) -/

/-- The ramp base (R78). -/
def rampBase (r : AllocRecord) : Nat := if r.rampValid then r.pChgCmd else 0

/-- The ramp target of a timed or an immediate full allocation (R78). -/
def rampTarget (immediate : Bool) (alloc base : Nat) : Nat :=
  if immediate then min alloc base else min alloc (base + 1000)

/-- P_chg_cmd and the pending increase (R78, R79): an increase is held while the window is open. -/
def rampStep (window : Bool) (target base : Nat) : Nat × Option Nat :=
  if base < target ∧ window then (base, some target) else (target, none)

/-! ### The three kinds of allocation (R62) -/

/-- Stages 1 to 3, everything else 0: the limit-only allocation (R62, R69 to R71). -/
def limitRecord (e : Env) (c : Core) : AllocRecord :=
  let post := postTerm e c.link
  let spend := spendTerm e c.meter
  let best := smallestTerm (pilotTerm e) (cableTerm e) post spend e.cfg.pCfg
  let lim := derate (deratingOf c.mon.result) best.1
  { AllocRecord.zero with
    pPilot := pilotTerm e
    pCable := cableTerm e
    pPost := post
    pSpend := spend
    pCfg := e.cfg.pCfg
    binding := best.2
    derating := deratingOf c.mon.result
    pInLim := lim
    pOut := lim * e.cfg.eta / 1000 }

/-- The full allocation, stages 1 to 8 (R62, R65 to R81). -/
def fullRecord (immediate : Bool) (e : Env) (c : Core) : AllocRecord :=
  let r := limitRecord e c
  let chgReq := chargeDemand e c.session
  let heatReq := heatDemand e c
  let shares := shareOut (c.session.state == .preheat) chgReq heatReq e.cfg.reserve r.pOut
  let base := rampBase c.alloc.record
  let cmd := rampStep c.mon.window (rampTarget immediate (tens shares.1) base) base
  { r with
    iTab := iTab e
    pChgReq := chgReq
    pHeatReq := heatReq
    pChgAlloc := tens shares.1
    pHeatAlloc := tens shares.2
    pChgCmd := cmd.1
    pendingIncrease := cmd.2
    rampValid := true
    command := if c.mon.result == .fault then 0 else cmd.1 + tens shares.2 }

/-- The record of an allocation, by the session state (R62). -/
def nextRecord (immediate : Bool) (e : Env) (c : Core) : AllocRecord :=
  match c.session.state with
  | .preheat | .charging => fullRecord immediate e c
  | .authorizing | .paused => limitRecord e c
  | .idle | .attached | .stopping | .closed => AllocRecord.zero

/-- P_in_lim is reported to the session controller in the states that keep pause causes: LIMIT-ZERO is
added or removed (R69, R30). -/
def reportLimit (e : Env) (c : Core) : Core :=
  settlePause e (setPause .limitZero (c.alloc.record.pInLim == 0) c)

/-- One allocation, timed or immediate: the record is replaced, a fall of the command line reported, the
heater handed its value, and the limit reported (R62, R63, R82, R83, log 10). -/
def allocate (immediate : Bool) (e : Env) (c : Core) : Core :=
  let r := nextRecord immediate e c
  c.onAlloc (fun a => { a with record := r })
    |> reportFall (commandLine c)
    |> handHeat e r.pHeatAlloc
    |> reportLimit e

/-- The end of the quiet window: a standing pending increase is applied (R80). -/
def applyPending (c : Core) : Core :=
  match c.alloc.record.pendingIncrease with
  | none => c
  | some p =>
    c.onAlloc fun a =>
      { a with
        record :=
          { a.record with
            pChgCmd := p
            pendingIncrease := none
            command := p + a.record.pHeatAlloc } }

/-- The quiet window closes, and the allocator and the heater are told (R108, R119, R80, R97). -/
def closeWindow (e : Env) (c : Core) : Core :=
  if c.mon.window then
    heaterWindowEnd e (applyPending (c.onMon fun m => { m with window := false }))
  else c

end Sys2Proof.Machine
end

