-- ==== Sys2Proof/Machine/Monitor.lean ====
section
/-! DEFINITION. The insulation monitor (chapter 6): its states, the arithmetic of a cycle and the judgement of
the bus. -/

namespace Sys2Proof.Machine

/-! ### States (R106, R107, R116) -/

/-- SELF-TEST and MONITORING, in which half-periods run. -/
def MonitorState.measuring : MonitorState → Bool
  | .selfTest | .monitoring => true
  | .off | .inoperative => false

/-- A half-period begins: its timer takes the configured length (R106). -/
def beginHalf (e : Env) (m : Monitor) : Monitor := { m with timer := some e.cfg.halfPeriod }

/-- A cycle begins POSITIVE (R106). -/
def beginCycle (e : Env) (m : Monitor) : Monitor :=
  beginHalf e { m with polarity := .positive, vPos := none }

/-- Entry to SELF-TEST (R116, R115). -/
def enterSelfTest (e : Env) (kind : SelfTestKind) (m : Monitor) : Monitor :=
  beginCycle e
    { m with
      state := .selfTest
      kind := some kind
      pass := 0
      discards := 0
      noResults := 0
      mark := false
      window := false }

/-- A change that leaves SELF-TEST or MONITORING (R107): the half-period ends without a sample, and an open
window closes with its report (R119). -/
def leaveMeasuring (e : Env) (new : MonitorState) (c : Core) : Core :=
  closeWindow e
    (c.onMon fun m =>
      { m with state := new, kind := none, timer := none, vPos := none, discards := 0, mark := false })

/-- The session's entry to AUTHORIZING (R113, R107): the bus is judged afresh and the session self-test
begins. -/
def monitorOnAuthorizing (e : Env) (c : Core) : Core :=
  c.onMon fun m =>
    let m' :=
      { m with result := if m.result == .fault then .fault else .noResult, low := 0, good := 0 }
    if m.state.measuring then m' else enterSelfTest e .session m'

/-- The session's entry to STOPPING ends a session self-test (R107). -/
def monitorOnStopping (e : Env) (c : Core) : Core :=
  if c.mon.state == .selfTest && c.mon.kind == some .session then leaveMeasuring e .off c else c

/-- The session's entry to CLOSED turns the monitor OFF (R107). -/
def monitorOnClosed (e : Env) (c : Core) : Core :=
  if c.mon.state.measuring then leaveMeasuring e .off c else c

/-- The quiet window opens (R108). -/
def openWindow (c : Core) : Core :=
  c.onMon fun m => { m with window := true, mark := false, windowSum := 0, windowCount := 0 }

/-- The sense samples of the open window, clamped by the MFE (R7), are summed (R108). -/
def takeSamples (samples : List Int) (m : Monitor) : Monitor :=
  if m.window then
    { m with
      windowSum := m.windowSum + (samples.map (clampInt (-30000) 30000)).sum
      windowCount := m.windowCount + samples.length }
  else m

/-! ### The arithmetic of a cycle (R110, R111) -/

/-- The half-amplitude U_m (R110). -/
def halfAmplitude (vPos vNeg : Int) : Int := (vPos - vNeg) / 2

/-- R_iso (R110). -/
def resistance (um : Int) : RIso :=
  if um ≤ 0 then .kohm 0
  else if 25000 ≤ um then .aboveRange
  else
    let r := 470 * um.toNat / (25000 - um.toNat)
    if 10000 < r then .aboveRange else .kohm r

/-- A threshold in kilohm (R111). -/
def threshold (ohms vBus : Nat) : Nat := ohms * vBus / 10000

/-- The result is below a threshold; ABOVE-RANGE is below none. -/
def RIso.below : RIso → Nat → Bool
  | .kohm v, t => v < t
  | .aboveRange, _ => false

inductive ResultClass where
  | low
  | marginal
  | good
deriving DecidableEq, Repr

/-- The class of a result (R111). -/
def classify (r : RIso) (warn fault : Nat) : ResultClass :=
  if r.below fault then .low else if r.below warn then .marginal else .good

/-- The low and good counts move with a classed result (R112). -/
def moveCounts (k : ResultClass) (m : Monitor) : Monitor :=
  match k with
  | .low => { m with low := min 2 (m.low + 1), good := 0 }
  | .marginal => { m with low := 0, good := 0 }
  | .good => { m with low := 0, good := min 3 (m.good + 1) }

/-- The result state after a classed result, with the counts already moved (R112). -/
def nextResult (k : ResultClass) (m : Monitor) : ResultState :=
  match m.result, k with
  | .fault, _ => .fault
  | .noResult, .good | .ok, .good => .ok
  | .noResult, _ | .ok, _ => .warn
  | .warn, .good => if m.good = 3 then .ok else .warn
  | .warn, .marginal => .warn
  | .warn, .low => if m.low = 2 then .fault else .warn

/-- The reference band of the self-test (R116). -/
def RIso.inBand : RIso → Bool
  | .kohm v => 180 ≤ v && v ≤ 220
  | .aboveRange => false

/-- The last result is stored, and the cycle counts as one with a result (R110, R115). -/
def storeResult (e : Env) (c : Core) (path : ResultPath) (r : RIso) : Core :=
  let vBus := e.mfe.published.map (·.vBus)
  c.onMon fun m =>
    { m with
      noResults := 0
      last := some
        { rIso := r
          time := c.meter.time
          path
          vBus
          thresholds :=
            match path, vBus with
            | .bus, some v => some (threshold e.cfg.warnOhms v, threshold e.cfg.faultOhms v)
            | _, _ => none } }

/-- CLEAR-INSULATION-FAULT (R120): the latch, the FAULT result and the counts. Without a FAULT the counts stay
too (log 43). -/
def clearFault (m : Monitor) : Monitor :=
  if m.result == .fault then { m with result := .noResult, faultResult := none, low := 0, good := 0 }
  else m

end Sys2Proof.Machine
end

