-- ==== Sys2Proof/Machine/Session.lean ====
section
/-! DEFINITION. The session controller and the authorization unit (chapters 2 and 3): stop sequence, contactor,
authorization, start and end of a session. -/

namespace Sys2Proof.Machine

/-! ### The contactor and the end of the stop sequence (R36, R37) -/

/-- The contactor state changes, and the change is reported to the monitor (R109); so is CLOSING to OPENING, which
the rule's list does not name (log 51). -/
def setContactor (k : Contactor) (c : Core) : Core := disturb (c.onSession fun s => { s with contactor := k })

/-- A cause observed after the end reason is fixed (R33), copied into the record (R139). -/
def addFault (cause : StopCause) (c : Core) : Core :=
  if c.session.endReason = some cause then c
  else
    copyFaults
      (c.onSession fun s => { s with faultsSeen := s.faultsSeen ||| bit 16 cause.code })

/-- The part takes a reset: it is held, its lines are withdrawn (R184), and a pending reset is void (R187). -/
def takeReset (cause : ResetCause) (c : Core) : Core :=
  c.onSup fun s => { s with held := some cause, deferredReset := false }

/-- The authorization unit at the session's entry to CLOSED: a pending request is given up (R55). -/
def authOnClosed (c : Core) : Core := c.onAuth fun a => { a with request := none }

/-- A reset that waited for CLOSED is taken (R187). -/
def resetIfDeferred (c : Core) : Core := if c.sup.deferredReset then takeReset .command c else c

/-- The stop sequence ends (R37): CLOSED, the monitor OFF, the record's close asked for, and then a waiting
COMMAND reset (R187). -/
def enterClosed (e : Env) (c : Core) : Core :=
  (changeState e .closed c).onSession (fun s => { s with closePending := true })
    |> authOnClosed
    |> monitorOnClosed e
    |> closeRecord e
    |> resetIfDeferred

/-- The open is confirmed (R36), and the stop sequence ends (R37). -/
def confirmOpen (e : Env) (c : Core) : Core :=
  enterClosed e ((setContactor .opened c).onSession fun s => { s with confirmTimer := none })

/-- The drive is withdrawn and the open confirmation begins (R36). -/
def beginOpening (c : Core) : Core :=
  (setContactor .opening c).onSession fun s =>
    { s with waitTimer := none, confirmTimer := some 100 }

/-- A contactor that was CLOSED opens: an input already inactive confirms the open at once (R36, R38). -/
def openContactor (e : Env) (c : Core) : Core :=
  if e.mfe.aux.active then beginOpening c else confirmOpen e (beginOpening c)

/-! ### Stop causes (R32 to R35) -/

/-- The authorization unit at the session's entry to STOPPING: WAITING is given up without a notice (R55). -/
def authOnStopping (c : Core) : Core :=
  if c.auth.state == .waiting then c.onAuth fun a => { a with state := .refused, request := none } else c

/-- The contactor at the entry to STOPPING (R34). From CLOSING the open confirmation runs although the input
still reads inactive, so that a contact that arrives late is examined (R27, R36, log 16). -/
def startOpening (e : Env) (cause : StopCause) (c : Core) : Core :=
  match c.session.contactor with
  | .opened => enterClosed e c
  | .closing => beginOpening c
  | .closed =>
    if cause.atOnce then openContactor e c
    else c.onSession fun s => { s with waitTimer := some 500 }
  | .opening => c

/-- The entry to STOPPING with its end reason (R34). -/
def enterStopping (e : Env) (cause : StopCause) (c : Core) : Core :=
  copyFaults (c.onSession fun s => { s with endReason := some cause })
    |> changeState e .stopping
    |> (fun c => c.onSession fun s => { s with pauseCauses := 0 })
    |> authOnStopping
    |> monitorOnStopping e
    |> allocate true e
    |> startOpening e cause

/-- A stop cause is reported (R32, R33, R35). -/
def stopCause (e : Env) (cause : StopCause) (c : Core) : Core :=
  match c.session.state with
  | .authorizing | .preheat | .charging | .paused => enterStopping e cause c
  | .stopping =>
    let c' := addFault cause c
    if cause.atOnce && c.session.contactor == .closed then openContactor e c' else c'
  | .idle | .attached | .closed => c

/-- The WELD latch is set and WELD posted (R42). -/
def setWeld (c : Core) : Core := post .weld (c.onSession fun s => { s with weldLatch := true })

/-- A converter fault report (R42). -/
def converterFault (e : Env) (c : Core) : Core :=
  stopCause e .converterFault (c.onSession fun s => { s with converterLatch := true })

/-! ### Energizing (R26 to R28) -/

/-- The contactor begins to close, unless the contact already reads closed (R27). -/
def beginEnergizing (e : Env) (c : Core) : Core :=
  if e.mfe.aux.active then stopCause e .weld (setWeld c)
  else setContactor .closing (c.onSession fun s => { s with confirmTimer := some 100 })

/-- Both facts of R26 are recorded in AUTHORIZING with the contactor OPEN. -/
def energizeIfReady (e : Env) (c : Core) : Core :=
  if c.session.state == .authorizing && c.session.authGranted && c.session.selfTestPassed
      && c.session.contactor == .opened then
    beginEnergizing e c
  else c

/-- Authorization granted is reported (R26). -/
def reportGrant (e : Env) (c : Core) : Core :=
  if c.session.state == .authorizing then
    energizeIfReady e (c.onSession fun s => { s with authGranted := true })
  else c

/-- Self-test passed is reported (R26). -/
def reportTestPassed (e : Env) (c : Core) : Core :=
  if c.session.state == .authorizing then
    energizeIfReady e (c.onSession fun s => { s with selfTestPassed := true })
  else c

/-- A failed self-test is reported (R23, R115, R117). -/
def reportTestFailed (e : Env) (c : Core) : Core :=
  stopCause e .selfTestFail (c.onSession fun s => { s with monitorFailure := true })

/-- The close is confirmed (R27), and the running state chosen (R28). -/
def confirmClose (e : Env) (c : Core) : Core :=
  chooseRunning e ((setContactor .closed c).onSession fun s => { s with confirmTimer := none })

/-- The auxiliary input's active condition has changed (R27, R36, R38). -/
def auxChanged (e : Env) (now : Bool) (c : Core) : Core :=
  match c.session.contactor with
  | .closing => if now then confirmClose e c else c
  | .closed => if now then c else stopCause e .contactorFail c
  | .opening => if now then c else confirmOpen e c
  | .opened => c

/-! ### Authorization (R48, R49, R51 to R54) -/

/-- The mode is settled, and written into the running record (R49, R52, R53, R139). -/
def settleMode (st : AuthState) (mode : AuthMode) (c : Core) : Core :=
  onRunningRecord (fun r => { r with mode := some mode })
    (c.onAuth fun a => { a with state := st, mode := some mode })

/-- A grant: the mode is settled, AUTH-RESULT posted and the session told. -/
def grant (e : Env) (st : AuthState) (mode : AuthMode) (c : Core) : Core :=
  reportGrant e (post .authResult (settleMode st mode c))

/-- A refusal: the request is given up, AUTH-RESULT posted and the stop cause raised (R52, R53, R54). -/
def refuse (e : Env) (cause : StopCause) (c : Core) : Core :=
  stopCause e cause
    (post .authResult (c.onAuth fun a => { a with state := .refused, request := none }))

/-- An entry is expired (R57). -/
def AllowEntry.expired (m : Meter) (a : AllowEntry) : Bool :=
  m.timeValid && match a.expiry with
    | some t => t.toNat ≤ m.time.toNat
    | none => false

/-- The lookup of the offline decision (R57): the list with the expired entries passed over removed, and
whether the tag was found unexpired. -/
def lookup (m : Meter) (tag : Tag) : List AllowEntry → List AllowEntry × Bool
  | [] => ([], false)
  | a :: rest =>
    if a.expired m then lookup m tag rest
    else if a.tag = tag then (a :: rest, true)
    else (a :: (lookup m tag rest).1, (lookup m tag rest).2)

/-- The offline decision (R53). A session without a tag finds no entry (log 37). -/
def offlineDecision (e : Env) (c : Core) : Core :=
  match c.auth.sessionTag with
  | none => refuse e .authRejected c
  | some tag =>
    let found := lookup c.meter tag c.auth.allowList
    let c' := c.onAuth fun a => { a with allowList := found.1 }
    if found.2 then grant e .offline .offline c' else refuse e .authRejected c'

/-- The session's identity is fixed (R48). -/
def fixIdentity (e : Env) (a : Auth) : Auth :=
  { a with
    sessionTag := if e.cfg.authRequired then a.driverTag else none
    mode := none
    lateAccept := false
    request := none }

/-- AUTH-REQUEST is handed to the link and the pending request set (R49 path 3, R50). -/
def askPost (e : Env) (c : Core) : Core :=
  (placeAuthRequest e c).onAuth fun a =>
    { a with
      state := .waiting
      request := some
        { number := c.session.number, sendTime := c.meter.time, timer := some 10000 } }

/-- The decision at the entry to AUTHORIZING (R49). -/
def decideAtEntry (e : Env) (c : Core) : Core :=
  if !e.cfg.authRequired then grant e .free .free c
  else if c.link.state == .lost then offlineDecision e c
  else askPost e c

/-- A verdict matches the pending request (R51). -/
def verdictMatches (a : Auth) (number : Half) (echo : Tag) (verdict : Byte) : Bool :=
  (match a.request with
    | some p => p.number == number
    | none => false)
    && a.sessionTag == some echo && (verdict == 1 || verdict == 2)

/-- A late ACCEPT (R54): the mode becomes ONLINE with LATE-ACCEPT on the running record. -/
def lateAccept (c : Core) : Core :=
  post .authResult
    (onRunningRecord (fun r => { r with mode := some .online, lateAccept := true })
      (c.onAuth fun a =>
        { a with state := .online, mode := some .online, lateAccept := true, request := none }))

/-- AUTH-VERDICT is taken (R51, R52, R54). -/
def takeVerdict (e : Env) (number : Half) (echo : Tag) (verdict : Byte) (c : Core) : Core :=
  if verdictMatches c.auth number echo verdict then
    match c.auth.state with
    | .waiting =>
      if verdict = 1 then grant e .online .online (c.onAuth fun a => { a with request := none })
      else refuse e .authRejected c
    | .offline => if verdict = 1 then lateAccept c else refuse e .authRevoked c
    | .inactive | .online | .free | .refused => c
  else c

/-! ### Start of a session (R24, R25) -/

/-- The session record at the entry to AUTHORIZING (R25 steps 1 and 2). -/
def Session.begin (s : Session) : Session :=
  { s with
    number := s.number + 1
    endReason := none
    faultsSeen := 0
    pauseCauses := 0
    releaseSeen := false
    closePending := false
    authGranted := false
    selfTestPassed := false }

/-- The entry to AUTHORIZING (R25). -/
def enterAuthorizing (e : Env) (c : Core) : Core :=
  changeState e .authorizing (c.onSession Session.begin)
    |> (fun c => c.onAuth (fixIdentity e))
    |> openRecord
    |> forgetPostLimit
    |> monitorOnAuthorizing e
    |> decideAtEntry e

/-- The start conditions are evaluated in ATTACHED (R24). -/
def evaluateStart (e : Env) (c : Core) : Core :=
  if c.session.state == .attached && c.active && missingStart e c == 0 then enterAuthorizing e c else c

/-! ### Attachment and the end of a session (R23, R40) -/

/-- The entry to IDLE (R23, R47, R55, R164): the attachment ends, and a last STATUS is placed, which shows the
authorization unit without its tag and INACTIVE (R165, log 48). -/
def enterIdle (e : Env) (c : Core) : Core :=
  (changeState e .idle c).onSession (fun s => { s with monitorFailure := false })
    |> (fun c => c.onAuth fun a => { a with driverTag := none, state := .inactive })
    |> placeStatus e
    |> (fun c => c.onLink fun l => { l with statusTimer := none })

/-- The entry to ATTACHED from IDLE (R23, R164), and the start conditions there (R24). -/
def attach (e : Env) (c : Core) : Core :=
  placeStatus e (changeState e .attached c)
    |> (fun c => c.onLink fun l => { l with statusTimer := some 1000 })
    |> evaluateStart e

/-- CLOSED is left once the record is closed (R40): to IDLE on detachment, to ATTACHED on a release. Nothing
more happens in a part that has just taken a reset (R187, log 24). -/
def leaveClosed (e : Env) (c : Core) : Core :=
  if c.session.state == .closed && !c.session.closePending && c.active then
    if e.mfe.detached then enterIdle e c
    else if c.session.releaseSeen then evaluateStart e (changeState e .attached c)
    else c
  else c

/-- What every event of a session ends with: the start conditions in ATTACHED (R24), then the end of CLOSED
(R40). -/
def conclude (e : Env) (c : Core) : Core := leaveClosed e (evaluateStart e c)

/-! ### The session's events -/

/-- A measurement set is delivered to the session controller (R23, R29, R30, R35, R39, R40). `stopping`: the
session was already in STOPPING when the set was published (R35). -/
def sessionTakeSet (stopping : Bool) (e : Env) (c : Core) : Core :=
  match c.session.state with
  | .idle => if e.mfe.pilotPresent && e.mfe.cableRated then attach e c else c
  | .attached => if e.mfe.detached then enterIdle e c else evaluateStart e c
  | .authorizing | .preheat | .charging | .paused =>
    if e.mfe.detached then stopCause e .cableRemoved c
    else temperatureMove e (settlePause e (pauseOnSet e c))
  | .stopping =>
    if e.mfe.detached then stopCause e .cableRemoved c
    else if stopping && c.session.contactor == .closed
        && (e.mfe.published.map (·.iOut)).any (· < 10) then openContactor e c
    else c
  | .closed => c

/-- The conditions that read the request, after an arrival or an expiry (R21, R22). -/
def reviewRequest (e : Env) (c : Core) : Core :=
  if c.session.state.live then temperatureMove e (settlePause e (pauseOnRequest e c)) else c

/-- A CHARGE-REQUEST with both enables clear (R41, R40). -/
def takeRelease (e : Env) (c : Core) : Core :=
  match c.session.state with
  | .authorizing | .preheat | .charging | .paused => stopCause e .vehicleStop c
  | .stopping =>
    stopCause e .vehicleStop (c.onSession fun s => { s with releaseSeen := true })
  | .closed => c.onSession fun s => { s with releaseSeen := true }
  | .idle | .attached => c

/-- A CHARGE-REQUEST is taken (R21). -/
def takeRequest (e : Env) (r : ChargeRequest) (c : Core) : Core :=
  let c' := c.onSession fun s => { s with request := some r, requestTimer := some 1000 }
  if r.release then takeRelease e c' else reviewRequest e c'

/-- The request expires (R22). -/
def expireRequest (e : Env) (c : Core) : Core :=
  reviewRequest e (c.onSession fun s => { s with request := none, requestTimer := none })

/-- The supply monitor reads V_sup minimum at a window close (R190). -/
def takeSupply (e : Env) (c : Core) : Core :=
  match e.mfe.published with
  | none => c
  | some p =>
    if c.sup.low then
      if 95 ≤ p.vSupMin then c.onSup fun s => { s with low := false } else c
    else if p.vSupMin < 90 then stopCause e .supplyLoss (c.onSup fun s => { s with low := true })
    else c

end Sys2Proof.Machine
end

