-- ==== Sys2Proof/Machine/Measure.lean ====
section
/-! DEFINITION. The measurement front end (chapter 1) and its commands: window close, pilot edges, static timer,
digital inputs. -/

namespace Sys2Proof.Machine

/-! ### Windowed values (R2, R3, R8) -/

/-- A negative sample counts as 0 (R3). -/
def floorZero (l : List Int) : List Int := l.map fun v => max 0 v

/-- The mean of the products of simultaneous samples in dV and dA, in W (R2). -/
def realPower (p : PhaseSamples) : Int :=
  (List.zipWith (fun v i => v * i) p.voltage.toList p.current.toList).sum / (100 * 100)

def phaseValues (p : PhaseSamples) : PhaseValues where
  volts := rms 3000 p.voltage.toList
  amps := rms 800 p.current.toList
  power := realPower p

/-- V_in: the mean RMS voltage of the active phases, 0 with none (R2). -/
def meanActive (volts : List Nat) : Nat :=
  let act := volts.filter fun v => 1000 ≤ v
  if act = [] then 0 else act.sum / act.length

/-- V_bus is valid unless a sample reached the full scale (R3). -/
def busValid (l : List Int) : Bool := l.all fun v => v < 6000

/-- The set of windowed values of one window (R2, R3, R8). -/
def measure (w : WindowSamples) : MeasurementSet :=
  let l1 := phaseValues w.l1
  let l2 := phaseValues w.l2
  let l3 := phaseValues w.l3
  { l1, l2, l3
    pIn := clampInt (-30000) 30000 (l1.power + l2.power + l3.power)
    vIn := meanActive [l1.volts, l2.volts, l3.volts]
    vBus := if busValid w.bus.toList then (mean (floorZero w.bus.toList)).toNat else 6000
    vBusValid := busValid w.bus.toList
    iOut := clampNat 0 800 (mean (floorZero w.outCurrent.toList)).toNat
    iHeat := clampNat 0 200 (mean (floorZero w.heatCurrent.toList)).toNat
    vSupMean := (clampInt 0 200 (mean w.supply.toList)).toNat
    vSupMin := (clampInt 0 200 (minFrom 200 w.supply.toList)).toNat }

/-! ### Zones (R4 to R6) -/

/-- The temperatures of a window in which every sample converted to one (R4). -/
def allTemps : List ZoneSample → Option (List Int)
  | [] => some []
  | .temp t :: rest => (allTemps rest).map (t :: ·)
  | .openBand :: _ | .shortBand :: _ => none

/-- The window classification of R4: the published value, and whether the window is in range. -/
def classifyZone (before : Option Int) (l : List ZoneSample) : Int × Bool :=
  match allTemps l with
  | some temps =>
    (clampInt (-400) 850 (mean temps), temps.all fun t => -400 ≤ t && t ≤ 850)
  | none => (before.getD (-400), false)

/-- The validity of a zone after a window (R5). -/
def moveZone (z : Zone) (value : Int) (inRange : Bool) : Zone :=
  match z.validity, inRange with
  | .pending, true | .valid, true => { z with validity := .valid, value := some value }
  | .pending, false | .valid, false => { validity := .invalid, recovery := 0, value := some value }
  | .invalid, true =>
    { validity := if z.recovery + 1 = 10 then .valid else .invalid
      recovery := z.recovery + 1
      value := some value }
  | .invalid, false => { z with recovery := 0, value := some value }

def windowZone (z : Zone) (l : Vector ZoneSample 100) : Zone :=
  moveZone z (classifyZone z.value l.toList).1 (classifyZone z.value l.toList).2

/-- The zones that enter INVALID, as the set SENSOR-FAULT names (R5). -/
def newlyInvalid (before after : Quad Zone) : Byte :=
  maskOf 8
    (Quad.zipWith (fun a b => a.validity != .invalid && b.validity == .invalid) before after).toList

/-- The lower of two optional temperatures. -/
def minOption : Option Int → Option Int → Option Int
  | some a, some b => some (min a b)
  | some a, none => some a
  | none, b => b

/-- T_min: the lowest value among the VALID zones (R6). -/
def coldest (zones : Quad Zone) : Option Int :=
  (zones.map fun z => if z.validity = .valid then z.value else none).toList.foldl minOption none

/-! ### Pilot level and cable code (R9, R10) -/

/-- The high level of a window (R9). -/
def pilotHigh (static : Bool) (l : List PilotSample) : Int :=
  let high := l.filter (·.high)
  if static || high.isEmpty then mean (l.map (·.level)) else mean (high.map (·.level))

/-- The band of a high level (R9). -/
def pilotBand (v : Int) : PilotLevel :=
  if 1050 ≤ v then .detached else if 750 ≤ v then .attached else if 450 ≤ v then .loaded
  else .pilotError

/-- The debounce of the pilot level (R9): the level, and the change that has been seen once. -/
def debouncePilot (level change : Option PilotLevel) (band : PilotLevel) :
    Option PilotLevel × Option PilotLevel :=
  if level = none ∨ level = some band then (some band, none)
  else
    match band with
    | .detached | .pilotError => (some band, none)
    | .attached | .loaded => if change = some band then (some band, none) else (level, some band)

/-- The cable code of a proximity mean (R10). -/
def cableBand (mv : Int) : CableCode :=
  if mv < 200 then .noCable else if mv < 900 then .a63 else if mv < 1600 then .a32
  else if mv < 2300 then .a20 else if mv < 3000 then .a13 else .noCable

/-- The debounce of the cable code (R10): a lower code acts at once, a higher one at its second window. -/
def debounceCable (code change : Option CableCode) (seen : CableCode) :
    Option CableCode × Option CableCode :=
  match code with
  | none => (some seen, none)
  | some now =>
    if seen.code ≤ now.code then (some seen, none)
    else if change = some seen then (some seen, none)
    else (some now, some seen)

/-- A trigger written by the vehicle controller takes effect at a window close (R18, log 21). -/
def latchTriggers (cfg : ConfigRecord) (m : Mfe) : Mfe :=
  { m with
    aux := { m.aux with trigger := cfg.auxTrigger }
    fault := { m.fault with trigger := cfg.faultTrigger }
    flap := { m.flap with trigger := cfg.flapTrigger } }

/-- The front end after a window close (R1). -/
def closeMeasurement (cfg : ConfigRecord) (w : WindowSamples) (m : Mfe) : Mfe :=
  let zones := Quad.zipWith windowZone m.zones w.zones
  let pilot := debouncePilot m.pilotLevel m.pilotChange
    (pilotBand (pilotHigh (m.unit == .static) w.pilot.toList))
  let cable := debounceCable m.cable m.cableChange (cableBand (mean w.proximity.toList))
  latchTriggers cfg
    { m with
      windowTimer := some 100
      published := some (measure w)
      zones
      tMin := coldest zones
      pilotLevel := pilot.1
      pilotChange := pilot.2
      cable := cable.1
      cableChange := cable.2 }

/-! ### Pilot capture (R11 to R15) -/

/-- The offer of an accepted duty (R12). -/
def offerOf (d : Nat) : Nat := if 100 ≤ d ∧ d ≤ 850 then (d - 50) * 4 / 5 else 0

/-- The duty of the period that a rising capture closes, none for an invalid period (R11, R12). -/
def closedPeriod (m : Mfe) (last capture : Word) : Option Nat :=
  let period := (capture - last).toNat
  match m.fallCapture with
  | some f =>
    if 900 ≤ period ∧ period ≤ 1100 ∧ m.fallCount = 1 then
      some ((f - last).toNat * 1000 / period)
    else none
  | none => none

/-- Two duties agree (R13, R14). -/
def near (a b : Nat) : Bool := distance a b ≤ 10

/-- Three duties of which no two differ by more than 10 (R13). -/
def runAgrees : List Nat → Bool
  | [a, b, c] => near a b && near b c && near a c
  | _ => false

/-- ACQUIRING takes a period (R13). -/
def acquire (duty : Option Nat) (m : Mfe) : Mfe :=
  match duty with
  | none => { m with run := [] }
  | some d =>
    let run := m.run ++ [d]
    if runAgrees run then
      { m with
        run
        unit := .locked
        accepted := some d
        candidate := none
        invalidCount := 0
        offer := offerOf d
        offerValid := true }
    else { m with run := if run.length = 3 then run.drop 1 else run }

/-- LOCKED takes a valid period (R14). -/
def lockedValid (d : Nat) (m : Mfe) : Mfe :=
  if (m.accepted.map (near d)).getD false then { m with invalidCount := 0, candidate := none }
  else if (m.candidate.map (near d)).getD false then
    { m with invalidCount := 0, accepted := some d, candidate := none, offer := offerOf d }
  else { m with invalidCount := 0, candidate := some d }

/-- LOCKED takes an invalid period: the third in a row loses the lock (R14, log 15). -/
def lockedInvalid (m : Mfe) : Mfe :=
  if m.invalidCount + 1 = 3 then
    { m with
      unit := .acquiring
      run := []
      accepted := none
      candidate := none
      invalidCount := 3
      offer := 0
      offerValid := false }
  else { m with candidate := none, invalidCount := m.invalidCount + 1 }

/-- The unit takes a closed period by its state (R13, R14). -/
def takePeriod (duty : Option Nat) (m : Mfe) : Mfe :=
  match m.unit with
  | .static => m
  | .acquiring => acquire duty m
  | .locked =>
    match duty with
    | some d => lockedValid d m
    | none => lockedInvalid m

/-- The unit at a rising edge: STATIC enters ACQUIRING, otherwise a period is closed if a rising edge came
before (R11, R13). -/
def unitAtRise (capture : Word) (m : Mfe) : Mfe :=
  match m.unit with
  | .static => { m with unit := .acquiring, run := [], invalidCount := 0 }
  | .acquiring | .locked =>
    match m.lastRising with
    | some last => takePeriod (closedPeriod m last capture) m
    | none => m

/-- A rising edge (R11). -/
def risingEdge (capture : Word) (m : Mfe) : Mfe :=
  { unitAtRise capture m with
    captureCounter := capture
    lastRising := some capture
    fallCount := 0
    fallCapture := none
    staticTimer := some 5 }

/-- A falling edge: recorded for the period in progress, if there is one (R11). -/
def fallingEdge (capture : Word) (m : Mfe) : Mfe :=
  if m.lastRising.isSome then
    { m with captureCounter := capture, fallCount := m.fallCount + 1, fallCapture := some capture }
  else { m with captureCounter := capture }

/-- The static timer expires (R15). -/
def enterStatic (m : Mfe) : Mfe :=
  { m with
    unit := .static
    lastRising := none
    run := []
    accepted := none
    candidate := none
    invalidCount := 0
    staticTimer := none
    offer := 0
    offerValid := false }

/-! ### Offer changes (R16) -/

/-- A change of the published offer is delivered: OFFER-FALL to the allocator, which recomputes at once, and
every change to the session controller (R16, R63, R30, log 9). -/
def deliverOffer (before : Nat) (valid : Bool) (e : Env) (c : Core) : Core :=
  if e.mfe.offer = before ∧ e.mfe.offerValid = valid then c
  else
    (if 0 < before ∧ e.mfe.offer = 0 then allocate true e c else c)
      |> setPause .offerZero (offerZero e.mfe)
      |> settlePause e
      |> conclude e

/-- The capture unit changes, and the change of its offer is delivered. -/
def State.captureStep (s : State) (f : Mfe → Mfe) : State :=
  if s.core.up then
    (s.onMfe f).run (deliverOffer s.env.mfe.offer s.env.mfe.offerValid)
  else s

/-! ### Digital inputs (R17, R18) -/

/-- An input event at a settled change or a first settling (R18). -/
def changeEvent (t : Trigger) (old new : SettledLevel) : Bool :=
  match t with
  | .rising => old == .low && new == .high
  | .falling => old == .high && new == .low
  | .change => old != .unsettled && old != new
  | .levelHigh => new == .high
  | .levelLow => new == .low

/-- An input event at a window close, for the level triggers (R18). -/
def windowEvent (i : InputState) : Bool :=
  match i.trigger with
  | .levelHigh => i.level == .high
  | .levelLow => i.level == .low
  | .rising | .falling | .change => false

def settledOf : LineLevel → SettledLevel
  | .low => .low
  | .high => .high

def Mfe.input (m : Mfe) : DigitalInput → InputState
  | .contactorAux => m.aux
  | .converterFault => m.fault
  | .inletFlap => m.flap

def Mfe.setInput (m : Mfe) (d : DigitalInput) (i : InputState) : Mfe :=
  match d with
  | .contactorAux => { m with aux := i }
  | .converterFault => { m with fault := i }
  | .inletFlap => { m with flap := i }

/-- The configured trigger of an input (section 11.1). -/
def ConfigRecord.trigger (g : ConfigRecord) : DigitalInput → Trigger
  | .contactorAux => g.auxTrigger
  | .converterFault => g.faultTrigger
  | .inletFlap => g.flapTrigger

/-- The auxiliary contact's active condition is compared with what it was (R18). -/
def reviewAux (was : Bool) (e : Env) (c : Core) : Core :=
  if e.mfe.aux.active = was then c else auxChanged e e.mfe.aux.active c

/-- The converter fault report of a window close (R18, R42). -/
def windowFault (e : Env) (c : Core) : Core :=
  if windowEvent e.mfe.fault then converterFault e c else c

/-! ### The window close (R1) -/

/-- The set is delivered to the session controller (in ACTIVE, R46), the heater and the supply monitor, in
this order (R1, log 8). -/
def deliverSet (stopping : Bool) (e : Env) (c : Core) : Core :=
  (if c.active then sessionTakeSet stopping e c else c)
    |> heaterTakeSet e
    |> takeSupply e

/-- The window closes: SENSOR-FAULT, then the deliveries and the level-trigger events in the order given. -/
def windowDeliveries (wasAux : Bool) (faults : Byte) (eventsFirst : Bool) (e : Env) (c : Core) : Core :=
  let stopping := c.session.state == .stopping
  let c' := reviewAux wasAux e (postSensorFault faults c)
  conclude e
    (if eventsFirst then deliverSet stopping e (windowFault e c')
      else windowFault e (deliverSet stopping e c'))

/-- MEASUREMENT_WINDOW_CLOSE (R1). -/
def State.windowClose (s : State) (w : WindowSamples) (eventsFirst : Bool) : State :=
  if s.core.up && s.env.mfe.windowTimer.isSome then
    let m := closeMeasurement s.env.cfg w s.env.mfe
    (s.onMfe fun _ => m).run
      (windowDeliveries s.env.mfe.aux.active (newlyInvalid s.env.mfe.zones m.zones) eventsFirst)
  else s

end Sys2Proof.Machine
end

