-- ==== Sys2Proof/Machine/Startup.lean ====
section
/-! DEFINITION. Resets, start-up, sleep and wake (chapter 11). -/

namespace Sys2Proof.Machine

/-! ### Leaving a reset (R184, R185, R191, and the reset tables of each chapter) -/

/-- The kind of a reset (R184): COLD when the retention area is not valid, whatever brought it about. -/
def resetKindOf (retentionValid : Bool) (cause : ResetCause) : ResetKind :=
  if retentionValid then
    match cause with
    | .pin | .supply => .warm
    | .command => .command
  else .cold

/-- The session record after a WARM or COMMAND reset (R46). -/
def Session.retained (s : Session) : Session :=
  { Session.reset with
    number := s.number, weldLatch := s.weldLatch, converterLatch := s.converterLatch }

/-- The authorization unit after a WARM or COMMAND reset (R61). -/
def Auth.retained (a : Auth) : Auth := { Auth.reset with allowList := a.allowList }

/-- The monitor after a WARM or COMMAND reset: a FAULT and its result are kept, and the start-up self-test
begins at the configured half-period (R123, R185). -/
def Monitor.retained (halfPeriod : Nat) (m : Monitor) : Monitor :=
  if m.result == .fault then
    { Monitor.reset with
      timer := some halfPeriod
      result := .fault
      last := m.faultResult
      faultResult := m.faultResult }
  else { Monitor.reset with timer := some halfPeriod }

/-- The meter after a WARM or COMMAND reset (R143). -/
def Meter.retained (m : Meter) : Meter := { m with timer := none, staging := none, held := false }

/-- The blocks after a WARM or COMMAND reset (R184). -/
def Core.retained (halfPeriod : Nat) (kind : ResetKind) (c : Core) : Core :=
  { Core.reset with
    session := c.session.retained
    auth := c.auth.retained
    mon := c.mon.retained halfPeriod
    meter := c.meter.retained
    queue := c.queue
    sup := { Supply.reset with kind }
    drawn := c.drawn }

/-- A record found open in retention is closed as RESET (R143): the session's end reason copied into it joins
its faults-seen; it is placed if there is room, and waits otherwise. A record whose close was asked for
before keeps waiting. -/
def closeRetained (e : Env) (c : Core) : Core :=
  match c.meter.openRec with
  | none => c
  | some o =>
    if o.closeRequested then c
    else
      let r := closeContent e.cfg c.meter .reset
        (faultsWith o.record.faultsSeen (copiedCause o.record)) o.record
      if c.queue.room then handOver e r c
      else c.onMeter fun m => { m with openRec := some { record := r, closeRequested := true } }

/-- The part leaves a reset of a kind: the blocks take their reset values and STARTING begins (R185). -/
def leaveReset (kind : ResetKind) (s : State) : State :=
  match kind with
  | .cold => { State.reset with core := { Core.reset with drawn := s.core.drawn }, pending := s.pending }
  | .warm | .command =>
    ({ s with
        env := { s.env with mfe := Mfe.afterReset s.env.cfg }
        core := s.core.retained s.env.cfg.halfPeriod kind
        vport := VehiclePort.reset
        fport := FleetPort.reset }).run closeRetained

/-- STARTING ends at the report of the start-up self-test (R185). -/
def endStarting (outcome : TestOutcome) (c : Core) : Core :=
  (c.onSup fun s => { s with power := .active, selfTest := some outcome })
    |> (fun c => c.onAlloc fun a => { a with timer := some 100 })
    |> (fun c => c.onMeter fun m => { m with timer := some 100 })

/-! ### Sleep and wake (R19, R168, R181, R188, R189) -/

/-- The front end asleep: everything stopped but the flap input, the other inputs UNSETTLED (R17, R19). -/
def Mfe.asleep (m : Mfe) : Mfe :=
  Mfe.fresh none (InputState.fresh m.aux.trigger) (InputState.fresh m.fault.trigger) m.flap

/-- The entry to SLEEP (R189). -/
def enterSleep (s : State) : State :=
  { s with
    env := { s.env with mfe := s.env.mfe.asleep }
    vport := { VehiclePort.reset with ready := false, shiftedOut := s.vport.shiftedOut }
    core :=
      { s.core with
        sup := { s.core.sup with power := .sleep }
        alloc := Alloc.reset
        heater := Heater.reset
        link := Link.reset
        meter := { s.core.meter with timer := none } } }

/-- The blocks at a wake (R22, R85, R103, R168, R189): ACTIVE without STARTING. -/
def Core.awake (c : Core) : Core :=
  { c with
    sup := { c.sup with power := .active }
    session := { c.session with request := none, requestTimer := none }
    alloc := { Alloc.reset with timer := some 100 }
    heater := Heater.reset
    link := Link.reset
    meter := { c.meter with timer := some 100 } }

/-- The wake (R189, R181): WAKE is posted with its sources. -/
def wakeUp (sources : Byte) (s : State) : State :=
  { s with
    env := { s.env with mfe := { s.env.mfe with windowTimer := some 100, captureCounter := 0 } }
    vport := { VehiclePort.reset with shiftedOut := s.vport.shiftedOut }
    fport := { s.fport with outstanding := none, transmit := none, paused := false }
    core := postWake sources s.core.awake }

/-- The wake sources as a set (section 12.6). -/
def wakeSet (pilot fleet vehicle flap : Bool) : Byte := maskOf 8 [pilot, fleet, vehicle, flap]

/-- The part is asleep. -/
def State.asleep (s : State) : Bool := s.core.sup.held.isNone && s.core.sup.power == .sleep

/-! ### Deferred actions (R172, R187, R188) -/

/-- A RESET is released (R187, R45). -/
def releaseReset (e : Env) (c : Core) : Core :=
  match c.session.state with
  | .idle | .attached | .closed => takeReset .command c
  | .authorizing | .preheat | .charging | .paused | .stopping =>
    stopCause e .resetCommand (c.onSup fun s => { s with deferredReset := true })

/-- A SLEEP is released (R188): judged again. -/
def releaseSleep (s : State) : State :=
  if s.core.session.state == .idle then
    if wakingSources s.env.mfe s.fport = 0 then enterSleep s
    else s.onCore (postWake (wakingSources s.env.mfe s.fport))
  else s

/-- The deferred action is released to the start-up block (R172). -/
def releaseAction (a : DeferredAction) (s : State) : State :=
  match a with
  | .none => s
  | .reset => s.run fun e c => conclude e (releaseReset e c)
  | .sleep => releaseSleep s

end Sys2Proof.Machine
end

