-- ==== Sys2Proof/Machine/MonitorCycle.lean ====
section
/-! DEFINITION. The end of a half-period (R108 to R117): discard, settled sample, cycle result, judgement of the
bus, end of the self-test. -/

namespace Sys2Proof.Machine

/-- What an event does ends with: the part takes it while it is neither held in reset nor asleep (R184, R189,
log 33). -/
def State.event (s : State) (f : Env → Core → Core) : State := if s.core.up then s.run f else s

/-- The answer of a command: the next state, with the lines as they then stand. -/
def State.done (s : State) : Host.Outcome State Fault Refusal := .next s.settle

/-! ### The end of the self-test (R117) -/

/-- The self-test fails: INOPERATIVE, monitor failure and SELF-TEST-FAIL; a start-up self-test ends STARTING. -/
def failTest (e : Env) (c : Core) : Core :=
  let c' := reportTestFailed e (leaveMeasuring e .inoperative c)
  if c.mon.kind = some .startUp then endStarting .failed c' else c'

/-- The self-test passes: MONITORING in a session, OFF at start-up. -/
def passTest (e : Env) (c : Core) : Core :=
  if c.mon.kind = some .startUp then endStarting .passed (leaveMeasuring e .off c)
  else reportTestPassed e ((leaveMeasuring e .monitoring c).onMon (beginCycle e))

/-- A result of the self-test (R116). -/
def judgeTest (e : Env) (r : RIso) (c : Core) : Core :=
  if r.inBand then
    let c' := c.onMon fun m => { m with pass := m.pass + 1 }
    if c'.mon.pass = 2 then passTest e c' else c'
  else failTest e c

/-! ### The judgement of the bus (R111 to R114) -/

/-- The change to FAULT (R114): the command line falls, and the session controller, the allocator and the
heater act, in this order (log 28). -/
def enterFault (e : Env) (c : Core) : Core :=
  c.onMon (fun m => { m with result := .fault, faultResult := m.last })
    |> post .insulationFault
    |> reportFall (commandLine c)
    |> stopCause e .insulationFault
    |> allocate true e
    |> heaterOff

/-- The result state moves, with its notices (R112). -/
def setResult (e : Env) (new : ResultState) (c : Core) : Core :=
  if new = c.mon.result then c
  else
    match new with
    | .fault => enterFault e c
    | .warn => post .insulationWarn (c.onMon fun m => { m with result := .warn })
    | .ok | .noResult => c.onMon fun m => { m with result := new }

/-- A bus result is classed and judged, unless the V_bus read is INVALID (R111, R112). -/
def judgeBus (e : Env) (r : RIso) (c : Core) : Core :=
  match e.mfe.vBus? with
  | none => c
  | some v =>
    let k := classify r (threshold e.cfg.warnOhms v) (threshold e.cfg.faultOhms v)
    let c' := c.onMon (moveCounts k)
    setResult e (nextResult k c'.mon) c'

/-! ### The half-period (R108, R109) -/

/-- The half-period is discarded: marked, or without a sample in its window (R109). -/
def Monitor.discarded (m : Monitor) : Bool := m.mark || !m.window || m.windowCount == 0

/-- A cycle has ended without a result and the count is taken (R109, R115, R116). -/
def endWithoutResult (e : Env) (c : Core) : Core :=
  if c.mon.noResults < 8 then c.onMon (beginCycle e)
  else
    match c.mon.state with
    | .selfTest => failTest e c
    | .monitoring | .off | .inoperative => reportTestFailed e (leaveMeasuring e .inoperative c)

/-- A half-period is discarded (R109). -/
def discardHalf (e : Env) (c : Core) : Core :=
  if c.mon.discards + 1 < 4 then
    c.onMon fun m => beginHalf e { m with discards := m.discards + 1 }
  else
    endWithoutResult e
      (c.onMon fun m => { m with vPos := none, discards := 0, noResults := m.noResults + 1 })

/-- The settled sample (R108). -/
def Monitor.settled (m : Monitor) : Int := m.windowSum / m.windowCount

/-- A cycle result goes to the self-test or to the judgement of the bus (R110), the next cycle having begun. -/
def takeResult (e : Env) (r : RIso) (c : Core) : Core :=
  match c.mon.state with
  | .selfTest => judgeTest e r ((storeResult e c .reference r).onMon (beginCycle e))
  | .monitoring | .off | .inoperative =>
    judgeBus e r ((storeResult e c .bus r).onMon (beginCycle e))

/-- A half-period is accepted (R108 steps 2 to 4). A NEGATIVE one without V_pos does not arise (log 37). -/
def acceptHalf (e : Env) (c : Core) : Core :=
  let settled := c.mon.settled
  let c' := c.onMon fun m => { m with discards := 0 }
  match c.mon.polarity, c.mon.vPos with
  | .positive, _ =>
    c'.onMon fun m => beginHalf e { m with vPos := some settled, polarity := .negative }
  | .negative, none => c'.onMon (beginCycle e)
  | .negative, some vPos => takeResult e (resistance (halfAmplitude vPos settled)) c'

/-- The decision at the expiry; what it causes is no disturbance of the window that ends (R114, log 28). -/
def decideHalf (e : Env) (c : Core) : Core :=
  if c.mon.discarded then discardHalf e c
  else (acceptHalf e c).onMon fun m => { m with mark := false }

/-- The half-period timer expires (R108): the decision, then the end of the quiet window. -/
def halfPeriodEnd (samples : List Int) (e : Env) (c : Core) : Core :=
  if c.mon.state.measuring && c.mon.timer.isSome then
    conclude e (closeWindow e (decideHalf e (c.onMon (takeSamples samples))))
  else c

/-- The quiet window opens in a running half-period (R108). -/
def quietOpen (c : Core) : Core :=
  if c.mon.state.measuring && c.mon.timer.isSome && !c.mon.window then openWindow c else c

end Sys2Proof.Machine
end

