-- ==== Sys2Proof/Machine/BlockCommands.lean ====
section
/-! DEFINITION. The timers of the allocator, the heater, the monitor and the meter, and the time counter. -/

namespace Sys2Proof.Machine

/-- An allocation falls due, and the timer restarts (R62). -/
def allocationDue (e : Env) (c : Core) : Core :=
  if c.alloc.timer.isSome then
    allocate false e (c.onAlloc fun a => { a with timer := some 100 })
  else c

/-- ALLOCATION_TIMER_EXPIRY (R62). -/
def execAllocationTimerExpiry (s : State) : Host.Outcome State Fault Refusal :=
  (s.event allocationDue).done

/-- The slot timer expires while a frame runs (R90, R97). -/
def slotDue (e : Env) (c : Core) : Core :=
  if c.heater.run = .running ∧ c.heater.slotTimer.isSome then boundaryDue e c else c

/-- SLOT_TIMER_EXPIRY (R90). -/
def execSlotTimerExpiry (s : State) : Host.Outcome State Fault Refusal :=
  (s.event slotDue).done

/-- QUIET_WINDOW_OPEN (R108). -/
def execQuietWindowOpen (s : State) : Host.Outcome State Fault Refusal :=
  (s.event fun _ => quietOpen).done

/-- HALF_PERIOD_TIMER_EXPIRY (R108). -/
def execHalfPeriodTimerExpiry (samples : List Int) (s : State) : Host.Outcome State Fault Refusal :=
  (s.event (halfPeriodEnd samples)).done

/-- The metering timer expires and restarts; with the contactor not OPEN it is a metering interval (R124). -/
def meteringDue (e : Env) (c : Core) : Core :=
  if c.meter.timer.isSome then
    let c' := c.onMeter fun m => { m with timer := some 100 }
    if c.session.contactor = .opened then c' else meterInterval e c'
  else c

/-- METERING_TIMER_EXPIRY (R124). -/
def execMeteringTimerExpiry (s : State) : Host.Outcome State Fault Refusal :=
  (s.event meteringDue).done

/-- The counter runs in every power state, and in the held reset while the retention supply is valid (R127). -/
def Core.timeRuns (c : Core) : Bool := c.sup.held.isNone || c.sup.retentionValid

/-- The time counter advances by one second (R127). -/
def tick (c : Core) : Core :=
  if c.timeRuns then c.onMeter fun m => { m with time := m.time + 1 } else c

/-- TIME_COUNTER_TICK (R127). -/
def execTimeCounterTick (s : State) : Host.Outcome State Fault Refusal := (s.onCore tick).done

end Sys2Proof.Machine
end

