-- ==== Sys2Proof/Machine/Operands.lean ====
section
/-! DEFINITION. The operand forms of the requests: what the content bytes of section 12.3 carry, brought into
range as each rule states. `none` is content of a wrong length or with a code outside its table. -/

namespace Sys2Proof.Machine

/-- Bytes as 2-byte words, least significant byte first (R192). -/
def words : List Byte → List Nat
  | a :: b :: rest => leVal [a, b] :: words rest
  | _ => []

/-- CHARGE-REQUEST: the request brought into range, and whether it was clamped (R21). -/
def chargeOperand : List Byte → Option (ChargeRequest × Bool)
  | [flags, i0, i1, v0, v1] =>
    let i := leVal [i0, i1]
    let v := leVal [v0, v1]
    some
      ({ chargeEnable := hasBit flags 0
         heatEnable := hasBit flags 1
         hvLive := hasBit flags 2
         iReq := clampNat 0 1000 i
         vTarget := clampNat 2500 4500 v },
        clampNat 0 1000 i != i || clampNat 2500 4500 v != v)
  | _ => none

/-- CLEAR-WELD: whether WELD and CONVERTER-FAULT are named; at least one must be (R43). -/
def latchOperand : List Byte → Option (Bool × Bool)
  | [mask] => if hasBit mask 0 || hasBit mask 1 then some (hasBit mask 0, hasBit mask 1) else none
  | _ => none

/-- SET-DRIVER-TAG: a tag, or the clearing form (R47). -/
def tagOperand (content : List Byte) : Option (Option Tag) :=
  if content = [] then some none else (Tag.ofBytes content).map some

/-- A notice mask (R179, R180). -/
def maskOperand : List Byte → Option Half
  | [a, b] => some (BitVec.ofNat 16 (leVal [a, b]))
  | _ => none

/-- RELEASE-RECORD: session number and continuation (R148). -/
def releaseOperand : List Byte → Option (Half × Nat)
  | [a, b, k] => some (BitVec.ofNat 16 (leVal [a, b]), k.toNat)
  | _ => none

/-- SET-TIME: the time and the optional signed offset (R128). -/
def timeOperand : List Byte → Option (Word × Option Int)
  | [a, b, c, d] => some (BitVec.ofNat 32 (leVal [a, b, c, d]), none)
  | [a, b, c, d, x, y] =>
    some (BitVec.ofNat 32 (leVal [a, b, c, d]), some (signed16 (leVal [x, y])))
  | _ => none

/-- SET-SPEND-CAP: the cap as sent (R141). -/
def capOperand : List Byte → Option Nat
  | [a, b, c, d] => some (leVal [a, b, c, d])
  | _ => none

/-- ALLOW-ADD: a tag and an optional expiry (R58). -/
def allowOperand (content : List Byte) : Option AllowEntry :=
  match Tag.ofBytes (content.take 8), content.drop 8 with
  | some tag, [] => some { tag, expiry := none }
  | some tag, [a, b, c, d] => some { tag, expiry := some (BitVec.ofNat 32 (leVal [a, b, c, d])) }
  | _, _ => none

/-! ### Configuration (R182, R166) -/

/-- A value brought into a range, and whether that changed it. -/
def ranged (lo hi v : Nat) : Nat × Bool := (clampNat lo hi v, clampNat lo hi v != v)

/-- A signed 2-byte value brought into a range, and whether that changed it. -/
def rangedSigned (lo hi : Int) (v : Nat) : Int × Bool :=
  (clampInt lo hi (signed16 v), clampInt lo hi (signed16 v) != signed16 v)

/-- A phases value: 1 or 3 (R182). -/
def phasesOf (v : Nat) : Nat := if v ≤ 1 then 1 else 3

/-- A half-period: the largest allowed value at or below the one written, or 500 ms (R182). -/
def halfPeriodOf (v : Nat) : Nat :=
  if 4000 ≤ v then 4000 else if 2000 ≤ v then 2000 else if 1000 ≤ v then 1000 else 500

/-- An identifier with its address field replaced (R166). -/
def withAddress (code : CanId) (address : Nat) : CanId :=
  BitVec.ofNat 11 (code.toNat / 64 * 64 + address)

/-- Writes the field of one presence bit with a 2-byte value; the flag says that the value was changed. An
own address also replaces the code's address field; a code named too is written after it (R166). -/
def setConfigField (g : ConfigRecord) (v : Nat) : Nat → Option (ConfigRecord × Bool)
  | 0 => if v ≤ 1 then some ({ g with authRequired := v == 1 }, false) else none
  | 1 =>
    let x := rangedSigned (-100) 400 v
    some ({ g with permitTemp := x.1 }, x.2)
  | 2 => some ({ g with phases := phasesOf v }, phasesOf v != v)
  | 3 =>
    let x := ranged 1000 22000 v
    some ({ g with pCfg := x.1 }, x.2)
  | 4 =>
    let x := ranged 800 990 v
    some ({ g with eta := x.1 }, x.2)
  | 5 =>
    let x := ranged 0 3000 v
    some ({ g with reserve := x.1 }, x.2)
  | 6 =>
    let x := ranged 0 22000 v
    some ({ g with fallback := x.1 }, x.2)
  | 7 =>
    let x := ranged 500 3000 v
    some ({ g with pSeg := x.1 }, x.2)
  | 8 =>
    let x := rangedSigned 0 400 v
    some ({ g with preheatTarget := x.1 }, x.2)
  | 9 =>
    let x := rangedSigned 0 400 v
    some ({ g with chargeTarget := x.1 }, x.2)
  | 10 =>
    let x := ranged 1 32 v
    some ({ g with gain := x.1 }, x.2)
  | 11 => some ({ g with halfPeriod := halfPeriodOf v }, halfPeriodOf v != v)
  | 12 =>
    let x := ranged 100 2000 v
    some ({ g with warnOhms := x.1 }, x.2)
  | 13 =>
    let x := ranged 50 1000 v
    some ({ g with faultOhms := x.1 }, x.2)
  | 14 => some ({ g with defaultPrice := v }, false)
  | 15 =>
    let x := ranged 0 62 v
    some ({ g with ownAddress := x.1, accCode := withAddress g.accCode x.1 }, x.2)
  | 16 =>
    let x := ranged 0 2047 v
    some ({ g with accCode := BitVec.ofNat 11 x.1 }, x.2)
  | 17 =>
    let x := ranged 0 2047 v
    some ({ g with accMask := BitVec.ofNat 11 x.1 }, x.2)
  | 18 => (Trigger.ofCode v).map fun t => ({ g with auxTrigger := t }, false)
  | 19 => (Trigger.ofCode v).map fun t => ({ g with faultTrigger := t }, false)
  | 20 => (Trigger.ofCode v).map fun t => ({ g with flapTrigger := t }, false)
  | _ => none

/-- Writes the named fields in ascending order of their bits. -/
def setConfigFields : ConfigRecord → List (Nat × Nat) → Option (ConfigRecord × Bool)
  | g, [] => some (g, false)
  | g, (i, v) :: rest =>
    match setConfigField g v i with
    | none => none
    | some (g', changed) => (setConfigFields g' rest).map fun r => (r.1, changed || r.2)

/-- The fields a presence mask names, in ascending order of their bits. -/
def namedFields (mask : Nat) : List Nat := (List.range 21).filter fun i => mask.testBit i

/-- WRITE-CONFIG: the fields named, and the record with their values and whether one was changed (R182). -/
def configOperand (g : ConfigRecord) (content : List Byte) :
    Option (List Nat × ConfigRecord × Bool) :=
  let mask := leVal (content.take 4)
  let named := namedFields mask
  if content.length = 4 + 2 * named.length ∧ mask < 2 ^ 21 then
    (setConfigFields g (named.zip (words (content.drop 4)))).map fun r => (named, r.1, r.2)
  else none

/-! ### Temperature table (R183) -/

/-- Rows as written, each brought into range, with whether a value was changed. -/
def tableRows : List Nat → List (TempRow × Bool)
  | b :: c :: rest =>
    ({ breakpoint := (rangedSigned (-400) 850 b).1, current := (ranged 0 1000 c).1 },
      (rangedSigned (-400) 850 b).2 || (ranged 0 1000 c).2) :: tableRows rest
  | _ => []

/-- The breakpoints ascend strictly (R183). -/
def rising : List Int → Bool
  | a :: b :: rest => a < b && rising (b :: rest)
  | _ => true

/-- WRITE-TEMP-TABLE: the eight rows brought into range and whether one was changed (R183). -/
def tableOperand (content : List Byte) : Option (List TempRow × Bool) :=
  if content.length = 32 then
    let rows := tableRows (words content)
    some (rows.map (·.1), rows.any (·.2))
  else none

end Sys2Proof.Machine
end

