-- ==== Sys2Proof/Machine/Owners.lean ====
section
/-! DEFINITION. What the owner of each request does and answers (R177): status, content and the change of state. -/

namespace Sys2Proof.Machine

/-- An owner's answer: the state after it has acted, the status and the response's content. -/
structure Answer where
  state : State
  status : Status
  content : List Byte

/-- A request's owner (R177). -/
abbrev Owner := List Byte → State → Answer

/-- The request is answered with a status and nothing changes. A request that is not taken is answered without
content, whatever its type (log 49). -/
def refusedWith (status : Status) (s : State) : Answer := { state := s, status, content := [] }

/-- The request is answered OK without content. -/
def okWith (s : State) : Answer := { state := s, status := .ok, content := [] }

/-- OK, or CLAMPED when a value was brought into range. -/
def okOrClamped (clamped : Bool) (s : State) : Answer :=
  { state := s, status := if clamped then .clamped else .ok, content := [] }

/-- A request that carries no content; content makes it BAD-REQUEST (R177). -/
def withoutContent (act : State → Answer) : Owner := fun content s =>
  if content = [] then act s else refusedWith .badRequest s

/-- A request whose content must have a form; anything else is BAD-REQUEST (R177). -/
def withOperand {α : Type} (form : List Byte → Option α) (act : α → State → Answer) : Owner :=
  fun content s =>
    match form content with
    | some a => act a s
    | none => refusedWith .badRequest s

/-- The state of the session. -/
def State.session (s : State) : SessionState := s.core.session.state

/-! ### Vehicle port requests -/

/-- POLL (R171). -/
def ownPoll : Owner := withoutContent okWith

/-- READ-STATUS (R177, R184, section 12.4). -/
def ownReadStatus : Owner := withoutContent fun s =>
  { state := s.onCore Core.draw, status := .ok, content := statusContent s.env s.core }

/-- CHARGE-REQUEST (R21). -/
def ownChargeRequest : Owner := withOperand chargeOperand fun r s =>
  okOrClamped r.2 (s.run fun e c => conclude e (takeRequest e r.1 c))

/-- STOP (R41). -/
def ownStop : Owner := withoutContent fun s =>
  if s.session.busy then okWith (s.run fun e c => conclude e (stopCause e .vehicleStop c))
  else refusedWith .refusedState s

/-- A named latch whose input still shows its condition (R43). -/
def latchActive (m : Mfe) (named : Bool × Bool) : Bool :=
  (named.1 && m.aux.active) || (named.2 && m.fault.active)

/-- The named latches are cleared (R43). -/
def Session.clearLatches (named : Bool × Bool) (s : Session) : Session :=
  { s with
    weldLatch := s.weldLatch && !named.1
    converterLatch := s.converterLatch && !named.2 }

/-- CLEAR-WELD (R43). -/
def ownClearWeld : Owner := withOperand latchOperand fun named s =>
  if s.session.busy then refusedWith .refusedState s
  else if latchActive s.env.mfe named then refusedWith .latchActive s
  else okWith (s.run fun e c => conclude e (c.onSession (Session.clearLatches named)))

/-- SET-DRIVER-TAG (R47). -/
def ownSetDriverTag : Owner := withOperand tagOperand fun tag s =>
  okWith (s.run fun e c => conclude e (c.onAuth fun a => { a with driverTag := tag }))

/-- CLEAR-INSULATION-FAULT (R120). -/
def ownClearInsulationFault : Owner := withoutContent fun s =>
  if s.session.busy then refusedWith .refusedState s
  else okWith (s.run fun e c => conclude e (c.onMon clearFault))

/-- READ-INSULATION (R122). -/
def ownReadInsulation : Owner := withoutContent fun s =>
  { state := s.onCore Core.draw, status := .ok, content := insulationContent s.env s.core }

/-- Every field named is an ohms-per-volt value (R121). -/
def onlyOhms (named : List Nat) : Bool := named.all fun i => i == 12 || i == 13

/-- WRITE-CONFIG (R182, R121). -/
def ownWriteConfig : Owner := fun content s =>
  match configOperand s.env.cfg content with
  | none => refusedWith .badRequest s
  | some (named, g, clamped) =>
    if s.session.busy && !onlyOhms named then refusedWith .refusedState s
    else okOrClamped clamped ((s.onCfg fun _ => g).run conclude)

/-- READ-CONFIG (R182). -/
def ownReadConfig : Owner := withoutContent fun s =>
  { state := s, status := .ok, content := configContent s.env }

/-- WRITE-TEMP-TABLE (R183). -/
def ownWriteTempTable : Owner := withOperand tableOperand fun t s =>
  if s.session.busy then refusedWith .refusedState s
  else if rising (t.1.map (·.breakpoint)) then okOrClamped t.2 (s.withTable t.1)
  else refusedWith .badTable s

/-- SLEEP at its taking (R188). -/
def ownSleep : Owner := withoutContent fun s =>
  if s.session ≠ .idle then refusedWith .refusedState s
  else if wakingSources s.env.mfe s.fport ≠ 0 then
    { state := s, status := .wakePending, content := [wakingSources s.env.mfe s.fport] }
  else okWith s

/-- RESET at its taking (R187). -/
def ownReset : Owner := withoutContent okWith

/-! ### Requests of both ports -/

/-- IDENTIFY (R186). -/
def ownIdentify : Owner := withoutContent fun s =>
  { state := s, status := .ok, content := identifyContent s.core.sup }

/-- ENABLE-NOTICES (R179). -/
def ownEnableNotices (p : Port) : Owner := withOperand maskOperand fun mask s =>
  okWith (s.onCore fun c => c.onNotices (enableNotices p mask))

/-- What ACK-NOTICES returns: on the fleet port the detail of WAKE (section 12.3, log 39). -/
def ackContent (p : Port) (u : Notices) : List Byte :=
  match p with
  | .vehicle => []
  | .fleet => [u.fleetWake]

/-- ACK-NOTICES (R180). -/
def ownAckNotices (p : Port) : Owner := withOperand maskOperand fun mask s =>
  let s' := s.onCore fun c => c.onNotices (ackNotices p mask)
  { state := s', status := .ok, content := ackContent p s'.core.notices }

/-! ### Fleet port requests -/

/-- The number of records in the queue and the occupancy of the held position (R147). -/
def occupancyBytes (q : ExportQueue) : List Byte := field 1 q.queue.length ++ boolField q.held.isSome

/-- READ-OLDEST-RECORD (R147). -/
def ownReadOldestRecord : Owner := withoutContent fun s =>
  match s.core.queue.oldest with
  | some r =>
    { state := s, status := .ok, content := closedBytes r ++ occupancyBytes s.core.queue }
  | none => { state := s, status := .queueEmpty, content := occupancyBytes s.core.queue }

/-- The oldest record held is removed and a held record promoted (R148). -/
def ExportQueue.release (q : ExportQueue) : ExportQueue :=
  match q.queue with
  | _ :: rest => { queue := rest ++ q.held.toList, held := none }
  | [] => { queue := [], held := none }

/-- RELEASE-RECORD (R148, R149). Its QUEUE-EMPTY carries no occupancy bytes (log 49). -/
def ownReleaseRecord : Owner := withOperand releaseOperand fun pair s =>
  match s.core.queue.oldest with
  | none => refusedWith .queueEmpty s
  | some r =>
    if r.number = pair.1 ∧ r.continuation = pair.2 then
      okWith (s.run fun e c => conclude e (roomReport e (c.onQueue ExportQueue.release)))
    else refusedWith .notOldest s

/-- READ-OPEN-RECORD (R150). -/
def ownReadOpenRecord : Owner := withoutContent fun s =>
  { state := s, status := .ok, content := openContent s.core.meter.openRec }

/-- A local offset outside its range (R127). -/
def offsetClamped (offset : Option Int) : Bool := offset.any fun x => clampInt (-720) 840 x != x

/-- SET-TIME (R128). -/
def ownSetTime : Owner := withOperand timeOperand fun t s =>
  if s.core.meter.timeOwned then refusedWith .timeOwned s
  else okOrClamped (offsetClamped t.2) (s.onCore (setClock .fleet t.1 t.2))

/-- SET-SPEND-CAP (R141). -/
def ownSetSpendCap : Owner := withOperand capOperand fun cap s =>
  okOrClamped (1000000 < cap)
    (s.onCore fun c => c.onMeter fun m => { m with spendCap := min 1000000 cap })

/-- The list after an examination that keeps the entry with the tag and removes every other expired entry
(R58). -/
def examined (m : Meter) (tag : Tag) (l : List AllowEntry) : List AllowEntry :=
  l.filter fun a => a.tag = tag || !a.expired m

/-- The list and whether the entry was taken (R58). -/
def allowAdded (m : Meter) (new : AllowEntry) (l : List AllowEntry) : List AllowEntry × Bool :=
  let l' := examined m new.tag l
  if l'.any fun a => a.tag = new.tag then
    (l'.map fun a => if a.tag = new.tag then new else a, true)
  else if l'.length < 16 then (l' ++ [new], true)
  else (l', false)

/-- The allow-list is replaced. -/
def State.withAllow (s : State) (l : List AllowEntry) : State :=
  s.onCore fun c => c.onAuth fun a => { a with allowList := l }

/-- ALLOW-ADD (R58). -/
def ownAllowAdd : Owner := withOperand allowOperand fun new s =>
  let r := allowAdded s.core.meter new s.core.auth.allowList
  if r.2 then okWith (s.withAllow r.1) else refusedWith .listFull (s.withAllow r.1)

/-- ALLOW-REMOVE (R59). -/
def ownAllowRemove : Owner := withOperand Tag.ofBytes fun tag s =>
  let l := s.core.auth.allowList
  let s' := s.withAllow (l.filter fun a => a.tag ≠ tag && !a.expired s.core.meter)
  if l.any fun a => a.tag = tag then okWith s' else refusedWith .notFound s'

/-- ALLOW-READ (R60). -/
def ownAllowRead : Owner := withoutContent fun s =>
  { state := s
    status := .ok
    content :=
      field 1 s.core.auth.allowList.length ++ s.core.auth.allowList.flatMap allowEntryBytes }

end Sys2Proof.Machine
end

