-- ==== Sys2Proof/WellFormed.lean ====
section
/-! DEFINITION. Which commands the ports, the bus and the lines can bring. -/

namespace Sys2Proof

/-- The content of a request fits the 2-byte length of its header (section 12.3). -/
def contentFits (content : List Byte) : Bool := content.length < 65536

/-- The request types of a port (section 12.3). -/
def portTypes : Port → List Nat
  | .vehicle => [0x01, 0x02, 0x03, 0x04, 0x05, 0x06, 0x07, 0x08, 0x09, 0x0A, 0x0B, 0x0C, 0x0D,
      0x70, 0x71, 0x72]
  | .fleet => [0x40, 0x41, 0x42, 0x43, 0x44, 0x45, 0x46, 0x47, 0x70, 0x71, 0x72]

/-- The content length that a header names agrees with the bytes that follow it: on the vehicle port the bytes
beyond the request's own length are ignored, so only missing ones differ (R169, R171, log 45); a fleet frame
has no byte beyond its request (R176). -/
def lengthAgrees : Port → Nat → Nat → Bool
  | .vehicle, named, present => named ≤ present
  | .fleet, named, present => named == present

/-- A header of 4 bytes for a type the port knows, with a length that agrees (R171, R176). -/
def headerAccepted (p : Port) : List Byte → Bool
  | kind :: _ :: lo :: hi :: rest =>
    (portTypes p).contains kind.toNat && lengthAgrees p (lo.toNat + 256 * hi.toNat) rest.length
  | _ => false

/-- A command that its sender can bring: a frame holds at most 8 data bytes (R155), a request's content
fits its length field, an UNKNOWN_REQUEST is one the port refuses (R171), a WAKE has a source (R189). -/
def Instr.wellFormed : Instr → Bool
  | .poll _ c | .readStatus _ c | .chargeRequest _ c | .stop _ c | .clearWeld _ c
  | .setDriverTag _ c | .clearInsulationFault _ c | .readInsulation _ c | .writeConfig _ c
  | .readConfig _ c | .writeTempTable _ c | .sleep _ c | .reset _ c | .readOldestRecord _ c
  | .releaseRecord _ c | .readOpenRecord _ c | .setTime _ c | .setSpendCap _ c | .allowAdd _ c
  | .allowRemove _ c | .allowRead _ c => contentFits c
  | .identify _ _ c | .enableNotices _ _ c | .ackNotices _ _ c => contentFits c
  | .unknownRequest p bytes => !headerAccepted p bytes
  | .receiveSegment f => f.data.length ≤ 8
  | .wake pilot vehicle flap byte => pilot || vehicle || flap || byte.isSome
  | .measurementWindowClose _ _ | .pilotRisingEdge _ | .pilotFallingEdge _ | .staticTimerExpiry
  | .digitalInputSettledChange _ _ | .closeConfirmTimeout | .openConfirmTimeout
  | .currentWaitTimerExpiry | .pauseTimerExpiry | .requestExpiry | .busyTransaction
  | .deferredActionRelease | .authVerdict _ _ _ | .authTimerExpiry | .allocationTimerExpiry
  | .slotTimerExpiry | .quietWindowOpen | .halfPeriodTimerExpiry _ | .meteringTimerExpiry
  | .timeCounterTick | .powerLimit _ | .tariff _ _ _ _ _ | .time _ _ | .stopMessage
  | .linkAliveTimerExpiry | .postLimitTimerExpiry | .statusTimerExpiry | .transmitAttemptStart
  | .transmitAttemptEnd _ | .messageTimerExpiry _ _ | .xon | .xoff | .framingError
  | .fleetByteReceived _ | .fleetResponseSent | .resetPin | .supplyHeldReset
  | .retentionSupplyFall | .resetExit | .requestAnswered => true

end Sys2Proof
end

