-- ==== Sys2Proof/Machine/Ports.lean ====
section
/-! DEFINITION. The two host ports and the dispatch (chapter 10): transactions of the vehicle port, bytes and
frames of the fleet port. -/

namespace Sys2Proof.Machine

/-! ### Dispatch (R177) -/

/-- The dispatch: in STARTING every request is NOT-READY and reaches no owner. -/
def dispatch (own : Owner) : Owner := fun content s =>
  if s.core.sup.power = .starting then refusedWith .notReady s else own content s

/-- The response to a request on a port: the header carries the port master's pending set as it stands after
the owner has acted. -/
def responseTo (p : Port) (kind seq : Byte) (a : Answer) : Response :=
  { kind, seq, status := a.status, pending := a.state.core.notices.pendingOf p, content := a.content }

/-- The response is that of an ACK-NOTICES that has been taken. -/
def Response.acknowledges (r : Response) : Bool := r.kind == 0x72 && r.status == .ok

/-- A posting at the moment of an ACK-NOTICES, taken after it, enters its notice again, and the response already
shows it: header and content follow the pending set as it stands when the moment ends (R180, log 50). -/
def Response.refreshed (p : Port) (u : Notices) (r : Response) : Response :=
  if r.acknowledges then { r with pending := u.pendingOf p, content := ackContent p u } else r

/-- What the port itself answers to a request it refuses (R171): no owner is reached. -/
def ownBadRequest : Owner := fun _ s => refusedWith .badRequest s

/-! ### The vehicle port (R170, R172) -/

/-- The null response (R170), with the pending set as it stands (log 41). -/
def nullResponse (c : Core) : Response :=
  { kind := 0, seq := 0, status := .ok, pending := c.notices.vehiclePending, content := [] }

/-- The BUSY filler (R170). -/
def busyResponse (c : Core) : Response :=
  { kind := 0, seq := 0, status := .busy, pending := c.notices.vehiclePending, content := [] }

/-- The BUSY filler is shifted out; slot and held response stay. -/
def shiftBusy (s : State) : State := s.onVport fun v => { v with shiftedOut := some (busyResponse s.core) }

/-- The held response is shifted out and consumed (R170). -/
def shiftHeld (s : State) : State :=
  s.onVport fun v => { v with shiftedOut := some (v.held.getD (nullResponse s.core)), held := none }

/-- A transaction that finds a deferred action (R172): the answer is collected, the action released, the
request discarded. -/
def releaseDeferred (s : State) : State :=
  releaseAction s.vport.deferred
    ((shiftHeld s).onVport fun v => { v with slot := .empty, deferred := .none })

/-- The owner has formed its answer: the slot is PROCESSING and READY negated until the answer is held
(R170, log 3). The deferred action goes with an answer of OK alone (R172). -/
def process (kind seq : Byte) (action : DeferredAction) (a : Answer) : State :=
  a.state.onVport fun v =>
    { v with
      slot := .processing (responseTo .vehicle kind seq a) (if a.status = .ok then action else .none)
      ready := false }

/-- A transaction with a request (R170, R172, R189): in SLEEP it wakes the part. -/
def vehicleRequest (kind seq : Byte) (action : DeferredAction) (own : Owner) (content : List Byte)
    (s : State) : State :=
  if s.core.sup.held.isSome then s
  else if s.asleep then shiftBusy (wakeUp (wakeSet false false true false) s)
  else if !s.vport.ready then shiftBusy s
  else if s.vport.deferred ≠ .none then releaseDeferred s
  else process kind seq action (own content (shiftHeld s))

/-- A transaction begun with READY negated (R170). -/
def busyTransaction (s : State) : State :=
  if s.core.sup.held.isSome then s
  else if s.asleep then shiftBusy (wakeUp (wakeSet false false true false) s)
  else shiftBusy s

/-- The answer of the request in PROCESSING becomes the held response, with its deferred action (R170, R172); that
of an ACK-NOTICES shows what was posted at its moment (R180). -/
def answerRequest (s : State) : State :=
  match s.vport.slot with
  | .processing answer action =>
    if s.core.up then
      s.onVport fun v =>
        { v with
          slot := .answered
          held := some (answer.refreshed .vehicle s.core.notices)
          deferred := action
          ready := true }
    else s
  | .empty | .answered => s

/-- The owner and the deferred action of a vehicle port request type (section 12.3). -/
def vehicleOwner : Nat → Option (Owner × DeferredAction)
  | 0x01 => some (dispatch ownPoll, .none)
  | 0x02 => some (dispatch ownReadStatus, .none)
  | 0x03 => some (dispatch ownChargeRequest, .none)
  | 0x04 => some (dispatch ownStop, .none)
  | 0x05 => some (dispatch ownClearWeld, .none)
  | 0x06 => some (dispatch ownSetDriverTag, .none)
  | 0x07 => some (dispatch ownClearInsulationFault, .none)
  | 0x08 => some (dispatch ownReadInsulation, .none)
  | 0x09 => some (dispatch ownWriteConfig, .none)
  | 0x0A => some (dispatch ownReadConfig, .none)
  | 0x0B => some (dispatch ownWriteTempTable, .none)
  | 0x0C => some (dispatch ownSleep, .sleep)
  | 0x0D => some (dispatch ownReset, .reset)
  | 0x70 => some (ownIdentify, .none)
  | 0x71 => some (dispatch (ownEnableNotices .vehicle), .none)
  | 0x72 => some (dispatch (ownAckNotices .vehicle), .none)
  | _ => none

/-- Byte `i` of a header, 0 where no byte was shifted in (R171). -/
def headerByte (bytes : List Byte) (i : Nat) : Byte := bytes.getD i 0

/-- The content of a transaction's bytes by the length that the header names: bytes beyond it are ignored
(R169). -/
def ownContent (bytes : List Byte) : List Byte := (bytes.drop 4).take (leVal ((bytes.drop 2).take 2))

/-- The bytes of a transaction as a request (R169, R171): a bad header is BAD-REQUEST from the port itself. -/
def vehicleBytes (bytes : List Byte) (s : State) : State :=
  match if headerAccepted .vehicle bytes then vehicleOwner (headerByte bytes 0).toNat
    else none with
  | some o => vehicleRequest (headerByte bytes 0) (headerByte bytes 1) o.2 o.1 (ownContent bytes) s
  | none =>
    vehicleRequest (headerByte bytes 0) (headerByte bytes 1) .none ownBadRequest (ownContent bytes) s

/-! ### Fleet port bytes (R173, R174, R175) -/

def flagByte : Byte := 0x7E
def escapeByte : Byte := 0x7D
def xonByte : Byte := 0x11
def xoffByte : Byte := 0x13

/-- What stays of the FIFO when the partial frame is dropped (R175): the complete frames through the last
closing flag; nothing if there is no complete frame. A flag received in DISCARD behind a kept closing flag makes an
empty frame with it, which stays (log 23). -/
def completePart (fifo : List Byte) : List Byte :=
  if fifo.count flagByte < 2 then [] else (fifo.reverse.dropWhile (· ≠ flagByte)).reverse

/-- The partial frame is dropped and the receiver discards until a flag (R175, R173). -/
def dropPartial (p : FleetPort) : FleetPort := { p with fifo := completePart p.fifo, rx := .discard }

/-- A byte is stored, or overflows the 64-byte FIFO (R174, R175). -/
def storeByte (b : Byte) (p : FleetPort) : FleetPort :=
  if p.fifo.length < 64 then { p with fifo := p.fifo ++ [b], rx := .inFrame } else dropPartial p

/-- The table of R174 for a byte that is not a flow byte. -/
def receiveByte (b : Byte) (p : FleetPort) : FleetPort :=
  match p.rx with
  | .inFrame => storeByte b p
  | .hunt | .discard => if b = flagByte then storeByte b p else p

/-! ### Frames of the fleet port (R174, R176, R193) -/

/-- A byte as the line carries it: flag, escape, XON and XOFF are escaped (R174). -/
def escaped (b : Byte) : List Byte :=
  if b = flagByte ∨ b = escapeByte ∨ b = xonByte ∨ b = xoffByte then [escapeByte, b ^^^ 0x20] else [b]

/-- The unescaped bytes of a frame, none if it ends with an escape (R174). -/
def unescape : List Byte → Option (List Byte)
  | [] => some []
  | [b] => if b = escapeByte then none else some [b]
  | a :: b :: rest =>
    if a = escapeByte then (unescape rest).map fun l => (b ^^^ 0x20) :: l
    else (unescape (b :: rest)).map fun l => a :: l

/-- A frame around header and content bytes: flags, escapes and the check (R176, R193). -/
def frameOf (body : List Byte) : List Byte :=
  flagByte :: ((body ++ le 2 (frameCheck body).toNat).flatMap escaped ++ [flagByte])

/-- The header and content of a frame's bytes, if it is long enough and its check holds (R174, R193). -/
def frameBody (bytes : List Byte) : Option (List Byte) :=
  match unescape bytes with
  | none => none
  | some l =>
    let body := l.take (l.length - 2)
    if 6 ≤ l.length ∧ l.drop (l.length - 2) = le 2 (frameCheck body).toNat then some body else none

/-- The complete frame at the head of the FIFO, and the FIFO without it, its closing flag kept (R174). -/
def headFrame (fifo : List Byte) : Option (List Byte × List Byte) :=
  match fifo.dropWhile (· ≠ flagByte) with
  | [] => none
  | _ :: rest =>
    if rest.contains flagByte then
      some (rest.takeWhile (· ≠ flagByte), rest.dropWhile (· ≠ flagByte))
    else none

/-- The bytes of a request: header and content (section 12.3). -/
def requestBytes (kind seq : Byte) (content : List Byte) : List Byte :=
  kind :: seq :: (le 2 content.length ++ content)

/-- The bytes of a response: header and content (section 12.3). -/
def responseBytes (r : Response) : List Byte :=
  r.kind :: r.seq :: BitVec.ofNat 8 r.status.code
    :: (le 2 r.pending.toNat ++ le 2 r.content.length ++ r.content)

/-- The byte that the last transaction shifted out in place `i`: past the end of its response, a filler byte
of value 0 (R169, log 46). -/
def shiftedByte (v : VehiclePort) (i : Nat) : Byte :=
  ((v.shiftedOut.map responseBytes).getD []).getD i 0

/-! ### The fleet transmitter (R173, R176, log 26) -/

/-- The transmitter takes up a response: in RUN its first byte begins, in PAUSED none does. -/
def TxProgress.start (paused : Bool) (r : Response) : TxProgress :=
  { bytes := frameOf (responseBytes r)
    next := if paused then 0 else 1
    sending := !paused
    forming := if r.acknowledges then some r else none }

/-- The moment of the taking is over: nothing beyond the opening flag has begun, and the header takes its form
(R180, log 50). -/
def TxProgress.form (u : Notices) (t : TxProgress) : TxProgress :=
  match t.forming with
  | some r =>
    { t with
      bytes := if t.next ≤ 1 then frameOf (responseBytes (r.refreshed .fleet u)) else t.bytes
      forming := none }
  | none => t

/-- The next byte begins, if one is left. -/
def TxProgress.nextByte (t : TxProgress) : TxProgress :=
  if t.next < t.bytes.length then { t with next := t.next + 1, sending := true } else t

/-- The last byte, the closing flag, is on the line. -/
def TxProgress.lastByte (t : TxProgress) : Bool := t.sending && t.next == t.bytes.length

/-- One character time: the byte on the line is finished; in RUN the next one begins, in PAUSED the transmitter
stops. The end of the closing flag is FLEET_RESPONSE_SENT. -/
def TxProgress.advance (paused : Bool) (t : TxProgress) : TxProgress :=
  if t.lastByte then t else if paused then { t with sending := false } else t.nextByte

/-- The transmit flow state changes: an XON makes a transmitter that has stopped resume with its next byte. -/
def FleetPort.setFlow (pause : Bool) (p : FleetPort) : FleetPort :=
  { p with
    paused := pause
    transmit := p.transmit.map fun t => if pause || t.sending then t else t.nextByte }

/-- One character time of the transmitter. -/
def FleetPort.characterTime (u : Notices) (p : FleetPort) : FleetPort :=
  { p with transmit := p.transmit.map fun t => (t.form u).advance p.paused }

/-- The closing flag can leave the transmitter: always in RUN, in PAUSED only when it is on the line
already. -/
def FleetPort.mayFinish (p : FleetPort) : Bool :=
  !p.paused || (p.transmit.map TxProgress.lastByte).getD false

/-- A character time passes in a part that is neither held nor asleep. -/
def State.characterTime (s : State) : State :=
  if s.core.up then s.onFport (FleetPort.characterTime s.core.notices) else s

/-! ### Requests of the fleet port (R176) -/

/-- The request is outstanding and its response is taken up by the transmitter (R176, log 26). -/
def respondFleet (req : Request) (a : Answer) : State :=
  a.state.onFport fun p =>
    { p with
      outstanding := some req
      transmit := some (TxProgress.start p.paused (responseTo .fleet req.kind req.seq a)) }

/-- The owner of a fleet port request type (section 12.3). -/
def fleetOwner : Nat → Option Owner
  | 0x40 => some (dispatch ownReadOldestRecord)
  | 0x41 => some (dispatch ownReleaseRecord)
  | 0x42 => some (dispatch ownReadOpenRecord)
  | 0x43 => some (dispatch ownSetTime)
  | 0x44 => some (dispatch ownSetSpendCap)
  | 0x45 => some (dispatch ownAllowAdd)
  | 0x46 => some (dispatch ownAllowRemove)
  | 0x47 => some (dispatch ownAllowRead)
  | 0x70 => some ownIdentify
  | 0x71 => some (dispatch (ownEnableNotices .fleet))
  | 0x72 => some (dispatch (ownAckNotices .fleet))
  | _ => none

/-- The request that header and content bytes are. -/
def requestOf (body : List Byte) : Request :=
  { kind := headerByte body 0, seq := headerByte body 1, content := body.drop 4 }

/-- The owner of header and content bytes; the port itself for a bad header (R176). -/
def bodyOwner (body : List Byte) : Owner :=
  if headerAccepted .fleet body then
    (fleetOwner (headerByte body 0).toNat).getD ownBadRequest
  else ownBadRequest

/-- A frame with a good check is taken (R176). -/
def takeBody (body : List Byte) (s : State) : State :=
  respondFleet (requestOf body) (bodyOwner body (body.drop 4) s)

/-- The port takes frames from the head of the FIFO while no request is outstanding; a frame that is ignored
makes none outstanding (R176). The first argument bounds the frames. -/
def takeFrames : Nat → State → State
  | 0, s => s
  | n + 1, s =>
    if s.fport.outstanding.isSome then s
    else
      match headFrame s.fport.fifo with
      | none => s
      | some (frame, rest) =>
        let s' := s.onFport fun p => { p with fifo := rest }
        match frameBody frame with
        | none => takeFrames n s'
        | some body => takeBody body s'

/-- The complete frames of the FIFO are taken as R176 allows. -/
def takeFleet (s : State) : State := takeFrames s.fport.fifo.length s

/-- Bytes are received one after the other. -/
def receiveBytes (bytes : List Byte) (p : FleetPort) : FleetPort :=
  bytes.foldl (fun p b => receiveByte b p) p

/-- What arrives on the fleet port in SLEEP wakes the part first (R189, R176). -/
def wakeByFleet (s : State) : State :=
  if s.asleep then wakeUp (wakeSet false true false false) s else s

/-- What a frame that is taken at its arrival leaves: its closing flag, which opens the next frame (R174,
log 5). -/
def closingFlag (p : FleetPort) : FleetPort := { p with fifo := [flagByte], rx := .inFrame }

/-- A received byte that is no flow byte, and what it lets the port take (R174, R176). -/
def takeByte (s : State) (b : Byte) : State := takeFleet (s.onFport (receiveByte b))

/-- Bytes arrive one after the other (R174 to R176). -/
def arrive (bytes : List Byte) (s : State) : State := bytes.foldl takeByte s

/-- The FIFO holds no more than a single flag: nothing of another frame (R174). -/
def FleetPort.quiet (p : FleetPort) : Bool := p.fifo == [] || p.fifo == [flagByte]

/-- A frame that arrives now is complete and taken at its closing flag: no request is outstanding, nothing of
another frame stands in the FIFO, and the frame is no longer than 62 bytes between its flags (R175, R176). -/
def FleetPort.takesAtOnce (p : FleetPort) (body : List Byte) : Bool :=
  p.outstanding.isNone && p.quiet && (frameOf body).length ≤ 64

/-- A request arrives on the fleet port (log 5): it is taken at once, or its frame goes through the receiver
byte by byte, where it waits, overflows the FIFO or meets what stands there (R174 to R176). -/
def fleetRequest (kind seq : Byte) (own : Owner) (content : List Byte) (s : State) : State :=
  if s.core.sup.held.isSome then s
  else
    let s' := wakeByFleet s
    if s'.fport.takesAtOnce (requestBytes kind seq content) then
      respondFleet { kind := kind, seq := seq, content := content } (own content (s'.onFport closingFlag))
    else arrive (frameOf (requestBytes kind seq content)) s'

/-- Header and content bytes arrive in a frame whose check holds (log 5). Fewer bytes than a header are
ignored (R174). -/
def fleetBytes (body : List Byte) (s : State) : State :=
  if s.core.sup.held.isSome then s
  else
    let s' := wakeByFleet s
    if s'.fport.takesAtOnce body then
      if body.length < 4 then s'.onFport closingFlag else takeBody body (s'.onFport closingFlag)
    else arrive (frameOf body) s'

/-- XON and XOFF (R173). -/
def flowByte (pause : Bool) (s : State) : State :=
  takeFleet ((wakeByFleet s).onFport (FleetPort.setFlow pause))

/-- A byte received without a framing error (R173, R174, R176). -/
def fleetByte (b : Byte) (s : State) : State :=
  if b = xonByte then flowByte false s
  else if b = xoffByte then flowByte true s
  else takeByte (wakeByFleet s) b

/-- The closing flag of the response has left the transmitter (R176). A transmitter that has stopped in PAUSED
sends none (R173). -/
def responseSent (s : State) : State :=
  if s.fport.outstanding.isSome && s.fport.mayFinish then
    takeFleet (s.onFport fun p => { p with outstanding := none, transmit := none })
  else s

end Sys2Proof.Machine
end

