-- ==== Sys2Proof/Machine/FleetCommands.lean ====
section
/-! DEFINITION. The commands of the fleet port and the requests that both host ports take. -/

namespace Sys2Proof.Machine

/-! ### Requests of both ports -/

/-- IDENTIFY (R186): the dispatch hands it to its owner in STARTING too (R177). -/
def execIdentify (port : Port) (seq : Byte) (content : List Byte) (s : State) :
    Host.Outcome State Fault Refusal :=
  match port with
  | .vehicle => (vehicleRequest 0x70 seq .none ownIdentify content s).done
  | .fleet => (fleetRequest 0x70 seq ownIdentify content s).done

/-- ENABLE-NOTICES (R179). -/
def execEnableNotices (port : Port) (seq : Byte) (content : List Byte) (s : State) :
    Host.Outcome State Fault Refusal :=
  match port with
  | .vehicle => (vehicleRequest 0x71 seq .none (dispatch (ownEnableNotices .vehicle)) content s).done
  | .fleet => (fleetRequest 0x71 seq (dispatch (ownEnableNotices .fleet)) content s).done

/-- ACK-NOTICES (R180). -/
def execAckNotices (port : Port) (seq : Byte) (content : List Byte) (s : State) :
    Host.Outcome State Fault Refusal :=
  match port with
  | .vehicle => (vehicleRequest 0x72 seq .none (dispatch (ownAckNotices .vehicle)) content s).done
  | .fleet => (fleetRequest 0x72 seq (dispatch (ownAckNotices .fleet)) content s).done

/-- UNKNOWN_REQUEST (R171, R176). -/
def execUnknownRequest (port : Port) (bytes : List Byte) (s : State) :
    Host.Outcome State Fault Refusal :=
  match port with
  | .vehicle => (vehicleBytes bytes s).done
  | .fleet => (fleetBytes bytes s).done

/-! ### Fleet port requests -/

/-- READ-OLDEST-RECORD (R147). -/
def execReadOldestRecord (seq : Byte) (content : List Byte) (s : State) :
    Host.Outcome State Fault Refusal :=
  (fleetRequest 0x40 seq (dispatch ownReadOldestRecord) content s).done

/-- RELEASE-RECORD (R148). -/
def execReleaseRecord (seq : Byte) (content : List Byte) (s : State) :
    Host.Outcome State Fault Refusal :=
  (fleetRequest 0x41 seq (dispatch ownReleaseRecord) content s).done

/-- READ-OPEN-RECORD (R150). -/
def execReadOpenRecord (seq : Byte) (content : List Byte) (s : State) :
    Host.Outcome State Fault Refusal :=
  (fleetRequest 0x42 seq (dispatch ownReadOpenRecord) content s).done

/-- SET-TIME (R128). -/
def execSetTime (seq : Byte) (content : List Byte) (s : State) : Host.Outcome State Fault Refusal :=
  (fleetRequest 0x43 seq (dispatch ownSetTime) content s).done

/-- SET-SPEND-CAP (R141). -/
def execSetSpendCap (seq : Byte) (content : List Byte) (s : State) : Host.Outcome State Fault Refusal :=
  (fleetRequest 0x44 seq (dispatch ownSetSpendCap) content s).done

/-- ALLOW-ADD (R58). -/
def execAllowAdd (seq : Byte) (content : List Byte) (s : State) : Host.Outcome State Fault Refusal :=
  (fleetRequest 0x45 seq (dispatch ownAllowAdd) content s).done

/-- ALLOW-REMOVE (R59). -/
def execAllowRemove (seq : Byte) (content : List Byte) (s : State) : Host.Outcome State Fault Refusal :=
  (fleetRequest 0x46 seq (dispatch ownAllowRemove) content s).done

/-- ALLOW-READ (R60). -/
def execAllowRead (seq : Byte) (content : List Byte) (s : State) : Host.Outcome State Fault Refusal :=
  (fleetRequest 0x47 seq (dispatch ownAllowRead) content s).done

/-! ### Bytes (R173 to R176) -/

/-- What arrives on the fleet port while the part is not held in reset. -/
def State.fleetEvent (s : State) (f : State → State) : State :=
  if s.core.sup.held.isSome then s else f s

/-- XON (R173). -/
def execXon (s : State) : Host.Outcome State Fault Refusal := (s.fleetEvent (flowByte false)).done

/-- XOFF (R173). -/
def execXoff (s : State) : Host.Outcome State Fault Refusal := (s.fleetEvent (flowByte true)).done

/-- A byte with a framing error ends the frame in progress (R173, R175). -/
def framingError (s : State) : State := (wakeByFleet s).onFport dropPartial

/-- FRAMING_ERROR (R173). -/
def execFramingError (s : State) : Host.Outcome State Fault Refusal :=
  (s.fleetEvent framingError).done

/-- FLEET_BYTE_RECEIVED (R173, R174). -/
def execFleetByteReceived (byte : Byte) (s : State) : Host.Outcome State Fault Refusal :=
  (s.fleetEvent (fleetByte byte)).done

/-- FLEET_RESPONSE_SENT (R176). -/
def execFleetResponseSent (s : State) : Host.Outcome State Fault Refusal :=
  (s.fleetEvent responseSent).done

end Sys2Proof.Machine
end

