-- ==== Sys2Proof/Machine/LinkCommands.lean ====
section
/-! DEFINITION. The commands of the charge link: frames, messages of the post, timers and transmit attempts. -/

namespace Sys2Proof.Machine

/-! ### Messages of the post (R158) -/

/-- A message of a post kind arrives: its last frame is a sign of the post and ends its assembly (R157, R159,
log 6). -/
def messageArrives (k : PostKind) (c : Core) : Core :=
  hearPost (c.onLink fun l => l.setAssembly k none)

/-- AUTH-VERDICT, delivered (R51, R52, R54). -/
def deliverVerdict (number : Half) (echo : Tag) (verdict : Byte) (e : Env) (c : Core) : Core :=
  conclude e (takeVerdict e number echo verdict c)

/-- STOP, delivered (R41). -/
def deliverStop (e : Env) (c : Core) : Core := conclude e (stopCause e .postStop c)

/-- A complete message is delivered to its owner (R158) by its layout (section 12.2). -/
def deliver (k : PostKind) (content : List Byte) (e : Env) (c : Core) : Core :=
  match k, content with
  | .powerLimit, [a, b] => takePowerLimit (leVal [a, b]) c
  | .authVerdict, a :: b :: rest =>
    match Tag.ofBytes (rest.take 8), rest.drop 8 with
    | some echo, [verdict] => deliverVerdict (BitVec.ofNat 16 (leVal [a, b])) echo verdict e c
    | _, _ => c
  | .tariff, [version, index, count, m0, m1, p0, p1] =>
    takeTariff e version index.toNat count.toNat (leVal [m0, m1]) (leVal [p0, p1]) c
  | .time, [a, b, x, y] => setClock .post (BitVec.ofNat 32 (leVal [a, b, x, y])) none c
  | .time, [a, b, x, y, o0, o1] =>
    setClock .post (BitVec.ofNat 32 (leVal [a, b, x, y])) (some (signed16 (leVal [o0, o1]))) c
  | .stop, [] => deliverStop e c
  | _, _ => c

/-- A frame of a post kind is handed to its assembly (R157), and a message it completes is delivered. -/
def takeSegment (k : PostKind) (segByte : Byte) (bytes : List Byte) (e : Env) (c : Core) : Core :=
  let r := assemble segByte bytes (c.link.assembly k)
  let c' := hearPost (c.onLink fun l => l.setAssembly k r.1)
  match r.2 with
  | some (count, content) =>
    if messageFits k count content.length then deliver k content e c' else c'
  | none => c'

/-- A frame is received (R156): the filter, then the assembly of its kind. -/
def receiveFrame (f : CanFrame) (e : Env) (c : Core) : Core :=
  if frameAccepted e.cfg f then
    match postKind (f.ident.toNat / 64), f.data with
    | some k, segByte :: bytes => takeSegment k segByte bytes e c
    | _, _ => c
  else c

/-- RECEIVE_SEGMENT (R156, R157, R159). -/
def execReceiveSegment (frame : CanFrame) (s : State) : Host.Outcome State Fault Refusal :=
  (s.event (receiveFrame frame)).done

/-- POWER_LIMIT (R160). -/
def execPowerLimit (limit : Half) (s : State) : Host.Outcome State Fault Refusal :=
  (s.event fun _ c => takePowerLimit limit.toNat (messageArrives .powerLimit c)).done

/-- AUTH_VERDICT (R51, R52, R54). -/
def execAuthVerdict (number : Half) (echo : Tag) (verdict : Byte) (s : State) :
    Host.Outcome State Fault Refusal :=
  (s.event fun e c => deliverVerdict number echo verdict e (messageArrives .authVerdict c)).done

/-- TARIFF (R133, R134). -/
def execTariff (version index count : Byte) (start price : Half) (s : State) :
    Host.Outcome State Fault Refusal :=
  (s.event fun e c =>
    takeTariff e version index.toNat count.toNat start.toNat price.toNat
      (messageArrives .tariff c)).done

/-- TIME (R129). -/
def execTime (seconds : Word) (offset : Option Half) (s : State) : Host.Outcome State Fault Refusal :=
  (s.event fun _ c => setClock .post seconds (offset.map BitVec.toInt) (messageArrives .time c)).done

/-- STOP_MESSAGE (R41). -/
def execStopMessage (s : State) : Host.Outcome State Fault Refusal :=
  (s.event fun e c => deliverStop e (messageArrives .stop c)).done

/-! ### Timers (R159, R160, R163, R164) -/

/-- The link-alive timer runs out (R159). -/
def aliveTimeout (c : Core) : Core := if c.link.aliveTimer.isSome then loseLink c else c

/-- LINK_ALIVE_TIMER_EXPIRY (R159). -/
def execLinkAliveTimerExpiry (s : State) : Host.Outcome State Fault Refusal :=
  (s.event fun _ => aliveTimeout).done

/-- The post limit timer runs out (R160). -/
def postLimitTimeout (c : Core) : Core := if c.link.postTimer.isSome then stalePostLimit c else c

/-- POST_LIMIT_TIMER_EXPIRY (R160). -/
def execPostLimitTimerExpiry (s : State) : Host.Outcome State Fault Refusal :=
  (s.event fun _ => postLimitTimeout).done

/-- The status timer runs out (R164): a STATUS is placed and the timer restarts. -/
def statusDue (e : Env) (c : Core) : Core :=
  if c.link.statusTimer.isSome && c.active && c.session.state != .idle then
    (placeStatus e c).onLink fun l => { l with statusTimer := some 1000 }
  else c

/-- STATUS_TIMER_EXPIRY (R164). -/
def execStatusTimerExpiry (s : State) : Host.Outcome State Fault Refusal :=
  (s.event statusDue).done

/-- A message's 500 ms run out (R161, R163). -/
def messageTimeout (k : TxKind) (which : TxWhich) (c : Core) : Core :=
  match which with
  | .current => expireCurrent k c
  | .successor => expireSuccessor k c

/-- MESSAGE_TIMER_EXPIRY (R163). -/
def execMessageTimerExpiry (kind : TxKind) (which : TxWhich) (s : State) :
    Host.Outcome State Fault Refusal :=
  (s.event fun _ => messageTimeout kind which).done

/-! ### Transmit attempts (R162) -/

/-- TRANSMIT_ATTEMPT_START (R162). -/
def execTransmitAttemptStart (s : State) : Host.Outcome State Fault Refusal :=
  (s.event fun _ c => c.onLink startAttempt).done

/-- TRANSMIT_ATTEMPT_END (R162). -/
def execTransmitAttemptEnd (outcome : TxOutcome) (s : State) : Host.Outcome State Fault Refusal :=
  (s.event fun _ => finishAttempt outcome).done

end Sys2Proof.Machine
end

