-- ==== Sys2Proof/Machine/MeasureCommands.lean ====
section
/-! DEFINITION. The commands of the measurement front end: window close, pilot edges, static timer, digital
inputs. -/

namespace Sys2Proof.Machine

/-- MEASUREMENT_WINDOW_CLOSE (R1). -/
def execMeasurementWindowClose (samples : WindowSamples) (eventsFirst : Bool) (s : State) :
    Host.Outcome State Fault Refusal :=
  (s.windowClose samples eventsFirst).done

/-- PILOT_RISING_EDGE (R11 to R14, R16). -/
def execPilotRisingEdge (capture : Word) (s : State) : Host.Outcome State Fault Refusal :=
  (s.captureStep (risingEdge capture)).done

/-- PILOT_FALLING_EDGE (R11). -/
def execPilotFallingEdge (capture : Word) (s : State) : Host.Outcome State Fault Refusal :=
  (s.captureStep (fallingEdge capture)).done

/-- The static timer runs out (R15). -/
def staticExpiry (m : Mfe) : Mfe := if m.staticTimer.isSome then enterStatic m else m

/-- STATIC_TIMER_EXPIRY (R15, R16). -/
def execStaticTimerExpiry (s : State) : Host.Outcome State Fault Refusal :=
  (s.captureStep staticExpiry).done

/-- What a settled change of an input does at its owner (R18): the contact by its active condition, a converter
fault by its event; the flap acts in SLEEP alone. -/
def inputChanged (d : DigitalInput) (wasAux event : Bool) (e : Env) (c : Core) : Core :=
  match d with
  | .contactorAux => conclude e (reviewAux wasAux e c)
  | .converterFault => if event then conclude e (converterFault e c) else c
  | .inletFlap => c

/-- An input as a settled change leaves it: the new level, and the configured trigger in effect (R17, R18,
log 21). -/
def settledInput (s : State) (d : DigitalInput) (level : LineLevel) : InputState :=
  { level := settledOf level, trigger := s.env.cfg.trigger d }

/-- The settled change brings an input event (R18). -/
def settledEvent (s : State) (d : DigitalInput) (level : LineLevel) : Bool :=
  changeEvent (s.env.cfg.trigger d) (s.env.mfe.input d).level (settledOf level)

/-- A settled change while the part is awake. -/
def settledAwake (d : DigitalInput) (level : LineLevel) (s : State) : State :=
  (s.onMfe fun m => m.setInput d (settledInput s d level)).run
    (inputChanged d s.env.mfe.aux.active (settledEvent s d level))

/-- A settled change in SLEEP: the flap alone is sampled, and its event wakes the part (R17, R189). -/
def settledAsleep (d : DigitalInput) (level : LineLevel) (s : State) : State :=
  match d with
  | .inletFlap =>
    let s' := s.onMfe fun m => m.setInput d (settledInput s d level)
    if settledEvent s d level then wakeUp (wakeSet false false false true) s' else s'
  | .contactorAux | .converterFault => s

/-- A settled change of a digital input (R17); the level it has already is no change (log 35). -/
def settledChange (d : DigitalInput) (level : LineLevel) (s : State) : State :=
  if (s.env.mfe.input d).level = settledOf level then s
  else if s.core.up then settledAwake d level s
  else if s.asleep then settledAsleep d level s
  else s

/-- DIGITAL_INPUT_SETTLED_CHANGE (R17, R18). -/
def execDigitalInputSettledChange (input : DigitalInput) (level : LineLevel) (s : State) :
    Host.Outcome State Fault Refusal :=
  (settledChange input level s).done

end Sys2Proof.Machine
end

