-- ==== Sys2Proof/Machine/SessionCommands.lean ====
section
/-! DEFINITION. The timers of the session controller and of the authorization unit. -/

namespace Sys2Proof.Machine

/-- The close is not confirmed in time (R27): CONTACTOR-FAIL. -/
def closeTimeout (e : Env) (c : Core) : Core :=
  if c.session.contactor = .closing ∧ c.session.confirmTimer.isSome then
    conclude e
      (stopCause e .contactorFail (c.onSession fun s => { s with confirmTimer := none }))
  else c

/-- CLOSE_CONFIRM_TIMEOUT (R27). -/
def execCloseConfirmTimeout (s : State) : Host.Outcome State Fault Refusal :=
  (s.event closeTimeout).done

/-- The contact has not followed its drive (R36): the WELD latch is set, WELD joins faults-seen and is posted,
the contactor counts as OPEN and the stop sequence ends. -/
def weldFound (e : Env) (c : Core) : Core := confirmOpen e (addFault .weld (setWeld c))

/-- The open confirmation times out (R36). -/
def openTimeout (e : Env) (c : Core) : Core :=
  if c.session.contactor = .opening ∧ c.session.confirmTimer.isSome then
    conclude e (if e.mfe.aux.active then weldFound e c else confirmOpen e c)
  else c

/-- OPEN_CONFIRM_TIMEOUT (R36). -/
def execOpenConfirmTimeout (s : State) : Host.Outcome State Fault Refusal :=
  (s.event openTimeout).done

/-- The current wait ends by its timer (R35). -/
def waitTimeout (e : Env) (c : Core) : Core :=
  if c.session.waitTimer.isSome then conclude e (openContactor e c) else c

/-- CURRENT_WAIT_TIMER_EXPIRY (R35). -/
def execCurrentWaitTimerExpiry (s : State) : Host.Outcome State Fault Refusal :=
  (s.event waitTimeout).done

/-- A pause has lasted 600 s (R31). -/
def pauseTimeout (e : Env) (c : Core) : Core :=
  if c.session.pauseTimer.isSome then conclude e (stopCause e .pauseTimeout c) else c

/-- PAUSE_TIMER_EXPIRY (R31). -/
def execPauseTimerExpiry (s : State) : Host.Outcome State Fault Refusal :=
  (s.event pauseTimeout).done

/-- The vehicle charge request runs out (R22). -/
def requestTimeout (e : Env) (c : Core) : Core :=
  if c.session.requestTimer.isSome then conclude e (expireRequest e c) else c

/-- REQUEST_EXPIRY (R22). -/
def execRequestExpiry (s : State) : Host.Outcome State Fault Refusal :=
  (s.event requestTimeout).done

/-- The pending request without a timer: its 10 s are over, and it waits for a late verdict (R53, R54). -/
def Auth.stopTimer (a : Auth) : Auth :=
  { a with request := a.request.map fun p => { p with timer := none } }

/-- The 10 s of the pending request run out (R53). -/
def authTimeout (e : Env) (c : Core) : Core :=
  if (c.auth.request.map (·.timer.isSome)).getD false then
    let c' := c.onAuth Auth.stopTimer
    if c.auth.state = .waiting then conclude e (offlineDecision e c') else c'
  else c

/-- AUTH_TIMER_EXPIRY (R53). -/
def execAuthTimerExpiry (s : State) : Host.Outcome State Fault Refusal :=
  (s.event authTimeout).done

end Sys2Proof.Machine
end

