-- ==== Sys2Proof/Machine/StartupCommands.lean ====
section
/-! DEFINITION. The events of the supply, of the resets and of the wake (chapter 11). -/

namespace Sys2Proof.Machine

/-- The reset pin (R184): without effect while the part is held in reset already (log 25). -/
def resetPin (c : Core) : Core := if c.sup.held.isSome then c else takeReset .pin c

/-- RESET_PIN (R184). -/
def execResetPin (s : State) : Host.Outcome State Fault Refusal := (s.onCore resetPin).done

/-- A stop sequence is cut by a fall of the supply: SUPPLY-LOSS joins the faults-seen of its record (R190,
log 47). -/
def cutStop (c : Core) : Core :=
  if c.sup.held.isNone && c.session.state == .stopping then addFault .supplyLoss c else c

/-- SUPPLY_HELD_RESET (R190): in every power state, and in place of a reset in progress (log 25). -/
def execSupplyHeldReset (s : State) : Host.Outcome State Fault Refusal :=
  (s.onCore fun c => takeReset .supply (cutStop c)).done

/-- The retention supply falls below its hold level (R184). -/
def loseRetention (c : Core) : Core := c.onSup fun p => { p with retentionValid := false }

/-- RETENTION_SUPPLY_FALL (R184). -/
def execRetentionSupplyFall (s : State) : Host.Outcome State Fault Refusal :=
  (s.onCore loseRetention).done

/-- The part leaves the reset it is held in (R184, R185). -/
def resetExit (s : State) : State :=
  match s.core.sup.held with
  | some cause => leaveReset (resetKindOf s.core.sup.retentionValid cause) s
  | none => s

/-- RESET_EXIT (R185). -/
def execResetExit (s : State) : Host.Outcome State Fault Refusal := (resetExit s).done

/-- The byte that arrived with a wake is received (R176). -/
def wakeByte (byte : Option Byte) (s : State) : State :=
  match byte with
  | some b => fleetByte b s
  | none => s

/-- The wake sources of a WAKE command. -/
def wakeSources (pilot vehicle flap : Bool) (byte : Option Byte) : Byte :=
  wakeSet pilot byte.isSome vehicle flap

/-- A wake in SLEEP (R189); without a source, or awake, nothing happens (log 38). The transaction of the
vehicle source carries the BUSY filler (R172). The source FLAP is the event alone: the settled level of the
flap stays as it was, and only its settled change moves it (R18, log 42). -/
def wakeEvent (pilot vehicle flap : Bool) (byte : Option Byte) (s : State) : State :=
  if s.asleep && wakeSources pilot vehicle flap byte != 0 then
    let s' := wakeUp (wakeSources pilot vehicle flap byte) s
    wakeByte byte (if vehicle then shiftBusy s' else s')
  else s

/-- WAKE (R189). -/
def execWake (pilot vehicle flap : Bool) (fleetByte : Option Byte) (s : State) :
    Host.Outcome State Fault Refusal :=
  (wakeEvent pilot vehicle flap fleetByte s).done

end Sys2Proof.Machine
end

