-- ==== Sys2Proof/Machine/VehicleCommands.lean ====
section
/-! DEFINITION. The transactions of the vehicle port: its requests, the busy transaction, the release of a
deferred action and the answering of a request. -/

namespace Sys2Proof.Machine

/-- POLL (R171). -/
def execPoll (seq : Byte) (content : List Byte) (s : State) : Host.Outcome State Fault Refusal :=
  (vehicleRequest 0x01 seq .none (dispatch ownPoll) content s).done

/-- READ-STATUS (R177). -/
def execReadStatus (seq : Byte) (content : List Byte) (s : State) : Host.Outcome State Fault Refusal :=
  (vehicleRequest 0x02 seq .none (dispatch ownReadStatus) content s).done

/-- CHARGE-REQUEST (R21). -/
def execChargeRequest (seq : Byte) (content : List Byte) (s : State) :
    Host.Outcome State Fault Refusal :=
  (vehicleRequest 0x03 seq .none (dispatch ownChargeRequest) content s).done

/-- STOP (R41). -/
def execStop (seq : Byte) (content : List Byte) (s : State) : Host.Outcome State Fault Refusal :=
  (vehicleRequest 0x04 seq .none (dispatch ownStop) content s).done

/-- CLEAR-WELD (R43). -/
def execClearWeld (seq : Byte) (content : List Byte) (s : State) : Host.Outcome State Fault Refusal :=
  (vehicleRequest 0x05 seq .none (dispatch ownClearWeld) content s).done

/-- SET-DRIVER-TAG (R47). -/
def execSetDriverTag (seq : Byte) (content : List Byte) (s : State) :
    Host.Outcome State Fault Refusal :=
  (vehicleRequest 0x06 seq .none (dispatch ownSetDriverTag) content s).done

/-- CLEAR-INSULATION-FAULT (R120). -/
def execClearInsulationFault (seq : Byte) (content : List Byte) (s : State) :
    Host.Outcome State Fault Refusal :=
  (vehicleRequest 0x07 seq .none (dispatch ownClearInsulationFault) content s).done

/-- READ-INSULATION (R122). -/
def execReadInsulation (seq : Byte) (content : List Byte) (s : State) :
    Host.Outcome State Fault Refusal :=
  (vehicleRequest 0x08 seq .none (dispatch ownReadInsulation) content s).done

/-- WRITE-CONFIG (R182). -/
def execWriteConfig (seq : Byte) (content : List Byte) (s : State) : Host.Outcome State Fault Refusal :=
  (vehicleRequest 0x09 seq .none (dispatch ownWriteConfig) content s).done

/-- READ-CONFIG (R182). -/
def execReadConfig (seq : Byte) (content : List Byte) (s : State) : Host.Outcome State Fault Refusal :=
  (vehicleRequest 0x0A seq .none (dispatch ownReadConfig) content s).done

/-- WRITE-TEMP-TABLE (R183). -/
def execWriteTempTable (seq : Byte) (content : List Byte) (s : State) :
    Host.Outcome State Fault Refusal :=
  (vehicleRequest 0x0B seq .none (dispatch ownWriteTempTable) content s).done

/-- SLEEP (R188). -/
def execSleep (seq : Byte) (content : List Byte) (s : State) : Host.Outcome State Fault Refusal :=
  (vehicleRequest 0x0C seq .sleep (dispatch ownSleep) content s).done

/-- RESET (R187). -/
def execReset (seq : Byte) (content : List Byte) (s : State) : Host.Outcome State Fault Refusal :=
  (vehicleRequest 0x0D seq .reset (dispatch ownReset) content s).done

/-- BUSY_TRANSACTION (R170). -/
def execBusyTransaction (s : State) : Host.Outcome State Fault Refusal := (busyTransaction s).done

/-- The transaction that collects the answer to RESET or SLEEP (R172). -/
def collectDeferred (s : State) : State :=
  if s.core.up && s.vport.ready && s.vport.deferred != .none then releaseDeferred s else s

/-- DEFERRED_ACTION_RELEASE (R172). -/
def execDeferredActionRelease (s : State) : Host.Outcome State Fault Refusal :=
  (collectDeferred s).done

/-- REQUEST_ANSWERED (R170, R172). -/
def execRequestAnswered (s : State) : Host.Outcome State Fault Refusal := (answerRequest s).done

end Sys2Proof.Machine
end

