-- ==== Sys2Proof/Machine/Dispatch.lean ====
section
/-! DEFINITION. The meaning of every command. -/

namespace Sys2Proof.Machine

def exec (i : Instr) (s : State) : Host.Outcome State Fault Refusal :=
  match i with
  | .measurementWindowClose samples eventsFirst => Sys2Proof.Machine.execMeasurementWindowClose samples eventsFirst s
  | .pilotRisingEdge capture => Sys2Proof.Machine.execPilotRisingEdge capture s
  | .pilotFallingEdge capture => Sys2Proof.Machine.execPilotFallingEdge capture s
  | .staticTimerExpiry => Sys2Proof.Machine.execStaticTimerExpiry s
  | .digitalInputSettledChange input level => Sys2Proof.Machine.execDigitalInputSettledChange input level s
  | .closeConfirmTimeout => Sys2Proof.Machine.execCloseConfirmTimeout s
  | .openConfirmTimeout => Sys2Proof.Machine.execOpenConfirmTimeout s
  | .currentWaitTimerExpiry => Sys2Proof.Machine.execCurrentWaitTimerExpiry s
  | .pauseTimerExpiry => Sys2Proof.Machine.execPauseTimerExpiry s
  | .requestExpiry => Sys2Proof.Machine.execRequestExpiry s
  | .poll seq content => Sys2Proof.Machine.execPoll seq content s
  | .readStatus seq content => Sys2Proof.Machine.execReadStatus seq content s
  | .chargeRequest seq content => Sys2Proof.Machine.execChargeRequest seq content s
  | .stop seq content => Sys2Proof.Machine.execStop seq content s
  | .clearWeld seq content => Sys2Proof.Machine.execClearWeld seq content s
  | .setDriverTag seq content => Sys2Proof.Machine.execSetDriverTag seq content s
  | .clearInsulationFault seq content => Sys2Proof.Machine.execClearInsulationFault seq content s
  | .readInsulation seq content => Sys2Proof.Machine.execReadInsulation seq content s
  | .writeConfig seq content => Sys2Proof.Machine.execWriteConfig seq content s
  | .readConfig seq content => Sys2Proof.Machine.execReadConfig seq content s
  | .writeTempTable seq content => Sys2Proof.Machine.execWriteTempTable seq content s
  | .sleep seq content => Sys2Proof.Machine.execSleep seq content s
  | .reset seq content => Sys2Proof.Machine.execReset seq content s
  | .identify port seq content => Sys2Proof.Machine.execIdentify port seq content s
  | .enableNotices port seq content => Sys2Proof.Machine.execEnableNotices port seq content s
  | .ackNotices port seq content => Sys2Proof.Machine.execAckNotices port seq content s
  | .unknownRequest port bytes => Sys2Proof.Machine.execUnknownRequest port bytes s
  | .busyTransaction => Sys2Proof.Machine.execBusyTransaction s
  | .deferredActionRelease => Sys2Proof.Machine.execDeferredActionRelease s
  | .readOldestRecord seq content => Sys2Proof.Machine.execReadOldestRecord seq content s
  | .releaseRecord seq content => Sys2Proof.Machine.execReleaseRecord seq content s
  | .readOpenRecord seq content => Sys2Proof.Machine.execReadOpenRecord seq content s
  | .setTime seq content => Sys2Proof.Machine.execSetTime seq content s
  | .setSpendCap seq content => Sys2Proof.Machine.execSetSpendCap seq content s
  | .allowAdd seq content => Sys2Proof.Machine.execAllowAdd seq content s
  | .allowRemove seq content => Sys2Proof.Machine.execAllowRemove seq content s
  | .allowRead seq content => Sys2Proof.Machine.execAllowRead seq content s
  | .authVerdict session echo verdict => Sys2Proof.Machine.execAuthVerdict session echo verdict s
  | .authTimerExpiry => Sys2Proof.Machine.execAuthTimerExpiry s
  | .allocationTimerExpiry => Sys2Proof.Machine.execAllocationTimerExpiry s
  | .slotTimerExpiry => Sys2Proof.Machine.execSlotTimerExpiry s
  | .quietWindowOpen => Sys2Proof.Machine.execQuietWindowOpen s
  | .halfPeriodTimerExpiry samples => Sys2Proof.Machine.execHalfPeriodTimerExpiry samples s
  | .meteringTimerExpiry => Sys2Proof.Machine.execMeteringTimerExpiry s
  | .timeCounterTick => Sys2Proof.Machine.execTimeCounterTick s
  | .receiveSegment frame => Sys2Proof.Machine.execReceiveSegment frame s
  | .powerLimit limit => Sys2Proof.Machine.execPowerLimit limit s
  | .tariff version index count start price => Sys2Proof.Machine.execTariff version index count start price s
  | .time seconds offset => Sys2Proof.Machine.execTime seconds offset s
  | .stopMessage => Sys2Proof.Machine.execStopMessage s
  | .linkAliveTimerExpiry => Sys2Proof.Machine.execLinkAliveTimerExpiry s
  | .postLimitTimerExpiry => Sys2Proof.Machine.execPostLimitTimerExpiry s
  | .statusTimerExpiry => Sys2Proof.Machine.execStatusTimerExpiry s
  | .transmitAttemptStart => Sys2Proof.Machine.execTransmitAttemptStart s
  | .transmitAttemptEnd outcome => Sys2Proof.Machine.execTransmitAttemptEnd outcome s
  | .messageTimerExpiry kind which => Sys2Proof.Machine.execMessageTimerExpiry kind which s
  | .xon => Sys2Proof.Machine.execXon s
  | .xoff => Sys2Proof.Machine.execXoff s
  | .framingError => Sys2Proof.Machine.execFramingError s
  | .fleetByteReceived byte => Sys2Proof.Machine.execFleetByteReceived byte s
  | .fleetResponseSent => Sys2Proof.Machine.execFleetResponseSent s
  | .resetPin => Sys2Proof.Machine.execResetPin s
  | .supplyHeldReset => Sys2Proof.Machine.execSupplyHeldReset s
  | .retentionSupplyFall => Sys2Proof.Machine.execRetentionSupplyFall s
  | .resetExit => Sys2Proof.Machine.execResetExit s
  | .wake pilot vehicle flap fleetByte => Sys2Proof.Machine.execWake pilot vehicle flap fleetByte s
  | .requestAnswered => Sys2Proof.Machine.execRequestAnswered s

end Sys2Proof.Machine
end

