-- ==== Sys2Proof/Safety.lean ====
section
/-! DEFINITION. The terms statements are made in: completion of a command, the conditions under which a command is
taken, the frames, and the invariants of the part. -/

namespace Sys2Proof.Machine

/-! ### Completion -/

/-- The command answers a next state, and that state has the property. -/
def Completes (i : Instr) (s : State) (P : State → Prop) : Prop := ∃ t, exec i s = .next t ∧ P t

/-! ### When a request is taken (R170, R172, R176) -/

/-- The part is ACTIVE, and a vehicle port transaction that begins now is taken as a request: READY is
asserted and no deferred action stands. -/
def VehicleTakes (s : State) : Prop :=
  s.core.sup.held = none ∧ s.core.sup.power = .active ∧ s.vport.ready = true ∧ s.vport.deferred = .none

/-- No request is outstanding on the fleet port, and its FIFO holds nothing of another frame: a frame that fits
is taken at its closing flag (R174 to R176). -/
def FleetPort.Free (p : FleetPort) : Prop := p.outstanding = none ∧ (p.fifo = [] ∨ p.fifo = [0x7E])

/-- The part is ACTIVE, and the fleet port is free for a frame. -/
def FleetTakes (s : State) : Prop :=
  s.core.sup.held = none ∧ s.core.sup.power = .active ∧ s.fport.Free

/-- The frame of a fleet request is no longer than 62 bytes between its flags (R175). -/
def FrameFits (kind seq : Byte) (content : List Byte) : Prop :=
  (frameOf (requestBytes kind seq content)).length ≤ 64

/-- A response whose header carries the pending set of a port's master as it stands in `c`. -/
def respond (p : Port) (kind seq : Byte) (status : Status) (c : Core) (content : List Byte) :
    Response :=
  { kind, seq, status, pending := c.notices.pendingOf p, content }

/-- The vehicle port after it has taken a request: the held response is consumed, the slot is PROCESSING,
READY is negated (R170). -/
def vportAfter (s : State) (answer : Response) (action : DeferredAction) : VehiclePort where
  slot := .processing answer action
  held := none
  deferred := .none
  ready := false
  shiftedOut := some (s.vport.held.getD (nullResponse s.core))

/-- The fleet port after it has taken a request: the closing flag stays in the FIFO, the request is
outstanding and its response on its way, from its first byte in RUN, stopped in PAUSED (R173, R174, R176); the
answer to an ACK-NOTICES takes its form when the moment is over (R180, log 50). -/
def fportAfter (s : State) (content : List Byte) (answer : Response) : FleetPort where
  fifo := [0x7E]
  rx := .inFrame
  outstanding := some { kind := answer.kind, seq := answer.seq, content }
  paused := s.fport.paused
  transmit := some
    { bytes := frameOf (responseBytes answer)
      next := if s.fport.paused then 0 else 1
      sending := !s.fport.paused
      forming := if answer.kind = 0x72 ∧ answer.status = .ok then some answer else none }

/-- The next state after a vehicle request whose owner leaves the blocks as `c`, and nothing else changes but
the driven lines, which follow the blocks. -/
def afterVehicle (s : State) (c : Core) (kind seq : Byte) (status : Status) (content : List Byte)
    (action : DeferredAction) : State :=
  { s with
    core := c
    vport := vportAfter s (respond .vehicle kind seq status c content) action
    lines := linesOf c }

/-- The next state after a fleet request whose owner leaves the blocks as `c`, and nothing else changes but
the driven lines. -/
def afterFleet (s : State) (c : Core) (request content : List Byte) (kind seq : Byte)
    (status : Status) : State :=
  { s with
    core := c
    fport := fportAfter s request (respond .fleet kind seq status c content)
    vport := { s.vport with ready := s.vport.ready && c.sup.held.isNone }
    lines := linesOf c }

/-- The next state when the blocks become `c` and nothing else changes but the driven lines and, in a part
that has taken a reset, READY. -/
def afterBlocks (s : State) (c : Core) : State :=
  { s with
    core := c
    vport := { s.vport with ready := s.vport.ready && c.sup.held.isNone }
    lines := linesOf c }

/-- The front end of the part after a window (R1). -/
def State.windowMfe (s : State) (w : WindowSamples) : Mfe := closeMeasurement s.env.cfg w s.env.mfe

/-- What the blocks read after a window. -/
def State.windowEnv (s : State) (w : WindowSamples) : Env := { s.env with mfe := s.windowMfe w }

/-- A window closes in an ACTIVE part and brings its set alone: the auxiliary contact keeps its condition, and the
fault input has no event at this close (R1, R18). -/
def BringsTheSet (w : WindowSamples) (s : State) : Prop :=
  s.core.sup.held = none ∧ s.core.sup.power = .active ∧ s.env.mfe.windowTimer.isSome = true
    ∧ (s.windowMfe w).aux.active = s.env.mfe.aux.active ∧ windowEvent (s.windowMfe w).fault = false

/-- The window does not take the supply to SUPPLY-LOW (R190). -/
def SupplyStays (w : WindowSamples) (s : State) : Prop :=
  s.core.sup.low = true ∨ 90 ≤ (measure w).vSupMin

/-- A session that no start condition moves: IDLE, ATTACHED without a vehicle charge request (R24), or CLOSED with
its record's close still pending (R40). -/
def Session.Rests (x : Session) : Prop :=
  x.state = .idle ∨ (x.state = .attached ∧ x.request = none)
    ∨ (x.state = .closed ∧ x.closePending = true)

/-- A closed record has the costs and totals of the lines that a record stood with (R140). -/
def PricedFrom (lines : List Line) (r : BillingRecord) : Prop :=
  r.lines = (lines.map fun l => { l with cost := some ((l.mwh * l.price + 500000) / 1000000) })
    ∧ r.totalMwh = (lines.map (·.mwh)).sum
    ∧ r.totalCost = (lines.map fun l => (l.mwh * l.price + 500000) / 1000000).sum

/-- The heater at a frame start (R91): allocation and demand are read, the list is built, and slot 0 begins with the
first zone of the list unless that zone is INHIBITED (R93). -/
def frameStarted (e : Env) (h : Heater) : Heater :=
  let entries := min h.demand (h.lastHanded * 64 / e.cfg.pSeg)
  let slots := buildSlots e.mfe.zones h.d entries
  let first := slots.head?.filter fun k => !h.inhibited.get k
  { h with
    run := .running
    held := h.lastHanded
    frameS := entries
    slots := slots
    position := some 0
    started := if first.isSome then 1 else 0
    energized := first
    deferred := false
    slotTimer := some 50 }

/-- What an event of the blocks leaves alone: the environment, the fleet port and the queue whole, and the
vehicle port but for READY in a part that has taken a reset. -/
def PortsKept (s t : State) : Prop :=
  t.env = s.env ∧ t.fport = s.fport ∧ t.pending = s.pending
    ∧ t.vport = { s.vport with ready := s.vport.ready && t.core.sup.held.isNone }

end Sys2Proof.Machine

namespace Sys2Proof

/-! ### Kinds of commands -/

/-- The commands that are events of the blocks alone: timers, messages of the post, frames, transmit
attempts, the reset pin and the supplies. -/
def Instr.blockEvent : Instr → Bool
  | .closeConfirmTimeout | .openConfirmTimeout | .currentWaitTimerExpiry | .pauseTimerExpiry
  | .requestExpiry | .authVerdict _ _ _ | .authTimerExpiry | .allocationTimerExpiry
  | .slotTimerExpiry | .quietWindowOpen | .halfPeriodTimerExpiry _ | .meteringTimerExpiry
  | .timeCounterTick | .receiveSegment _ | .powerLimit _ | .tariff _ _ _ _ _ | .time _ _
  | .stopMessage | .linkAliveTimerExpiry | .postLimitTimerExpiry | .statusTimerExpiry
  | .transmitAttemptStart | .transmitAttemptEnd _ | .messageTimerExpiry _ _ | .resetPin
  | .supplyHeldReset | .retentionSupplyFall => true
  | .measurementWindowClose _ _ | .pilotRisingEdge _ | .pilotFallingEdge _ | .staticTimerExpiry
  | .digitalInputSettledChange _ _ | .poll _ _ | .readStatus _ _ | .chargeRequest _ _ | .stop _ _
  | .clearWeld _ _ | .setDriverTag _ _ | .clearInsulationFault _ _ | .readInsulation _ _
  | .writeConfig _ _ | .readConfig _ _ | .writeTempTable _ _ | .sleep _ _ | .reset _ _
  | .identify _ _ _ | .enableNotices _ _ _ | .ackNotices _ _ _ | .unknownRequest _ _
  | .busyTransaction | .deferredActionRelease | .readOldestRecord _ _ | .releaseRecord _ _
  | .readOpenRecord _ _ | .setTime _ _ | .setSpendCap _ _ | .allowAdd _ _ | .allowRemove _ _
  | .allowRead _ _ | .xon | .xoff | .framingError | .fleetByteReceived _ | .fleetResponseSent
  | .resetExit | .wake _ _ _ _ | .requestAnswered => false

/-- The request that a command shifts into the vehicle port: type, sequence number and content. -/
def Instr.vehicleHeader : Instr → Option (Byte × Byte × List Byte)
  | .poll q c => some (0x01, q, c)
  | .readStatus q c => some (0x02, q, c)
  | .chargeRequest q c => some (0x03, q, c)
  | .stop q c => some (0x04, q, c)
  | .clearWeld q c => some (0x05, q, c)
  | .setDriverTag q c => some (0x06, q, c)
  | .clearInsulationFault q c => some (0x07, q, c)
  | .readInsulation q c => some (0x08, q, c)
  | .writeConfig q c => some (0x09, q, c)
  | .readConfig q c => some (0x0A, q, c)
  | .writeTempTable q c => some (0x0B, q, c)
  | .sleep q c => some (0x0C, q, c)
  | .reset q c => some (0x0D, q, c)
  | .identify .vehicle q c => some (0x70, q, c)
  | .enableNotices .vehicle q c => some (0x71, q, c)
  | .ackNotices .vehicle q c => some (0x72, q, c)
  | .identify .fleet _ _ | .enableNotices .fleet _ _ | .ackNotices .fleet _ _
  | .measurementWindowClose _ _ | .pilotRisingEdge _ | .pilotFallingEdge _ | .staticTimerExpiry
  | .digitalInputSettledChange _ _ | .closeConfirmTimeout | .openConfirmTimeout
  | .currentWaitTimerExpiry | .pauseTimerExpiry | .requestExpiry | .unknownRequest _ _
  | .busyTransaction | .deferredActionRelease | .readOldestRecord _ _ | .releaseRecord _ _
  | .readOpenRecord _ _ | .setTime _ _ | .setSpendCap _ _ | .allowAdd _ _ | .allowRemove _ _
  | .allowRead _ _ | .authVerdict _ _ _ | .authTimerExpiry | .allocationTimerExpiry
  | .slotTimerExpiry | .quietWindowOpen | .halfPeriodTimerExpiry _ | .meteringTimerExpiry
  | .timeCounterTick | .receiveSegment _ | .powerLimit _ | .tariff _ _ _ _ _ | .time _ _
  | .stopMessage | .linkAliveTimerExpiry | .postLimitTimerExpiry | .statusTimerExpiry
  | .transmitAttemptStart | .transmitAttemptEnd _ | .messageTimerExpiry _ _ | .xon | .xoff
  | .framingError | .fleetByteReceived _ | .fleetResponseSent | .resetPin | .supplyHeldReset
  | .retentionSupplyFall | .resetExit | .wake _ _ _ _ | .requestAnswered => none

/-- The request that a command brings to the fleet port: type, sequence number and content. -/
def Instr.fleetHeader : Instr → Option (Byte × Byte × List Byte)
  | .readOldestRecord q c => some (0x40, q, c)
  | .releaseRecord q c => some (0x41, q, c)
  | .readOpenRecord q c => some (0x42, q, c)
  | .setTime q c => some (0x43, q, c)
  | .setSpendCap q c => some (0x44, q, c)
  | .allowAdd q c => some (0x45, q, c)
  | .allowRemove q c => some (0x46, q, c)
  | .allowRead q c => some (0x47, q, c)
  | .identify .fleet q c => some (0x70, q, c)
  | .enableNotices .fleet q c => some (0x71, q, c)
  | .ackNotices .fleet q c => some (0x72, q, c)
  | .identify .vehicle _ _ | .enableNotices .vehicle _ _ | .ackNotices .vehicle _ _
  | .poll _ _ | .readStatus _ _ | .chargeRequest _ _ | .stop _ _ | .clearWeld _ _
  | .setDriverTag _ _ | .clearInsulationFault _ _ | .readInsulation _ _ | .writeConfig _ _
  | .readConfig _ _ | .writeTempTable _ _ | .sleep _ _ | .reset _ _
  | .measurementWindowClose _ _ | .pilotRisingEdge _ | .pilotFallingEdge _ | .staticTimerExpiry
  | .digitalInputSettledChange _ _ | .closeConfirmTimeout | .openConfirmTimeout
  | .currentWaitTimerExpiry | .pauseTimerExpiry | .requestExpiry | .unknownRequest _ _
  | .busyTransaction | .deferredActionRelease | .authVerdict _ _ _ | .authTimerExpiry
  | .allocationTimerExpiry | .slotTimerExpiry | .quietWindowOpen | .halfPeriodTimerExpiry _
  | .meteringTimerExpiry | .timeCounterTick | .receiveSegment _ | .powerLimit _
  | .tariff _ _ _ _ _ | .time _ _ | .stopMessage | .linkAliveTimerExpiry | .postLimitTimerExpiry
  | .statusTimerExpiry | .transmitAttemptStart | .transmitAttemptEnd _ | .messageTimerExpiry _ _
  | .xon | .xoff | .framingError | .fleetByteReceived _ | .fleetResponseSent | .resetPin
  | .supplyHeldReset | .retentionSupplyFall | .resetExit | .wake _ _ _ _ | .requestAnswered => none

end Sys2Proof

namespace Sys2Proof.Machine

/-! ### Invariants -/

/-- The export queue holds at most 8 records, and a record is held beside it only when it is full (R144,
R146). -/
def ExportQueue.Fits (q : ExportQueue) : Prop :=
  q.queue.length ≤ 8 ∧ (q.held.isSome = true → q.queue.length = 8)

/-- The allow-list holds at most 16 entries, no two with the same tag (R57). -/
def AllowFits (l : List AllowEntry) : Prop := l.length ≤ 16 ∧ (l.map (·.tag)).Nodup

/-- A record holds at most 24 lines, no two with the same key (R135). -/
def LinesFit (l : List Line) : Prop := l.length ≤ 24 ∧ (l.map Line.key).Nodup

/-- The lines of the open record, if there is one, fit. -/
def Meter.Fits (m : Meter) : Prop := ∀ o, m.openRec = some o → LinesFit o.record.lines

/-- The converter command stays within what the allocation leaves it (R77, R78, R79, R81). -/
def AllocRecord.Fits (r : AllocRecord) : Prop :=
  r.command ≤ r.pOut ∧ r.pChgAlloc + r.pHeatAlloc ≤ r.pOut ∧ r.pChgCmd ≤ r.pChgAlloc
    ∧ ∀ p, r.pendingIncrease = some p → p ≤ r.pChgAlloc

/-- The contactor states that go with a session state (R20, R25, R34, R37). -/
def contactorFits : SessionState → Contactor → Bool
  | .idle, .opened | .attached, .opened | .closed, .opened => true
  | .authorizing, .opened | .authorizing, .closing => true
  | .preheat, .closed | .charging, .closed | .paused, .closed => true
  | .stopping, .closed | .stopping, .opening => true
  | .idle, _ | .attached, _ | .closed, _ | .authorizing, _ | .preheat, _ | .charging, _
  | .paused, _ | .stopping, _ => false

/-- The contactor agrees with the session state, and the current wait runs only in STOPPING with the contactor
CLOSED (R35). -/
def Session.Fits (s : Session) : Prop :=
  contactorFits s.state s.contactor = true
    ∧ (s.waitTimer.isSome = true → s.state = .stopping ∧ s.contactor = .closed)

/-- The fleet receive FIFO holds at most 64 bytes (R174, R175); a response is on its way while a request is
outstanding and only then, and its next byte is within it (R176). -/
def FleetPort.Fits (p : FleetPort) : Prop :=
  p.fifo.length ≤ 64 ∧ p.transmit.isSome = p.outstanding.isSome
    ∧ ∀ x, p.transmit = some x → x.next ≤ x.bytes.length

/-- The scheduler is OFF unless the session is in PREHEAT or CHARGING, no frame runs and no segment is energized
unless it is RUNNING (R86, R94), and a part asleep has no session (R188). -/
def Core.HeaterFits (c : Core) : Prop :=
  (c.heater.run ≠ .off ↔ c.session.state.powered = true)
    ∧ (c.heater.run ≠ .running →
      c.heater.position = none ∧ c.heater.slots = [] ∧ c.heater.energized = none)
    ∧ (c.sup.power = .sleep → c.session.state = .idle)

/-- Every value of the configuration record lies in its range (section 11.1, R166, R182). -/
def ConfigRecord.InRange (g : ConfigRecord) : Prop :=
  (-100 ≤ g.permitTemp ∧ g.permitTemp ≤ 400) ∧ (g.phases = 1 ∨ g.phases = 3)
    ∧ (1000 ≤ g.pCfg ∧ g.pCfg ≤ 22000) ∧ (800 ≤ g.eta ∧ g.eta ≤ 990) ∧ g.reserve ≤ 3000
    ∧ g.fallback ≤ 22000 ∧ (500 ≤ g.pSeg ∧ g.pSeg ≤ 3000)
    ∧ (0 ≤ g.preheatTarget ∧ g.preheatTarget ≤ 400) ∧ (0 ≤ g.chargeTarget ∧ g.chargeTarget ≤ 400)
    ∧ (1 ≤ g.gain ∧ g.gain ≤ 32) ∧ g.halfPeriod ∈ [500, 1000, 2000, 4000]
    ∧ (100 ≤ g.warnOhms ∧ g.warnOhms ≤ 2000) ∧ (50 ≤ g.faultOhms ∧ g.faultOhms ≤ 1000)
    ∧ g.defaultPrice ≤ 65535 ∧ g.ownAddress ≤ 62

/-- A row of the temperature table within its ranges (R183). -/
def TempRow.InRange (r : TempRow) : Prop :=
  (-400 ≤ r.breakpoint ∧ r.breakpoint ≤ 850) ∧ r.current ≤ 1000

/-- A row as WRITE-TEMP-TABLE carries it and READ-CONFIG returns it (section 12.3). -/
def TempRow.bytes (r : TempRow) : List Byte := signedField 2 r.breakpoint ++ field 2 r.current

/-! ### Runs and totals -/

/-- Commands taken one after the other. -/
def execAll : List Instr → State → Host.Outcome State Fault Refusal
  | [], s => .next s
  | i :: rest, s =>
    match exec i s with
    | .next t => execAll rest t
    | .fault f => .fault f
    | .refused r => .refused r

/-- The energy on the lines of a record, in mWh. -/
def BillingRecord.mwh (r : BillingRecord) : Nat := (r.lines.map (·.mwh)).sum

/-- The energy on all lines that the part holds: open record, queue and held position. -/
def Core.mwhHeld (c : Core) : Nat :=
  (c.meter.openRec.map (·.record.mwh)).getD 0 + (c.queue.queue.map (·.mwh)).sum
    + (c.queue.held.map (·.mwh)).getD 0

/-- The three class remainders together, in W·ms. -/
def Meter.remainders (m : Meter) : Nat := m.remCharge + m.remHeat + m.remOverhead

/-- The session has stopped with a closed contactor, and waits for its current to fall (R32, R34, R35). -/
def StoppedOnCurrent (cause : StopCause) (t : State) : Prop :=
  t.core.session.state = .stopping ∧ t.core.session.endReason = some cause
    ∧ t.core.session.pauseCauses = 0 ∧ t.core.session.pauseTimer = none
    ∧ t.core.session.contactor = .closed ∧ t.core.session.waitTimer = some 500
    ∧ t.core.alloc.record = AllocRecord.zero
    ∧ t.lines.converterEnable = false ∧ t.lines.commandDuty = 0 ∧ t.lines.pilotLoad = true
    ∧ t.lines.contactorDrive = true

end Sys2Proof.Machine
end

