-- ==== Sys2Proof/Certificates/Slice0/Obligations.lean ====
section
/-! DEFINITION. The statements for the provers. -/

open Sys2Proof Sys2Proof.Machine

/-! ### Steps, lines and frames -/

/-- A step takes the command at the front of the queue with the rest waiting. With no command a character time of the
fleet transmitter passes: in RUN the next byte of a response begins, in PAUSED the transmitter stops after the byte it
is sending, the closing flag stays on the line until its own command, and a part that sends nothing idles (R173). What
a step does without a command is the model's choice (log 1, log 26), and so is that an answer to an ACK-NOTICES takes
its form then (log 50). -/
def Obligations.StepTakesTheFrontCommand : Prop :=
  (∀ (i : Instr) (rest : List Instr) (s : State),
      step (s.withPending (i :: rest)) = exec i (s.withPending rest))
    ∧ ∀ s : State, s.pending = [] →
        (s.core.up = false ∨ s.fport.transmit = none → step s = .next s)
        ∧ ∀ x y : TxProgress, s.core.up = true → s.fport.transmit = some y →
            x = (match y.forming with
              | none => y
              | some r => { y with
                  bytes := if y.next ≤ 1 then frameOf (responseBytes (r.refreshed .fleet s.core.notices))
                    else y.bytes
                  forming := none }) →
            (x.sending = true → x.next = x.bytes.length →
              step s = .next { s with fport := { s.fport with transmit := some x } })
            ∧ (s.fport.paused = true → ¬ (x.sending = true ∧ x.next = x.bytes.length) →
                step s = .next
                  { s with fport := { s.fport with transmit := some { x with sending := false } } })
            ∧ (s.fport.paused = false → x.next < x.bytes.length →
                step s = .next
                  { s with fport := { s.fport with
                    transmit := some { x with next := x.next + 1, sending := true } } })

/-- After every command the driven lines are those the state gives: the pilot load, the contactor drive and the
converter enable follow session state and contactor, at most one segment is energized, the command line carries nothing
outside PREHEAT and CHARGING or under a FAULT, the reference path is in during a self-test alone, and a part held in
reset drives no line and negates READY (R20, R81, R94, R106, R123, R179, R184). -/
def Obligations.CommandsLeaveTheLinesAsTheStateGivesThem : Prop :=
  ∀ (i : Instr) (s : State), Completes i s fun t =>
    t.lines = linesOf t.core
      ∧ (t.lines.segments.toList.count true ≤ 1)
      ∧ (t.core.session.state.powered = false ∨ t.core.mon.result = .fault → t.lines.commandDuty = 0)
      ∧ (t.core.sup.held = none →
          (t.lines.converterEnable = true ↔
            t.core.session.state = .preheat ∨ t.core.session.state = .charging)
          ∧ (t.lines.contactorDrive = true ↔
              (t.core.session.state = .authorizing ∧ t.core.session.contactor = .closing)
                ∨ (t.core.session.contactor = .closed
                  ∧ (t.core.session.state = .preheat ∨ t.core.session.state = .charging
                    ∨ t.core.session.state = .paused ∨ t.core.session.state = .stopping)))
          ∧ (t.lines.pilotLoad = true ↔
              (t.core.session.state = .authorizing ∧ t.core.session.contactor = .closing)
                ∨ t.core.session.state = .preheat ∨ t.core.session.state = .charging
                ∨ t.core.session.state = .paused ∨ t.core.session.state = .stopping)
          ∧ (t.lines.referencePath = true ↔ t.core.mon.state = .selfTest)
          ∧ (t.lines.vehicleAttention = true ↔
              t.core.notices.vehiclePending &&& t.core.notices.vehicleEnable ≠ 0)
          ∧ (t.lines.fleetAttention = true ↔
              t.core.notices.fleetPending &&& t.core.notices.fleetEnable ≠ 0))
      ∧ (t.core.sup.held.isSome = true →
          t.vport.ready = false ∧ t.lines.pilotLoad = false ∧ t.lines.contactorDrive = false
            ∧ t.lines.converterEnable = false ∧ t.lines.commandDuty = 0
            ∧ t.lines.segments = quadAll false ∧ t.lines.generator = 0
            ∧ t.lines.referencePath = false
            ∧ t.lines.vehicleAttention = false ∧ t.lines.fleetAttention = false)

/-- No command changes the commands that wait. The queue of waiting commands is the model's form, not the manual's
(log 1). -/
def Obligations.CommandsLeaveTheQueue : Prop :=
  ∀ (i : Instr) (s : State), Completes i s fun t => t.pending = s.pending

/-- The events of the blocks leave the front end, the configuration and both ports as they are, but for READY in a
part that takes a reset. -/
def Obligations.BlockEventsKeepThePorts : Prop :=
  ∀ (i : Instr) (s : State), i.blockEvent = true → Completes i s (PortsKept s)

/-! ### Measurement front end -/

/-- A window close publishes one set from its samples, moves the zones, and derives T_min as the lowest value of the
VALID zones; the configuration, the fleet port and the vehicle port but for READY stay. The session takes the set: a
present pilot and a rated cable attach it, with a STATUS and its timer, a detachment returns ATTACHED to IDLE, a pause
cause pauses PREHEAT and CHARGING, and without one T_min and charge enable choose between them, falling back 20 dC
below the permit temperature. CLOSED without a pending close is left to IDLE on a detachment, else to ATTACHED once
the vehicle has released (R1, R4 to R6, R23, R29, R30, R40, R164). -/
def Obligations.WindowClosePublishesTheSet : Prop :=
  ∀ (w : WindowSamples) (first : Bool) (s : State),
    (s.core.up = true → s.env.mfe.windowTimer.isSome = true →
      Completes (.measurementWindowClose w first) s fun t =>
        t.env = { s.env with mfe := closeMeasurement s.env.cfg w s.env.mfe }
          ∧ t.fport = s.fport ∧ t.pending = s.pending
          ∧ t.vport = { s.vport with ready := s.vport.ready && t.core.sup.held.isNone }
          ∧ t.env.mfe.published = some (measure w) ∧ t.env.mfe.windowTimer = some 100
          ∧ t.env.mfe.zones = Quad.zipWith windowZone s.env.mfe.zones w.zones
          ∧ ∀ v : Int, t.env.mfe.tMin = some v ↔
              (∃ z ∈ t.env.mfe.zones.toList, z.validity = .valid ∧ z.value = some v)
                ∧ ∀ z ∈ t.env.mfe.zones.toList, z.validity = .valid → ∀ x, z.value = some x → v ≤ x)
    ∧ (BringsTheSet w s → SupplyStays w s →
        (s.core.session.state = .idle → s.core.session.request = none →
          (s.windowMfe w).pilotPresent = true → (s.windowMfe w).cableRated = true →
            Completes (.measurementWindowClose w first) s fun t =>
              t.core.session = { s.core.session with state := .attached, pauseTimer := none
                                                     authGranted := false, selfTestPassed := false }
                ∧ t.core.link.statusTimer = some 1000
                ∧ (if s.core.link.status.state = .sending then t.core.link.status.successor
                  else t.core.link.status.message).isSome = true
                ∧ hasBit t.core.notices.vehiclePending Notice.sessionState.code = true
                ∧ hasBit t.core.notices.fleetPending Notice.sessionState.code = true)
        ∧ (s.core.session.state = .attached → (s.windowMfe w).detached = true →
            Completes (.measurementWindowClose w first) s fun t =>
              t.core.session = { s.core.session with state := .idle, pauseTimer := none
                                                     authGranted := false, selfTestPassed := false
                                                     monitorFailure := false }
                ∧ t.core.auth.driverTag = none ∧ t.core.auth.state = .inactive
                ∧ t.core.link.statusTimer = none)
        ∧ (s.core.session.state = .closed →
            (s.core.session.closePending = true →
              Completes (.measurementWindowClose w first) s fun t => t.core.session = s.core.session)
            ∧ (s.core.session.closePending = false → (s.windowMfe w).detached = true →
                Completes (.measurementWindowClose w first) s fun t =>
                  t.core.session = { s.core.session with state := .idle, pauseTimer := none
                                                         authGranted := false, selfTestPassed := false
                                                         monitorFailure := false }
                    ∧ t.core.auth.driverTag = none ∧ t.core.auth.state = .inactive
                    ∧ t.core.link.statusTimer = none
                    ∧ hasBit t.core.notices.vehiclePending Notice.sessionState.code = true
                    ∧ hasBit t.core.notices.fleetPending Notice.sessionState.code = true)
            ∧ (s.core.session.closePending = false → (s.windowMfe w).detached = false →
                (s.core.session.releaseSeen = false →
                  Completes (.measurementWindowClose w first) s fun t => t.core.session = s.core.session)
                ∧ (s.core.session.releaseSeen = true → s.core.session.chargeEnable = false →
                    s.core.session.heatEnable = false →
                      Completes (.measurementWindowClose w first) s fun t =>
                        t.core.session = { s.core.session with state := .attached, pauseTimer := none
                                                               authGranted := false
                                                               selfTestPassed := false }
                          ∧ t.core.auth.driverTag = s.core.auth.driverTag
                          ∧ hasBit t.core.notices.vehiclePending Notice.sessionState.code = true
                          ∧ hasBit t.core.notices.fleetPending Notice.sessionState.code = true)))
        ∧ (s.core.session.state.powered = true → s.core.session.pauseCauses = 0 →
            (s.windowMfe w).detached = false →
            (offerZero (s.windowMfe w) = true ∨ packVoltage (s.windowMfe w) s.core.session = true
                ∨ sensorsInvalid (s.windowMfe w) s.core.session = true →
              Completes (.measurementWindowClose w first) s fun t =>
                t.core.session.state = .paused ∧ t.core.session.pauseTimer = some 600000
                  ∧ hasBit t.core.session.pauseCauses PauseCause.offerZero.code
                    = offerZero (s.windowMfe w)
                  ∧ hasBit t.core.session.pauseCauses PauseCause.packVoltage.code
                    = packVoltage (s.windowMfe w) s.core.session
                  ∧ hasBit t.core.session.pauseCauses PauseCause.sensorsInvalid.code
                    = sensorsInvalid (s.windowMfe w) s.core.session
                  ∧ t.core.session.contactor = s.core.session.contactor
                  ∧ t.lines.converterEnable = false ∧ t.lines.commandDuty = 0)
            ∧ (offerZero (s.windowMfe w) = false →
                packVoltage (s.windowMfe w) s.core.session = false →
                sensorsInvalid (s.windowMfe w) s.core.session = false →
                  Completes (.measurementWindowClose w first) s fun t =>
                    t.core.session.pauseCauses = 0
                      ∧ t.core.session.contactor = s.core.session.contactor
                      ∧ t.core.session.endReason = s.core.session.endReason
                      ∧ (s.core.session.state = .preheat → t.core.session.state =
                          if s.core.session.chargeEnable = true
                              ∧ ∃ v : Int, (s.windowMfe w).tMin = some v ∧ s.env.cfg.permitTemp ≤ v
                          then .charging else .preheat)
                      ∧ (s.core.session.state = .charging → t.core.session.state =
                          if s.core.session.chargeEnable = true
                              ∧ ∃ v : Int, (s.windowMfe w).tMin = some v
                                ∧ s.env.cfg.permitTemp - 20 ≤ v
                          then .charging else .preheat))))

/-- The published values against the samples (R2, R3, R8 to R10): RMS values, powers, means and the least supply sample
are rounded down and kept in their ranges, V_in is the mean of the phases of 1,000 dV or more, V_bus the mean of the
samples with negative ones as 0, or 6,000 dV invalid at full scale. The pilot level changes to ATTACHED or LOADED at
the second window of that band running, to any other band at the first; the cable code falls at the first window and
rises at the second. That roots are rounded down is the model's choice (log 7). -/
def Obligations.MeasuredValuesFollowTheSamples : Prop :=
  ∀ w : WindowSamples,
    (∀ (top : Nat) (l : List Int) (q : Nat), (top = 3000 ∨ top = 800) → l.length = 100 →
        (q : Int) = (l.map fun v => v * v).sum / 100 →
          rms top l ≤ top ∧ rms top l * rms top l ≤ q
            ∧ (rms top l < top → q < (rms top l + 1) * (rms top l + 1)))
      ∧ (∀ p : PhaseSamples,
          (phaseValues p).volts = rms 3000 p.voltage.toList
            ∧ (phaseValues p).amps = rms 800 p.current.toList
            ∧ 10000 * (phaseValues p).power
                ≤ (List.zipWith (fun v i => v * i) p.voltage.toList p.current.toList).sum
            ∧ (List.zipWith (fun v i => v * i) p.voltage.toList p.current.toList).sum
                < 10000 * (phaseValues p).power + 10000)
      ∧ (measure w).l1 = phaseValues w.l1 ∧ (measure w).l2 = phaseValues w.l2
      ∧ (measure w).l3 = phaseValues w.l3
      ∧ (measure w).pIn = max (-30000) (min 30000
          ((phaseValues w.l1).power + (phaseValues w.l2).power + (phaseValues w.l3).power))
      ∧ (∀ active : List Nat,
          active = ([(phaseValues w.l1).volts, (phaseValues w.l2).volts,
            (phaseValues w.l3).volts].filter fun v => 1000 ≤ v) →
          (active = [] → (measure w).vIn = 0)
            ∧ (active ≠ [] → (measure w).vIn * active.length ≤ active.sum
              ∧ active.sum < (measure w).vIn * active.length + active.length))
      ∧ ((∃ v ∈ w.bus.toList, 6000 ≤ v) → (measure w).vBus = 6000 ∧ (measure w).vBusValid = false)
      ∧ ((∀ v ∈ w.bus.toList, v < 6000) →
          (measure w).vBusValid = true
            ∧ ((measure w).vBus : Int) * 100 ≤ (w.bus.toList.map fun v => max 0 v).sum
            ∧ (w.bus.toList.map fun v => max 0 v).sum < ((measure w).vBus : Int) * 100 + 100)
      ∧ ((measure w).iOut : Int) = min 800 ((w.outCurrent.toList.map fun v => max 0 v).sum / 100)
      ∧ ((measure w).iHeat : Int) = min 200 ((w.heatCurrent.toList.map fun v => max 0 v).sum / 100)
      ∧ ((measure w).vSupMean : Int) = max 0 (min 200 (w.supply.toList.sum / 100))
      ∧ (∀ v ∈ w.supply.toList, ((measure w).vSupMin : Int) ≤ max 0 (min 200 v))
      ∧ (∃ v ∈ w.supply.toList, ((measure w).vSupMin : Int) = max 0 (min 200 v))
      ∧ ∀ (cfg : ConfigRecord) (m : Mfe) (w2 : WindowSamples),
          (∀ (l b b2 : PilotLevel), m.pilotLevel = some l → m.pilotChange = none → b ≠ l →
            b = pilotBand (pilotHigh (m.unit == .static) w.pilot.toList) →
            b2 = pilotBand (pilotHigh (m.unit == .static) w2.pilot.toList) →
              ((b = .detached ∨ b = .pilotError) → (closeMeasurement cfg w m).pilotLevel = some b)
              ∧ (b = .attached ∨ b = .loaded →
                  (closeMeasurement cfg w m).pilotLevel = some l
                  ∧ (closeMeasurement cfg w2 (closeMeasurement cfg w m)).pilotLevel = some
                      (if b2 = b ∨ b2 = .detached ∨ b2 = .pilotError then b2 else l)))
            ∧ ∀ (k c c2 : CableCode), m.cable = some k → m.cableChange = none →
                c = cableBand (mean w.proximity.toList) → c2 = cableBand (mean w2.proximity.toList) →
                  (c.ampere ≤ k.ampere → (closeMeasurement cfg w m).cable = some c)
                  ∧ (k.ampere < c.ampere →
                      (closeMeasurement cfg w m).cable = some k
                      ∧ (closeMeasurement cfg w2 (closeMeasurement cfg w m)).cable = some
                          (if c2 = c ∨ c2.ampere ≤ k.ampere then c2 else k))

/-- A zone in INVALID returns to VALID at its tenth consecutive in-range window and not before; an out-of-range window
makes any zone INVALID with the count at 0 (R5). -/
def Obligations.ZoneRecoversInTenWindows : Prop :=
  (∀ (z : Zone) (ws : List (Vector ZoneSample 100)),
      z.validity = .invalid → z.recovery = 0 → ws.length ≤ 10 →
      (∀ w ∈ ws, ∀ x ∈ w.toList, ∃ t : Int, x = .temp t ∧ -400 ≤ t ∧ t ≤ 850) →
        (ws.foldl windowZone z).recovery = ws.length
          ∧ (ws.foldl windowZone z).validity = if ws.length = 10 then .valid else .invalid)
    ∧ ∀ (z : Zone) (w : Vector ZoneSample 100),
        (∃ x ∈ w.toList, ∀ t : Int, x = .temp t → t < -400 ∨ 850 < t) →
          (windowZone z w).validity = .invalid ∧ (windowZone z w).recovery = 0

/-- A falling edge is recorded for the period in progress; a rising edge in STATIC enters ACQUIRING, closes no period
and starts the static timer. Nothing else changes (R11, R13, R15). -/
def Obligations.PilotEdgesAreCaptured : Prop :=
  ∀ (capture : Word) (s : State), s.core.up = true →
    (s.env.mfe.lastRising.isSome = true →
      exec (.pilotFallingEdge capture) s = .next (State.settle
        { s with env := { s.env with mfe := { s.env.mfe with
          captureCounter := capture
          fallCount := s.env.mfe.fallCount + 1
          fallCapture := some capture } } }))
    ∧ (s.env.mfe.unit = .static →
      exec (.pilotRisingEdge capture) s = .next (State.settle
        { s with env := { s.env with mfe := { s.env.mfe with
          captureCounter := capture
          lastRising := some capture
          fallCount := 0
          fallCapture := none
          unit := .acquiring
          run := []
          invalidCount := 0
          staticTimer := some 5 } } }))

/-- The third consecutive valid period whose duty agrees within 10 permille locks the unit and publishes the offer of
that duty. In LOCKED a valid period within 10 permille confirms the accepted duty; another duty becomes the change
candidate, and at the second period within 10 permille of the candidate the accepted duty and its offer change
(R11 to R14). That the run is kept is the model's choice (log 36). -/
def Obligations.ThirdAgreeingDutyLocks : Prop :=
  ∀ (capture last fall : Word) (d : Nat) (s : State), s.core.up = true →
    s.env.mfe.lastRising = some last →
    900 ≤ (capture - last).toNat → (capture - last).toNat ≤ 1100 →
    s.env.mfe.fallCount = 1 → s.env.mfe.fallCapture = some fall →
    d = (fall - last).toNat * 1000 / (capture - last).toNat →
      (∀ a b : Nat, s.env.mfe.unit = .acquiring → s.env.mfe.run = [a, b] →
        a ≤ b + 10 → b ≤ a + 10 → b ≤ d + 10 → d ≤ b + 10 → a ≤ d + 10 → d ≤ a + 10 →
          Completes (.pilotRisingEdge capture) s fun t =>
            t.fport = s.fport ∧ t.pending = s.pending
              ∧ t.env = { s.env with mfe := { s.env.mfe with
                  captureCounter := capture
                  lastRising := some capture
                  fallCount := 0
                  fallCapture := none
                  unit := .locked
                  run := [a, b, d]
                  accepted := some d
                  candidate := none
                  invalidCount := 0
                  staticTimer := some 5
                  offer := if 100 ≤ d ∧ d ≤ 850 then (d - 50) * 4 / 5 else 0
                  offerValid := true } })
      ∧ ∀ a : Nat, s.env.mfe.unit = .locked → s.env.mfe.accepted = some a →
          (a ≤ d + 10 → d ≤ a + 10 →
            exec (.pilotRisingEdge capture) s = .next (State.settle
              { s with env := { s.env with mfe := { s.env.mfe with
                captureCounter := capture
                lastRising := some capture
                fallCount := 0
                fallCapture := none
                candidate := none
                invalidCount := 0
                staticTimer := some 5 } } }))
          ∧ (d + 10 < a ∨ a + 10 < d →
              ((∀ c, s.env.mfe.candidate = some c → d + 10 < c ∨ c + 10 < d) →
                exec (.pilotRisingEdge capture) s = .next (State.settle
                  { s with env := { s.env with mfe := { s.env.mfe with
                    captureCounter := capture
                    lastRising := some capture
                    fallCount := 0
                    fallCapture := none
                    candidate := some d
                    invalidCount := 0
                    staticTimer := some 5 } } }))
              ∧ ∀ c, s.env.mfe.candidate = some c → c ≤ d + 10 → d ≤ c + 10 →
                  Completes (.pilotRisingEdge capture) s fun t =>
                    t.fport = s.fport ∧ t.pending = s.pending
                      ∧ t.env = { s.env with mfe := { s.env.mfe with
                          captureCounter := capture
                          lastRising := some capture
                          fallCount := 0
                          fallCapture := none
                          accepted := some d
                          candidate := none
                          invalidCount := 0
                          staticTimer := some 5
                          offer := if 100 ≤ d ∧ d ≤ 850 then (d - 50) * 4 / 5 else 0 } })

/-- The static expiry forgets the capture and publishes offer 0, invalid; the third invalid period running in LOCKED
returns to ACQUIRING with the same offer, a first or second one only discards the candidate. Where the offer falls from
a nonzero one in PREHEAT or CHARGING, the allocator's limit is 0 and the session pauses with OFFER-ZERO and LIMIT-ZERO
at the same event (R14 to R16, R30, R63). The order of allocator and session is the model's choice (log 9), and so are
that the third invalid period leaves no accepted duty (log 15) and that its count stays at 3 (log 36). -/
def Obligations.StaticExpiryWithdrawsTheOffer : Prop :=
  let paused (s t : State) : Prop :=
    0 < s.env.mfe.offer → s.core.session.state.powered = true →
      t.core.session.state = .paused
        ∧ hasBit t.core.session.pauseCauses PauseCause.offerZero.code = true
        ∧ hasBit t.core.session.pauseCauses PauseCause.limitZero.code = true
        ∧ t.core.alloc.record.pInLim = 0 ∧ t.lines.commandDuty = 0
  ∀ s : State, s.core.up = true →
    (s.env.mfe.staticTimer.isSome = true →
      Completes .staticTimerExpiry s fun t =>
        t.fport = s.fport ∧ t.pending = s.pending
          ∧ t.env = { s.env with mfe := { s.env.mfe with
              unit := .static
              lastRising := none
              run := []
              accepted := none
              candidate := none
              invalidCount := 0
              staticTimer := none
              offer := 0
              offerValid := false } }
          ∧ paused s t)
    ∧ ∀ capture last : Word, s.env.mfe.unit = .locked → s.env.mfe.lastRising = some last →
        ¬ (900 ≤ (capture - last).toNat ∧ (capture - last).toNat ≤ 1100 ∧ s.env.mfe.fallCount = 1) →
          (s.env.mfe.invalidCount + 1 < 3 →
            exec (.pilotRisingEdge capture) s = .next (State.settle
              { s with env := { s.env with mfe := { s.env.mfe with
                captureCounter := capture
                lastRising := some capture
                fallCount := 0
                fallCapture := none
                candidate := none
                invalidCount := s.env.mfe.invalidCount + 1
                staticTimer := some 5 } } }))
          ∧ (s.env.mfe.invalidCount = 2 →
              Completes (.pilotRisingEdge capture) s fun t =>
                t.fport = s.fport ∧ t.pending = s.pending
                  ∧ t.env = { s.env with mfe := { s.env.mfe with
                      captureCounter := capture
                      lastRising := some capture
                      fallCount := 0
                      fallCapture := none
                      unit := .acquiring
                      run := []
                      accepted := none
                      candidate := none
                      invalidCount := 3
                      staticTimer := some 5
                      offer := 0
                      offerValid := false } }
                  ∧ paused s t)

/-- The auxiliary contact that becomes active in CLOSING confirms the close, and the running state is chosen; an input
event of the converter fault input sets its latch in every session state. A contact that drops with the contactor
CLOSED is the stop cause CONTACTOR-FAIL: a running session stops on the current, and a current wait goes on with the
cause among the faults seen (R17, R18, R27, R28, R38, R42). The trigger in effect at a settled change is the model's
choice (log 21). -/
def Obligations.InputsReachTheSession : Prop :=
  (∀ (level : LineLevel) (s : State), s.core.up = true → s.core.session.contactor = .closing →
      s.env.mfe.aux.active = false → s.env.mfe.aux.level ≠ settledOf level →
      settledOf level = s.env.cfg.auxTrigger.activeLevel →
        Completes (.digitalInputSettledChange .contactorAux level) s fun t =>
          t.env = { s.env with mfe := { s.env.mfe with
              aux := { level := settledOf level, trigger := s.env.cfg.auxTrigger } } }
            ∧ t.fport = s.fport ∧ t.pending = s.pending
            ∧ t.core.session.contactor = .closed ∧ t.core.session.confirmTimer = none
            ∧ t.core.session.state =
                (if s.core.session.pauseCauses ≠ 0 then SessionState.paused
                else if s.core.session.chargeEnable = true
                    ∧ ∃ v : Int, s.env.mfe.tMin = some v ∧ s.env.cfg.permitTemp ≤ v then .charging
                else .preheat))
    ∧ (∀ (level : LineLevel) (s : State), s.core.up = true → s.core.session.contactor = .closed →
        s.env.mfe.aux.active = true → s.env.mfe.aux.level ≠ settledOf level →
        settledOf level ≠ s.env.cfg.auxTrigger.activeLevel →
          (s.core.session.state = .preheat ∨ s.core.session.state = .charging
              ∨ s.core.session.state = .paused →
            Completes (.digitalInputSettledChange .contactorAux level) s fun t =>
              StoppedOnCurrent .contactorFail t ∧ t.core.queue = s.core.queue)
          ∧ ∀ r : StopCause, s.core.session.state = .stopping → s.core.session.endReason = some r →
              r ≠ .contactorFail →
                Completes (.digitalInputSettledChange .contactorAux level) s fun t =>
                  t.core.session = { s.core.session with
                    faultsSeen := s.core.session.faultsSeen ||| bit 16 StopCause.contactorFail.code })
    ∧ ∀ (level : LineLevel) (s : State), s.core.up = true →
        s.env.mfe.fault.level ≠ settledOf level →
        changeEvent s.env.cfg.faultTrigger s.env.mfe.fault.level (settledOf level) = true →
          Completes (.digitalInputSettledChange .converterFault level) s fun t =>
            t.core.session.converterLatch = true
              ∧ t.env.mfe.fault = { level := settledOf level, trigger := s.env.cfg.faultTrigger }

/-! ### The session -/

/-- A close that is not confirmed in time ends the session with CONTACTOR-FAIL: the drive is withdrawn and the open
confirmation runs, so that a contact that arrives late is examined. An open confirmation that runs out with the input
still active sets the WELD latch, adds WELD to faults-seen and posts WELD; with the input inactive, or at its becoming
inactive, the open is confirmed. Either ends the stop sequence, and a running record is closed with its costs and totals
and placed where there is room (R27, R34, R36, R37, R139, R140). That the confirmation also ends at its expiry when the
input never became active is the model's choice (log 16). -/
def Obligations.ContactorTimeoutsEndTheSession : Prop :=
  ∀ s : State, s.core.up = true → s.core.session.confirmTimer.isSome = true →
    (s.core.session.state = .authorizing → s.core.session.contactor = .closing →
      Completes .closeConfirmTimeout s fun t =>
        t.core.session.state = .stopping ∧ t.core.session.contactor = .opening
          ∧ t.core.session.endReason = some .contactorFail
          ∧ t.core.session.confirmTimer = some 100 ∧ t.core.session.waitTimer = none
          ∧ t.core.session.pauseCauses = 0 ∧ t.core.alloc.record = AllocRecord.zero
          ∧ t.lines.pilotLoad = true ∧ t.lines.contactorDrive = false
          ∧ t.core.queue = s.core.queue)
    ∧ (s.core.session.state = .stopping → s.core.session.contactor = .opening →
        (∀ level : LineLevel, s.env.mfe.aux.active = false → s.env.mfe.aux.level ≠ settledOf level →
          Completes (.digitalInputSettledChange .contactorAux level) s fun t =>
            t.core.session = s.core.session)
        ∧ ∀ r : StopCause, r ≠ .weld → s.core.session.endReason = some r →
            s.env.mfe.detached = false → s.core.session.releaseSeen = false →
              let ended (faults : Half) (t : State) : Prop :=
                t.core.session.state = .closed ∧ t.core.session.contactor = .opened
                  ∧ t.core.session.endReason = some r ∧ t.core.session.faultsSeen = faults
                  ∧ t.core.session.confirmTimer = none
                  ∧ t.lines.pilotLoad = false ∧ t.lines.contactorDrive = false
                  ∧ ∀ o : OpenRecord, s.core.meter.openRec = some o → o.closeRequested = false →
                      s.core.queue.room = true → o.record.lines ≠ [] →
                        t.core.meter.openRec = none ∧ t.core.session.closePending = false
                          ∧ hasBit t.core.notices.fleetPending Notice.recordReady.code = true
                          ∧ ∃ x : BillingRecord, t.core.queue = s.core.queue.place x
                              ∧ PricedFrom o.record.lines x
                              ∧ x.number = o.record.number
                              ∧ x.continuation = o.record.continuation
                              ∧ x.endReason = some (.cause r) ∧ x.faultsSeen = faults
                              ∧ x.endTime = some s.core.meter.time
              (s.env.mfe.aux.active = true →
                Completes .openConfirmTimeout s fun t =>
                  ended (s.core.session.faultsSeen ||| bit 16 StopCause.weld.code) t
                    ∧ t.core.session.weldLatch = true
                    ∧ hasBit t.core.notices.vehiclePending Notice.weld.code = true
                    ∧ hasBit t.core.notices.fleetPending Notice.weld.code = true)
              ∧ (s.env.mfe.aux.active = false →
                  Completes .openConfirmTimeout s fun t =>
                    ended s.core.session.faultsSeen t
                      ∧ t.core.session.weldLatch = s.core.session.weldLatch)
              ∧ (∀ level : LineLevel, s.env.mfe.aux.active = true →
                  s.env.mfe.aux.level ≠ settledOf level →
                  settledOf level ≠ s.env.cfg.auxTrigger.activeLevel →
                    Completes (.digitalInputSettledChange .contactorAux level) s fun t =>
                      ended s.core.session.faultsSeen t
                        ∧ t.core.session.weldLatch = s.core.session.weldLatch))

/-- The current wait ends by its timer, by a set whose I_out is below 10 dA, or by a stop cause of the class at once,
SUPPLY-LOSS, CABLE-REMOVED or INSULATION-FAULT, which joins faults-seen: the drive is withdrawn and the open
confirmation begins; a set of 10 dA or more leaves the wait. Where the contact has dropped, the confirmation succeeds
at once and the stop sequence ends (R33, R35 to R39, R109, R114, R190). The order of the blocks at the FAULT is the
model's choice (log 28), and so are the samples as an operand (log 34). -/
def Obligations.CurrentWaitEndsInOpening : Prop :=
  ∀ s : State, s.core.session.waitTimer.isSome = true → s.core.session.state = .stopping →
    (s.core.up = true → s.env.mfe.aux.active = true →
      exec .currentWaitTimerExpiry s = .next (afterBlocks s
        { s.core with
          session := { s.core.session with
            contactor := .opening
            waitTimer := none
            confirmTimer := some 100 }
          mon := { s.core.mon with mark := s.core.mon.mark || s.core.mon.window } }))
    ∧ (s.core.up = true → s.env.mfe.aux.active = false → s.env.mfe.detached = false →
        s.core.session.releaseSeen = false →
          Completes .currentWaitTimerExpiry s fun t =>
            t.core.session.state = .closed ∧ t.core.session.contactor = .opened
              ∧ t.core.session.waitTimer = none ∧ t.core.session.confirmTimer = none
              ∧ t.core.session.endReason = s.core.session.endReason
              ∧ t.core.session.faultsSeen = s.core.session.faultsSeen
              ∧ t.lines.contactorDrive = false ∧ t.lines.pilotLoad = false)
    ∧ (∀ (samples : List Int) (sum vPos : Int) (n v : Nat) (r : StopCause), s.core.up = true →
        s.core.session.contactor = .closed → s.env.mfe.aux.active = true →
        s.core.session.endReason = some r → r ≠ .insulationFault →
        s.core.mon.state = .monitoring → s.core.mon.timer.isSome = true →
        s.core.mon.window = true → s.core.mon.mark = false → s.core.mon.polarity = .negative →
        s.core.mon.result = .warn → s.core.mon.low = 1 →
        s.core.mon.vPos = some vPos → s.env.mfe.vBus? = some v →
        sum = s.core.mon.windowSum + (samples.map fun v => max (-30000) (min 30000 v)).sum →
        n = s.core.mon.windowCount + samples.length → 0 < n →
        (resistance ((vPos - sum / n) / 2)).below (s.env.cfg.faultOhms * v / 10000) = true →
          Completes (.halfPeriodTimerExpiry samples) s fun t =>
            t.core.session = { s.core.session with
                contactor := .opening, waitTimer := none, confirmTimer := some 100
                faultsSeen := s.core.session.faultsSeen ||| bit 16 StopCause.insulationFault.code }
              ∧ t.core.mon.result = .fault ∧ t.core.mon.state = .monitoring
              ∧ t.lines.contactorDrive = false)
    ∧ ∀ (w : WindowSamples) (first : Bool), BringsTheSet w s → s.core.session.contactor = .closed →
        s.env.mfe.aux.active = true →
        ((s.windowMfe w).detached = true → SupplyStays w s →
          ∀ r : StopCause, s.core.session.endReason = some r → r ≠ .cableRemoved →
            Completes (.measurementWindowClose w first) s fun t =>
              t.core.session = { s.core.session with
                  contactor := .opening, waitTimer := none, confirmTimer := some 100
                  faultsSeen := s.core.session.faultsSeen ||| bit 16 StopCause.cableRemoved.code }
                ∧ t.lines.contactorDrive = false)
        ∧ ((s.windowMfe w).detached = false →
          (SupplyStays w s →
            (10 ≤ (measure w).iOut →
              Completes (.measurementWindowClose w first) s fun t => t.core.session = s.core.session)
            ∧ ((measure w).iOut < 10 →
              Completes (.measurementWindowClose w first) s fun t =>
                t.core.session = { s.core.session with
                    contactor := .opening, waitTimer := none, confirmTimer := some 100 }
                  ∧ t.lines.contactorDrive = false))
          ∧ ∀ r : StopCause, s.core.session.endReason = some r → r ≠ .supplyLoss →
              s.core.sup.low = false → (measure w).vSupMin < 90 →
                Completes (.measurementWindowClose w first) s fun t =>
                  t.core.session = { s.core.session with
                      contactor := .opening, waitTimer := none, confirmTimer := some 100
                      faultsSeen := s.core.session.faultsSeen ||| bit 16 StopCause.supplyLoss.code }
                    ∧ t.core.sup.low = true ∧ t.lines.contactorDrive = false)

/-- A STOP request, the post's STOP message and a pause of 600 s stop a session with a closed contactor: the outputs
fall at once and the current wait begins; a STOP request outside a session is refused. A window close that shows
detachment, or the entry to SUPPLY-LOW, stops it with CABLE-REMOVED or SUPPLY-LOSS and opens the contactor at once
(R31, R32, R34, R35, R39, R41, R190). The message command stands for its last frame, which is the model's choice
(log 6). -/
def Obligations.StopsWaitForTheCurrent : Prop :=
  ∀ (q : Byte) (s : State),
    (s.core.session.state = .preheat ∨ s.core.session.state = .charging ∨ s.core.session.state = .paused →
      s.core.session.contactor = .closed →
        (VehicleTakes s → Completes (.stop q []) s fun t =>
            StoppedOnCurrent .vehicleStop t ∧ t.env = s.env ∧ t.fport = s.fport
              ∧ t.core.queue = s.core.queue ∧ t.core.link = s.core.link
              ∧ t.vport = vportAfter s (respond .vehicle 0x04 q .ok t.core []) .none)
        ∧ (s.core.up = true → Completes .stopMessage s fun t =>
            StoppedOnCurrent .postStop t ∧ t.core.queue = s.core.queue
              ∧ t.core.link = { s.core.link with
                  asmStop := none, state := .alive, aliveTimer := some 5000 })
        ∧ (s.core.up = true → s.core.session.pauseTimer.isSome = true →
            Completes .pauseTimerExpiry s fun t =>
              StoppedOnCurrent .pauseTimeout t ∧ t.core.queue = s.core.queue
                ∧ t.core.link = s.core.link)
        ∧ ∀ (w : WindowSamples) (first : Bool), BringsTheSet w s → s.env.mfe.aux.active = true →
            let openedFor (r : StopCause) (t : State) : Prop :=
              t.core.session.state = .stopping ∧ t.core.session.endReason = some r
                ∧ t.core.session.contactor = .opening ∧ t.core.session.confirmTimer = some 100
                ∧ t.core.session.pauseCauses = 0 ∧ t.core.alloc.record = AllocRecord.zero
                ∧ t.core.queue = s.core.queue ∧ t.lines.converterEnable = false
                ∧ t.lines.commandDuty = 0 ∧ t.lines.contactorDrive = false
                ∧ t.lines.pilotLoad = true
            ((s.windowMfe w).detached = true → SupplyStays w s →
              Completes (.measurementWindowClose w first) s fun t => openedFor .cableRemoved t)
            ∧ ((s.windowMfe w).detached = false → s.core.sup.low = false → (measure w).vSupMin < 90 →
                Completes (.measurementWindowClose w first) s fun t =>
                  openedFor .supplyLoss t ∧ t.core.sup.low = true))
    ∧ (VehicleTakes s →
        s.core.session.state = .idle ∨ s.core.session.state = .attached
          ∨ s.core.session.state = .closed →
        exec (.stop q []) s = .next (afterVehicle s s.core 0x04 q .refusedState [] .none))

/-- The expiry of the vehicle charge request in PREHEAT or CHARGING makes it EXPIRED and pauses the session with
VEHICLE-SILENT and PACK-VOLTAGE, the pause timer at 600 s; the contactor stays as it is (R22, R30, R31). -/
def Obligations.RequestExpiryPausesTheSession : Prop :=
  ∀ s : State, s.core.up = true → s.core.session.requestTimer.isSome = true →
    s.core.session.state.powered = true →
      Completes .requestExpiry s fun t =>
        t.core.session.request = none ∧ t.core.session.requestTimer = none
          ∧ t.core.session.state = .paused ∧ t.core.session.pauseTimer = some 600000
          ∧ hasBit t.core.session.pauseCauses PauseCause.vehicleSilent.code = true
          ∧ hasBit t.core.session.pauseCauses PauseCause.packVoltage.code = true
          ∧ t.core.session.contactor = s.core.session.contactor
          ∧ t.core.session.releaseSeen = s.core.session.releaseSeen
          ∧ t.core.session.endReason = s.core.session.endReason
          ∧ t.core.heater.run = .off ∧ t.core.heater.energized = none
          ∧ t.core.queue = s.core.queue ∧ t.core.link = s.core.link
          ∧ t.lines.converterEnable = false ∧ t.lines.commandDuty = 0

/-- A CHARGE-REQUEST is taken in every session state: the request is stored with its values brought into range, its
timer restarts at 1,000 ms, and the answer says CLAMPED if a value was changed (R21). -/
def Obligations.ChargeRequestIsStored : Prop :=
  ∀ (q flags : Byte) (i v : Nat) (s : State), VehicleTakes s → i < 65536 → v < 65536 →
    Completes (.chargeRequest q (flags :: (le 2 i ++ le 2 v))) s fun t =>
      t.core.session.request = some
          { chargeEnable := hasBit flags 0
            heatEnable := hasBit flags 1
            hvLive := hasBit flags 2
            iReq := min 1000 i
            vTarget := max 2500 (min 4500 v) }
        ∧ t.core.session.requestTimer = some 1000
        ∧ t.env = s.env ∧ t.fport = s.fport
        ∧ t.vport = vportAfter s
            (respond .vehicle 0x03 q
              (if 1000 < i ∨ v < 2500 ∨ 4500 < v then .clamped else .ok) t.core []) .none

/-- SET-DRIVER-TAG stores or clears the tag; in ATTACHED, with every other start condition met, it starts the session:
the next session number, an open record, a forgotten post limit and a session self-test. With authorization required
and the link not LOST a request is pending with its 10 s timer; on a LOST link the allow-list decides at once, without
a request; with authorization not required the session is FREE, without a tag (R25, R47 to R49, R53, R107, R139,
R160). -/
def Obligations.DriverTagStartsTheSession : Prop :=
  ∀ (q : Byte) (tag : Tag) (s : State), VehicleTakes s →
    (s.core.session.state ≠ .attached → s.core.session.state ≠ .closed →
      exec (.setDriverTag q tag.bytes) s = .next (afterVehicle s
          { s.core with auth := { s.core.auth with driverTag := some tag } } 0x06 q .ok [] .none)
        ∧ exec (.setDriverTag q []) s = .next (afterVehicle s
          { s.core with auth := { s.core.auth with driverTag := none } } 0x06 q .ok [] .none))
    ∧ (s.core.session.state = .attached →
        missingStart s.env { s.core with auth := { s.core.auth with driverTag := some tag } } = 0 →
        s.core.mon.state.measuring = false →
          let begun (held : Option Tag) (mode : Option AuthMode) (t : State) : Prop :=
            t.core.session.number = s.core.session.number + 1 ∧ t.core.auth.sessionTag = held
              ∧ t.core.auth.mode = mode ∧ t.core.auth.lateAccept = false
              ∧ (∃ r : BillingRecord, t.core.meter.openRec = some { record := r, closeRequested := false }
                  ∧ r.number = s.core.session.number + 1 ∧ r.continuation = 0 ∧ r.tag = held
                  ∧ r.mode = mode ∧ r.startTime = s.core.meter.time ∧ r.lines = [])
              ∧ t.core.meter.energy = 0 ∧ t.core.meter.remainders = 0
              ∧ t.core.link.postLimit = none ∧ t.core.link.heard = false
              ∧ t.core.mon.state = .selfTest ∧ t.core.mon.kind = some .session
          (s.env.cfg.authRequired = true → s.core.link.state ≠ .lost →
            Completes (.setDriverTag q tag.bytes) s fun t =>
              begun (some tag) none t ∧ t.core.session.state = .authorizing
                ∧ t.core.session.endReason = none ∧ t.core.session.faultsSeen = 0
                ∧ t.core.session.authGranted = false ∧ t.core.auth.state = .waiting
                ∧ t.core.auth.request = some
                    { number := s.core.session.number + 1
                      sendTime := s.core.meter.time
                      timer := some 10000 })
          ∧ (s.env.cfg.authRequired = false →
            Completes (.setDriverTag q tag.bytes) s fun t =>
              begun none (some .free) t ∧ t.core.session.state = .authorizing
                ∧ t.core.session.authGranted = true ∧ t.core.auth.state = .free
                ∧ t.core.auth.request = none
                ∧ hasBit t.core.notices.vehiclePending Notice.authResult.code = true)
          ∧ (s.env.cfg.authRequired = true → s.core.link.state = .lost →
              ((∃ a ∈ s.core.auth.allowList, a.tag = tag ∧ a.expired s.core.meter = false) →
                Completes (.setDriverTag q tag.bytes) s fun t =>
                  begun (some tag) (some .offline) t ∧ t.core.session.state = .authorizing
                    ∧ t.core.session.authGranted = true ∧ t.core.auth.state = .offline
                    ∧ t.core.auth.request = none
                    ∧ hasBit t.core.notices.vehiclePending Notice.authResult.code = true)
              ∧ ((∀ a ∈ s.core.auth.allowList, a.tag = tag → a.expired s.core.meter = true) →
                  s.core.session.contactor = .opened → s.env.mfe.detached = false →
                    Completes (.setDriverTag q tag.bytes) s fun t =>
                      t.core.session.number = s.core.session.number + 1
                        ∧ t.core.session.state = .closed
                        ∧ t.core.session.endReason = some .authRejected
                        ∧ t.core.auth.state = .refused ∧ t.core.auth.request = none
                        ∧ t.core.mon.state = .off
                        ∧ hasBit t.core.notices.vehiclePending Notice.authResult.code = true)))

/-- The verdicts of the post: an ACCEPT that completes the pair of facts closes the contactor; a REJECT ends the
session before energizing; a late ACCEPT marks the running record and changes nothing of the session; a late REJECT
stops a session with a closed contactor as AUTH-REVOKED, the mode staying OFFLINE; a verdict without a pending request
is a sign of the post alone (R26, R27, R51, R52, R54, R159). The command stands for the message's last frame, which is
the model's choice (log 6). -/
def Obligations.VerdictsDecideTheSession : Prop :=
  ∀ (n : Half) (echo : Tag) (p : PendingAuth) (s : State), s.core.up = true →
    (s.core.auth.request = some p → p.number = n → s.core.auth.sessionTag = some echo →
      (s.core.auth.state = .waiting → s.core.session.state = .authorizing →
        s.core.session.contactor = .opened →
          (s.core.session.selfTestPassed = true → s.env.mfe.aux.active = false →
            Completes (.authVerdict n echo 1) s fun t =>
              t.core.auth.state = .online ∧ t.core.auth.mode = some .online
                ∧ t.core.auth.request = none ∧ t.core.session.state = .authorizing
                ∧ t.core.session.contactor = .closing ∧ t.core.session.confirmTimer = some 100
                ∧ hasBit t.core.notices.vehiclePending Notice.authResult.code = true
                ∧ hasBit t.core.notices.fleetPending Notice.authResult.code = true
                ∧ t.lines.pilotLoad = true ∧ t.lines.contactorDrive = true
                ∧ t.core.link.state = .alive ∧ t.core.link.aliveTimer = some 5000)
          ∧ (s.env.mfe.detached = false → s.core.session.releaseSeen = false →
            Completes (.authVerdict n echo 2) s fun t =>
              t.core.auth.state = .refused ∧ t.core.auth.request = none
                ∧ t.core.session.state = .closed
                ∧ t.core.session.endReason = some .authRejected))
      ∧ (s.core.auth.state = .offline → s.core.session.state ≠ .attached →
          s.core.session.state ≠ .closed →
            Completes (.authVerdict n echo 1) s fun t =>
              t.core.session = s.core.session
                ∧ t.core.auth = { s.core.auth with
                    state := .online, mode := some .online, lateAccept := true, request := none }
                ∧ ∀ o, s.core.meter.openRec = some o → o.closeRequested = false →
                    t.core.meter = { s.core.meter with
                      openRec := some { o with
                        record := { o.record with mode := some .online, lateAccept := true } } })
      ∧ (s.core.auth.state = .offline →
          s.core.session.state = .preheat ∨ s.core.session.state = .charging
            ∨ s.core.session.state = .paused → s.core.session.contactor = .closed →
            Completes (.authVerdict n echo 2) s fun t =>
              StoppedOnCurrent .authRevoked t ∧ t.core.auth.state = .refused
                ∧ t.core.auth.request = none ∧ t.core.auth.mode = s.core.auth.mode
                ∧ hasBit t.core.notices.vehiclePending Notice.authResult.code = true
                ∧ hasBit t.core.notices.fleetPending Notice.authResult.code = true))
    ∧ (s.core.auth.request = none → s.core.session.state ≠ .attached →
        s.core.session.state ≠ .closed → ∀ verdict : Byte,
          exec (.authVerdict n echo verdict) s = .next (afterBlocks s
            { s.core with link := { s.core.link with
              asmVerdict := none, state := .alive, aliveTimer := some 5000 } }))

/-- The pending request that runs out in WAITING is decided from the allow-list as it stands: an unexpired entry with
the session tag grants OFFLINE and keeps the request without its timer; no such entry refuses the session. Entries
that are not expired stay (R53, R57). -/
def Obligations.TimeoutIsDecidedOffline : Prop :=
  ∀ (tag : Tag) (p : PendingAuth) (s : State), s.core.up = true →
    s.core.auth.state = .waiting → s.core.auth.request = some p → p.timer.isSome = true →
    s.core.auth.sessionTag = some tag → s.core.session.state = .authorizing →
      ((∃ a ∈ s.core.auth.allowList, a.tag = tag ∧ a.expired s.core.meter = false) →
        s.core.session.selfTestPassed = false →
          Completes .authTimerExpiry s fun t =>
            t.core.auth.state = .offline ∧ t.core.auth.mode = some .offline
              ∧ t.core.auth.request = some { p with timer := none }
              ∧ t.core.session = { s.core.session with authGranted := true }
              ∧ (∀ a ∈ t.core.auth.allowList, a ∈ s.core.auth.allowList)
              ∧ ∀ a ∈ s.core.auth.allowList, a.expired s.core.meter = false →
                  a ∈ t.core.auth.allowList)
      ∧ ((∀ a ∈ s.core.auth.allowList, a.tag = tag → a.expired s.core.meter = true) →
          s.core.session.contactor = .opened → s.env.mfe.detached = false →
          s.core.session.releaseSeen = false →
            Completes .authTimerExpiry s fun t =>
              t.core.auth.state = .refused ∧ t.core.auth.request = none
                ∧ t.core.session.state = .closed ∧ t.core.session.endReason = some .authRejected
                ∧ t.core.auth.allowList
                    = s.core.auth.allowList.filter fun a => !a.expired s.core.meter)

/-- CLEAR-WELD and CLEAR-INSULATION-FAULT: refused from AUTHORIZING to STOPPING; in a session at rest a CLEAR-WELD that
names a latch whose input is active is refused whole and clears neither latch, any other clears the latches it names,
and a FAULT becomes NO-RESULT; a latch mask that names none is BAD-REQUEST (R43, R120). That the counts stay without a
FAULT is the model's choice (log 43). -/
def Obligations.LatchesAreClearedByRequest : Prop :=
  ∀ (q mask : Byte) (s : State), VehicleTakes s →
    (hasBit mask 0 = false → hasBit mask 1 = false →
      exec (.clearWeld q [mask]) s = .next (afterVehicle s s.core 0x05 q .badRequest [] .none))
    ∧ (hasBit mask 0 = true ∨ hasBit mask 1 = true →
        (s.core.session.state.busy = true →
          exec (.clearWeld q [mask]) s = .next (afterVehicle s s.core 0x05 q .refusedState [] .none))
        ∧ (s.core.session.Rests →
            exec (.clearWeld q [mask]) s = .next (
              if (hasBit mask 0 = true ∧ s.env.mfe.aux.active = true)
                  ∨ (hasBit mask 1 = true ∧ s.env.mfe.fault.active = true) then
                afterVehicle s s.core 0x05 q .latchActive [] .none
              else
                afterVehicle s
                  { s.core with session := { s.core.session with
                    weldLatch := s.core.session.weldLatch && !hasBit mask 0
                    converterLatch := s.core.session.converterLatch && !hasBit mask 1 } }
                  0x05 q .ok [] .none)))
    ∧ (s.core.session.state.busy = true →
        exec (.clearInsulationFault q []) s
          = .next (afterVehicle s s.core 0x07 q .refusedState [] .none))
    ∧ (s.core.session.Rests →
        exec (.clearInsulationFault q []) s = .next (afterVehicle s
          { s.core with mon :=
            if s.core.mon.result = .fault then
              { s.core.mon with result := .noResult, faultResult := none, low := 0, good := 0 }
            else s.core.mon } 0x07 q .ok [] .none))

/-! ### The vehicle port -/

/-- Every request of the vehicle port that is taken consumes the held response, goes to PROCESSING with READY negated,
and is answered with its own type and sequence number and the pending set after its owner has acted; the fleet port
stays (R170, R171, R177). When the answer is held is the model's REQUEST_ANSWERED (log 3). -/
def Obligations.VehicleRequestsAreTaken : Prop :=
  ∀ (i : Instr) (k q : Byte) (c : List Byte) (s : State),
    i.vehicleHeader = some (k, q, c) → VehicleTakes s →
      Completes i s fun t =>
        t.fport = s.fport ∧ t.pending = s.pending
          ∧ ∃ status content action,
              t.vport = vportAfter s (respond .vehicle k q status t.core content) action

/-- A transaction begun with READY negated shifts out the BUSY filler with the pending set and takes no request; the
answer of a request in PROCESSING becomes the held response, with its deferred action, and READY is asserted. What a
transaction shifts out is its response byte by byte, and filler bytes of 0 past its end (R169, R170, R172). When the
answer is held is the model's choice (log 3), and so is that the answer to an ACK-NOTICES carries the pending set of
that event (log 50). -/
def Obligations.BusyUntilTheRequestIsAnswered : Prop :=
  (∀ s : State, s.core.up = true →
    (s.vport.ready = false →
      let busy : State :=
        { s with
          lines := linesOf s.core
          vport := { s.vport with
            shiftedOut := some
              { kind := 0, seq := 0, status := .busy, pending := s.core.notices.vehiclePending,
                content := [] } } }
      exec .busyTransaction s = .next busy
        ∧ (∀ bytes, exec (.unknownRequest .vehicle bytes) s = .next busy)
        ∧ ∀ i : Instr, i.vehicleHeader.isSome = true → exec i s = .next busy)
    ∧ ∀ (answer : Response) (action : DeferredAction), s.vport.slot = .processing answer action →
        exec .requestAnswered s = .next
          { s with
            lines := linesOf s.core
            vport := { s.vport with
              slot := .answered
              held := some (if answer.kind = 0x72 ∧ answer.status = .ok then
                { answer with pending := s.core.notices.vehiclePending, content := [] } else answer)
              deferred := action
              ready := true } })
    ∧ ∀ (v : VehiclePort) (r : Response) (i : Nat), v.shiftedOut = some r →
        (∀ b : Byte, (responseBytes r)[i]? = some b → shiftedByte v i = b)
          ∧ (7 + r.content.length ≤ i → shiftedByte v i = 0)

/-- RESET is answered OK with its deferred action, SLEEP as its conditions allow; the next transaction, whatever it
carries, collects the answer and releases the action: a RESET outside a session takes the COMMAND reset, a RESET in a
session with a closed contactor stops it and waits, a SLEEP in IDLE without a waking source enters SLEEP (R45, R172,
R187 to R189). The null response of an empty slot is the model's choice (log 30). -/
def Obligations.DeferredActionsAreReleased : Prop :=
  ∀ (q : Byte) (s : State),
    (VehicleTakes s →
      exec (.reset q []) s = .next (afterVehicle s s.core 0x0D q .ok [] .reset)
        ∧ exec (.sleep q []) s = .next (
            if s.core.session.state ≠ .idle then afterVehicle s s.core 0x0C q .refusedState [] .none
            else if wakingSources s.env.mfe s.fport ≠ 0 then
              afterVehicle s s.core 0x0C q .wakePending [wakingSources s.env.mfe s.fport] .none
            else afterVehicle s s.core 0x0C q .ok [] .sleep))
    ∧ (s.core.up = true → s.vport.ready = true →
        (s.vport.deferred ≠ .none → ∀ i : Instr, i.vehicleHeader.isSome = true →
          exec i s = exec .deferredActionRelease s)
        ∧ (s.vport.deferred = .reset →
            (s.core.session.state = .idle ∨ s.core.session.state = .attached
                ∨ s.core.session.state = .closed →
              Completes .deferredActionRelease s fun t =>
                t.env = s.env ∧ t.fport = s.fport ∧ t.pending = s.pending
                  ∧ t.core = { s.core with sup := { s.core.sup with
                      held := some .command, deferredReset := false } }
                  ∧ t.vport = { VehiclePort.reset with
                      ready := false
                      shiftedOut := some (s.vport.held.getD (nullResponse s.core)) })
            ∧ (s.core.session.state = .preheat ∨ s.core.session.state = .charging
                  ∨ s.core.session.state = .paused →
                s.core.session.contactor = .closed →
                  Completes .deferredActionRelease s fun t =>
                    StoppedOnCurrent .resetCommand t ∧ t.core.sup.deferredReset = true
                      ∧ t.core.sup.held = none ∧ t.vport.ready = true ∧ t.vport.deferred = .none))
        ∧ (s.vport.deferred = .sleep → s.core.session.state = .idle →
            wakingSources s.env.mfe s.fport = 0 →
              Completes .deferredActionRelease s fun t =>
                t.core.sup = { s.core.sup with power := .sleep } ∧ t.vport.ready = false
                  ∧ t.core.alloc.timer = none ∧ t.core.meter = { s.core.meter with timer := none }
                  ∧ t.core.link = Link.reset ∧ t.core.heater = Heater.reset
                  ∧ t.core.session = s.core.session ∧ t.core.auth = s.core.auth
                  ∧ t.core.queue = s.core.queue ∧ t.env.cfg = s.env.cfg ∧ t.env.table = s.env.table
                  ∧ t.env.mfe.published = none ∧ t.env.mfe.windowTimer = none
                  ∧ t.env.mfe.flap = s.env.mfe.flap ∧ t.fport = s.fport))

/-- During STARTING every request but IDENTIFY, on either port, is answered NOT-READY and reaches no owner (R172,
R177). That a fleet request is its frame's arrival, with its closing flag left in the FIFO, is the model's choice
(log 5), and so is the refusal without content (log 49). -/
def Obligations.StartingAnswersNotReady : Prop :=
  ∀ (i : Instr) (k q : Byte) (c : List Byte) (s : State),
    s.core.sup.held = none → s.core.sup.power = .starting → k ≠ 0x70 →
      (i.vehicleHeader = some (k, q, c) → s.vport.ready = true → s.vport.deferred = .none →
        exec i s = .next (afterVehicle s s.core k q .notReady [] .none))
      ∧ (i.fleetHeader = some (k, q, c) → s.fport.Free → FrameFits k q c →
        exec i s = .next (afterFleet s s.core c [] k q .notReady))

/-- The reads of the vehicle port answer OK with their layouts at their lengths and change nothing but the port and
the count of records with unstated bytes (log 11); IDENTIFY is answered on both ports in STARTING too, with the
revision code 0 until ACTIVE; the reset kind last taken is read with IDENTIFY and READ-STATUS; content where none is
allowed is BAD-REQUEST (R122, R165, R171, R177, R182, R184, R186). That the kind stands behind the 208 bytes of the
status record is the model's choice (log 44), and so are the closing flag that a fleet IDENTIFY leaves in the FIFO
(log 5) and the refusals without content (log 49). -/
def Obligations.VehicleReadsAnswerTheirLayouts : Prop :=
  ∀ (q : Byte) (s : State),
    let kind : Byte := match s.core.sup.kind with
      | .cold => 0
      | .warm => 1
      | .command => 2
    (VehicleTakes s →
      exec (.poll q []) s = .next (afterVehicle s s.core 0x01 q .ok [] .none)
        ∧ exec (.readConfig q []) s
            = .next (afterVehicle s s.core 0x0A q .ok (configContent s.env) .none)
        ∧ exec (.readStatus q []) s
            = .next (afterVehicle s s.core.draw 0x02 q .ok (statusRecord s.env s.core ++ [kind])
              .none)
        ∧ exec (.readInsulation q []) s
            = .next (afterVehicle s s.core.draw 0x08 q .ok (insulationContent s.env s.core) .none)
        ∧ ∀ (x : Byte) (rest : List Byte),
            exec (.poll q (x :: rest)) s = .next (afterVehicle s s.core 0x01 q .badRequest [] .none)
              ∧ exec (.readConfig q (x :: rest)) s
                  = .next (afterVehicle s s.core 0x0A q .badRequest [] .none)
              ∧ exec (.readStatus q (x :: rest)) s
                  = .next (afterVehicle s s.core 0x02 q .badRequest [] .none)
              ∧ exec (.readInsulation q (x :: rest)) s
                  = .next (afterVehicle s s.core 0x08 q .badRequest [] .none))
    ∧ (s.core.up = true → s.vport.ready = true → s.vport.deferred = .none →
        exec (.identify .vehicle q []) s
            = .next (afterVehicle s s.core 0x70 q .ok (identifyContent s.core.sup) .none)
          ∧ ∀ (x : Byte) (rest : List Byte), exec (.identify .vehicle q (x :: rest)) s
              = .next (afterVehicle s s.core 0x70 q .badRequest [] .none))
    ∧ (s.core.up = true → s.fport.Free →
        exec (.identify .fleet q []) s
            = .next (afterFleet s s.core [] (identifyContent s.core.sup) 0x70 q .ok)
          ∧ ∀ (x : Byte) (rest : List Byte), FrameFits 0x70 q (x :: rest) →
              exec (.identify .fleet q (x :: rest)) s
                = .next (afterFleet s s.core (x :: rest) [] 0x70 q .badRequest))
    ∧ (statusRecord s.env s.core).length = 208 ∧ (statusCore s.env s.core).length = 39
    ∧ (statusRecord s.env s.core).take 39 = statusCore s.env s.core
    ∧ (insulationContent s.env s.core).length = 44
    ∧ (s.env.table.length = 8 → (configContent s.env).length = 74)
    ∧ (identifyContent s.core.sup).length = 7
    ∧ (identifyContent s.core.sup)[4]? = some kind
    ∧ (leVal (((identifyContent s.core.sup).drop 2).take 2) = 0 ↔ s.core.sup.power = .starting)

/-- ACK-NOTICES removes each named notice from the pending set of the requesting master alone, with its detail, and
answers OK, the fleet response with the detail of WAKE that stays; ENABLE-NOTICES replaces that master's enable set by
the routed notices named; a mask of the wrong length is BAD-REQUEST. A posting at the moment of an acknowledgement,
taken after it, shows in the response already: the answer of the vehicle port when it is held, and that of the fleet
port at the end of its opening flag, carry the pending set as it then stands (R178 to R180). That the detail returned
is the one that stays is the model's choice (log 39), and so are the end of the moment (log 50), the fleet request's
arrival as one command with its closing flag left in the FIFO (log 5) and the refusal without content (log 49). -/
def Obligations.NoticesAreEnabledAndAcknowledged : Prop :=
  ∀ (q : Byte) (mask : Half) (s : State),
    (VehicleTakes s →
      exec (.ackNotices .vehicle q (le 2 mask.toNat)) s = .next (afterVehicle s
          { s.core with notices := { s.core.notices with
            vehiclePending := s.core.notices.vehiclePending &&& ~~~ mask
            sensorZones := if hasBit (s.core.notices.vehiclePending &&& ~~~ mask) 4
              then s.core.notices.sensorZones else 0
            txKinds := if hasBit (s.core.notices.vehiclePending &&& ~~~ mask) 6
              then s.core.notices.txKinds else 0
            vehicleWake := if hasBit (s.core.notices.vehiclePending &&& ~~~ mask) 13
              then s.core.notices.vehicleWake else 0 } } 0x72 q .ok [] .none)
        ∧ exec (.enableNotices .vehicle q (le 2 mask.toNat)) s = .next (afterVehicle s
          { s.core with notices := { s.core.notices with
            vehicleEnable := mask &&& vehicleRouted } } 0x71 q .ok [] .none)
        ∧ ∀ c : List Byte, c.length ≠ 2 →
            exec (.ackNotices .vehicle q c) s
                = .next (afterVehicle s s.core 0x72 q .badRequest [] .none)
              ∧ exec (.enableNotices .vehicle q c) s
                = .next (afterVehicle s s.core 0x71 q .badRequest [] .none))
    ∧ (∀ (pending : Half) (action : DeferredAction), s.core.up = true →
        s.vport.slot = .processing { kind := 0x72, seq := q, status := .ok, pending, content := [] } action →
          exec .requestAnswered s = .next
            { s with
              lines := linesOf s.core
              vport := { s.vport with
                slot := .answered
                held := some { kind := 0x72, seq := q, status := .ok
                               pending := s.core.notices.vehiclePending, content := [] }
                deferred := action
                ready := true } })
    ∧ (∀ (pending : Half) (content bytes : List Byte), s.core.up = true → s.pending = [] →
        s.fport.paused = false →
        s.fport.transmit = some { bytes, next := 1, sending := true
                                  forming := some { kind := 0x72, seq := q, status := .ok, pending, content } } →
          step s = .next { s with fport := { s.fport with
            transmit := some
              { bytes := frameOf (responseBytes
                  { kind := 0x72, seq := q, status := .ok, pending := s.core.notices.fleetPending
                    content := [s.core.notices.fleetWake] })
                next := 2
                sending := true
                forming := none } } })
    ∧ (FleetTakes s →
        (∀ wake : Byte,
          wake = (if hasBit (s.core.notices.fleetPending &&& ~~~ mask) 13
            then s.core.notices.fleetWake else 0) →
          exec (.ackNotices .fleet q (le 2 mask.toNat)) s = .next (afterFleet s
            { s.core with notices := { s.core.notices with
              fleetPending := s.core.notices.fleetPending &&& ~~~ mask
              fleetWake := wake } } (le 2 mask.toNat) [wake] 0x72 q .ok))
        ∧ exec (.enableNotices .fleet q (le 2 mask.toNat)) s = .next (afterFleet s
          { s.core with notices := { s.core.notices with
            fleetEnable := mask &&& fleetRouted } } (le 2 mask.toNat) [] 0x71 q .ok)
        ∧ ∀ c : List Byte, c.length ≠ 2 →
            (FrameFits 0x72 q c → exec (.ackNotices .fleet q c) s
                = .next (afterFleet s s.core c [] 0x72 q .badRequest))
              ∧ (FrameFits 0x71 q c → exec (.enableNotices .fleet q c) s
                = .next (afterFleet s s.core c [] 0x71 q .badRequest)))

/-- A configuration record within its ranges that is written as READ-CONFIG returns it is taken as it stands, whatever
record stood before, and the fields a mask does not name stay; a value outside its range is brought to the nearer end
and answered CLAMPED; an enumerated code outside its set and a wrong length are BAD-REQUEST. A temperature table that
ascends is taken, one that does not is BAD-TABLE. From AUTHORIZING to STOPPING both are refused, but for a write that
names only the two ohms-per-volt values, which is taken in every state (R121, R182, R183, section 12.3). -/
def Obligations.ConfigurationWritesReadBack : Prop :=
  ∀ (q : Byte) (before g : ConfigRecord) (rows : List TempRow) (s : State), g.InRange →
    rows.length = 8 → (∀ r ∈ rows, r.InRange) →
      configOperand before (le 4 0x1FFFFF ++ configFields g) = some (List.range 21, g, false)
      ∧ (VehicleTakes s → s.core.session.Rests →
          exec (.writeConfig q (le 4 0x1FFFFF ++ configFields g)) s = .next
            { afterVehicle s s.core 0x09 q .ok [] .none with env := { s.env with cfg := g } }
          ∧ (∀ v : Nat, v < 65536 →
              exec (.writeConfig q (le 4 (2 ^ 3) ++ le 2 v)) s = .next
                { afterVehicle s s.core 0x09 q
                    (if v < 1000 ∨ 22000 < v then .clamped else .ok) [] .none with
                  env := { s.env with cfg := { s.env.cfg with pCfg := max 1000 (min 22000 v) } } }
              ∧ exec (.writeConfig q (le 4 (2 ^ 2) ++ le 2 v)) s = .next
                { afterVehicle s s.core 0x09 q
                    (if v = 1 ∨ v = 3 then .ok else .clamped) [] .none with
                  env := { s.env with cfg := { s.env.cfg with phases := if v ≤ 1 then 1 else 3 } } }
              ∧ (1 < v → exec (.writeConfig q (le 4 (2 ^ 0) ++ le 2 v)) s = .next
                (afterVehicle s s.core 0x09 q .badRequest [] .none)))
          ∧ (∀ c : List Byte, c.length ≠ 2 →
              exec (.writeConfig q (le 4 (2 ^ 3) ++ c)) s = .next
                (afterVehicle s s.core 0x09 q .badRequest [] .none))
          ∧ ((rows.map (·.breakpoint)).Pairwise (· < ·) →
              exec (.writeTempTable q (rows.flatMap TempRow.bytes)) s = .next
                { afterVehicle s s.core 0x0B q .ok [] .none with env := { s.env with table := rows } })
          ∧ (¬ (rows.map (·.breakpoint)).Pairwise (· < ·) →
              exec (.writeTempTable q (rows.flatMap TempRow.bytes)) s = .next
                (afterVehicle s s.core 0x0B q .badTable [] .none)))
      ∧ (VehicleTakes s → s.core.session.Rests ∨ s.core.session.state.busy = true →
          ∀ a b : Nat, a < 65536 → b < 65536 →
            exec (.writeConfig q (le 4 (2 ^ 12 + 2 ^ 13) ++ le 2 a ++ le 2 b)) s = .next
              { afterVehicle s s.core 0x09 q
                  (if a < 100 ∨ 2000 < a ∨ b < 50 ∨ 1000 < b then .clamped else .ok) [] .none with
                env := { s.env with cfg := { s.env.cfg with
                  warnOhms := max 100 (min 2000 a), faultOhms := max 50 (min 1000 b) } } })
      ∧ (VehicleTakes s → s.core.session.state.busy = true →
          exec (.writeConfig q (le 4 0x1FFFFF ++ configFields g)) s = .next
            (afterVehicle s s.core 0x09 q .refusedState [] .none)
          ∧ (∀ v : Nat, v < 65536 → exec (.writeConfig q (le 4 (2 ^ 3) ++ le 2 v)) s = .next
              (afterVehicle s s.core 0x09 q .refusedState [] .none))
          ∧ exec (.writeTempTable q (rows.flatMap TempRow.bytes)) s = .next
            (afterVehicle s s.core 0x0B q .refusedState [] .none))

/-- A request that its port refuses is answered BAD-REQUEST by the port itself with the type and sequence number that
came, 0 for bytes that did not, and reaches no owner; on the fleet port fewer bytes than a header are ignored. On the
vehicle port the bytes beyond a request's own length are ignored: the transaction is that request's (R169, R171, R174,
R176). The commands stand for the frame's arrival, which is the model's choice (log 5), and so is the refusal without
content (log 49); that bytes beyond the length are no difference of R171 is its reading (log 45). -/
def Obligations.UnknownRequestsAreRefusedByThePort : Prop :=
  (∀ (bytes : List Byte) (s : State),
    (VehicleTakes s → headerAccepted .vehicle bytes = false →
      exec (.unknownRequest .vehicle bytes) s = .next
        (afterVehicle s s.core (bytes.getD 0 0) (bytes.getD 1 0) .badRequest [] .none))
    ∧ (FleetTakes s → headerAccepted .fleet bytes = false →
        (4 ≤ bytes.length → (frameOf bytes).length ≤ 64 →
          exec (.unknownRequest .fleet bytes) s = .next
            (afterFleet s s.core (bytes.drop 4) [] (bytes.getD 0 0) (bytes.getD 1 0) .badRequest))
        ∧ (bytes.length < 4 → exec (.unknownRequest .fleet bytes) s = .next (State.settle
          { s with fport := { s.fport with fifo := [0x7E], rx := .inFrame } }))))
    ∧ ∀ (i : Instr) (k q : Byte) (c extra : List Byte) (s : State),
        i.vehicleHeader = some (k, q, c) → c.length < 65536 →
          exec (.unknownRequest .vehicle (requestBytes k q c ++ extra)) s = exec i s

/-! ### The fleet port -/

/-- Every request of the fleet port that arrives while none is outstanding is taken and its response goes out, with
its own type and sequence number and the fleet master's pending set after the owner has acted; while one is
outstanding its frame waits in the FIFO and nothing else changes; a frame of more than 62 bytes between its flags is
never received and gets no response (R175 to R177; log 5 for the request as one command, log 23 for what the overflow
leaves). -/
def Obligations.FleetRequestsAreTakenOrWait : Prop :=
  ∀ (i : Instr) (k q : Byte) (c : List Byte) (s : State), i.fleetHeader = some (k, q, c) →
    (FleetTakes s → FrameFits k q c → Completes i s fun t =>
      t.env = s.env ∧ t.pending = s.pending
        ∧ ∃ status content, t.fport = fportAfter s c (respond .fleet k q status t.core content))
    ∧ (FleetTakes s → ¬ FrameFits k q c → exec i s = .next (State.settle
        { s with fport := { s.fport with
          fifo := if (frameOf (requestBytes k q c)).length = 65 then [] else [0x7E]
          rx := if (frameOf (requestBytes k q c)).length = 65 then .discard else .inFrame } }))
    ∧ (s.core.up = true → s.fport.outstanding.isSome = true →
        exec i s = .next (State.settle
          { s with fport := receiveBytes (frameOf (requestBytes k q c)) s.fport }))

/-- READ-OLDEST-RECORD, READ-OPEN-RECORD and ALLOW-READ answer with what is held and change nothing but the port; the
oldest record is the head of the queue, or the held record of an empty queue; a field makes each BAD-REQUEST
(R60, R144, R147, R150). That a request is its frame's arrival, with its closing flag left in the FIFO, is the model's
choice (log 5), and so is the refusal without content (log 49). -/
def Obligations.FleetReadsChangeNothing : Prop :=
  ∀ (q : Byte) (s : State), FleetTakes s →
    (∀ (r : BillingRecord) (rest : List BillingRecord), s.core.queue.queue = r :: rest →
      exec (.readOldestRecord q []) s = .next (afterFleet s s.core []
        (closedBytes r ++ (field 1 (rest.length + 1) ++ boolField s.core.queue.held.isSome)) 0x40 q .ok))
    ∧ (∀ r : BillingRecord, s.core.queue.queue = [] → s.core.queue.held = some r →
        exec (.readOldestRecord q []) s = .next (afterFleet s s.core []
          (closedBytes r ++ [0, 1]) 0x40 q .ok))
    ∧ (s.core.queue.queue = [] → s.core.queue.held = none →
        exec (.readOldestRecord q []) s = .next (afterFleet s s.core [] [0, 0] 0x40 q .queueEmpty))
    ∧ exec (.readOpenRecord q []) s = .next
        (afterFleet s s.core [] (openContent s.core.meter.openRec) 0x42 q .ok)
    ∧ exec (.allowRead q []) s = .next (afterFleet s s.core []
        (field 1 s.core.auth.allowList.length ++ s.core.auth.allowList.flatMap allowEntryBytes) 0x47 q .ok)
    ∧ ∀ (x : Byte) (c : List Byte), c.length < 25 →
        exec (.readOldestRecord q (x :: c)) s
            = .next (afterFleet s s.core (x :: c) [] 0x40 q .badRequest)
          ∧ exec (.readOpenRecord q (x :: c)) s
            = .next (afterFleet s s.core (x :: c) [] 0x42 q .badRequest)
          ∧ exec (.allowRead q (x :: c)) s
            = .next (afterFleet s s.core (x :: c) [] 0x47 q .badRequest)

/-- RELEASE-RECORD removes the oldest record when its pair names it, and promotes a held record; any other pair is
NOT-OLDEST, an empty queue QUEUE-EMPTY, a wrong length BAD-REQUEST, and nothing is removed. A close that waits for the
room is placed at the same event, and the session hears of it and leaves CLOSED, to IDLE on a detachment, else to
ATTACHED once the vehicle has released; in HELD the room lets the meter split the folded record, priced line by line,
and BILLING-HOLD is released (R40, R136, R138, R140, R145, R148, R149). That a request is its frame's arrival, with its
closing flag left in the FIFO, is the model's choice (log 5), and so is QUEUE-EMPTY without the occupancy bytes
(log 49). -/
def Obligations.ReleaseRemovesTheOldestRecord : Prop :=
  ∀ (q k : Byte) (n : Half) (s : State), FleetTakes s →
    (∀ c : List Byte, c.length ≠ 3 → FrameFits 0x41 q c →
      exec (.releaseRecord q c) s = .next (afterFleet s s.core c [] 0x41 q .badRequest))
    ∧ (s.core.queue.oldest = none →
        exec (.releaseRecord q (le 2 n.toNat ++ [k])) s
          = .next (afterFleet s s.core (le 2 n.toNat ++ [k]) [] 0x41 q .queueEmpty))
    ∧ ∀ r : BillingRecord, s.core.queue.oldest = some r →
        (¬ (r.number = n ∧ r.continuation = k.toNat) →
          exec (.releaseRecord q (le 2 n.toNat ++ [k])) s
            = .next (afterFleet s s.core (le 2 n.toNat ++ [k]) [] 0x41 q .notOldest))
        ∧ (r.number = n → r.continuation = k.toNat → s.core.session.state ≠ .attached →
            (s.core.meter.openRec = none → s.core.session.state ≠ .closed →
              exec (.releaseRecord q (le 2 n.toNat ++ [k])) s = .next (afterFleet s
                { s.core with queue :=
                  if s.core.queue.queue = [] then { queue := [], held := none }
                  else { queue := s.core.queue.queue.tail ++ s.core.queue.held.toList, held := none } }
                (le 2 n.toNat ++ [k]) [] 0x41 q .ok))
            ∧ (∀ o : OpenRecord, s.core.meter.openRec = some o →
                s.core.queue.queue.length = 8 → s.core.queue.held.isSome = true →
                (o.closeRequested = true → s.core.session.state = .closed →
                  let placed (t : State) : Prop :=
                    t.core.queue.queue = s.core.queue.queue.tail ++ s.core.queue.held.toList
                      ∧ t.core.queue.held = some o.record ∧ t.core.meter.openRec = none
                      ∧ t.core.session.closePending = false
                      ∧ hasBit t.core.notices.fleetPending Notice.recordReady.code = true
                  (s.env.mfe.detached = false → s.core.session.releaseSeen = false →
                    Completes (.releaseRecord q (le 2 n.toNat ++ [k])) s fun t =>
                      placed t ∧ t.core.session = { s.core.session with closePending := false })
                  ∧ (s.env.mfe.detached = true →
                      Completes (.releaseRecord q (le 2 n.toNat ++ [k])) s fun t =>
                        placed t ∧ t.core.session.state = .idle
                          ∧ t.core.session.endReason = s.core.session.endReason
                          ∧ t.core.session.monitorFailure = false
                          ∧ t.core.auth.driverTag = none ∧ t.core.auth.state = .inactive
                          ∧ t.core.link.statusTimer = none)
                  ∧ (s.env.mfe.detached = false → s.core.session.releaseSeen = true →
                      s.core.session.chargeEnable = false → s.core.session.heatEnable = false →
                        Completes (.releaseRecord q (le 2 n.toNat ++ [k])) s fun t =>
                          placed t ∧ t.core.session.state = .attached
                            ∧ t.core.session.endReason = s.core.session.endReason
                            ∧ t.core.auth.driverTag = s.core.auth.driverTag))
                ∧ (o.closeRequested = false → s.core.meter.held = true →
                    s.core.session.state = .paused →
                      Completes (.releaseRecord q (le 2 n.toNat ++ [k])) s fun t =>
                        t.core.queue.queue = s.core.queue.queue.tail ++ s.core.queue.held.toList
                          ∧ (∃ x : BillingRecord, t.core.queue.held = some x
                              ∧ PricedFrom o.record.lines x ∧ x.number = o.record.number
                              ∧ x.continuation = o.record.continuation ∧ x.endReason = some .split)
                          ∧ (∃ x : BillingRecord,
                              t.core.meter.openRec = some { record := x, closeRequested := false }
                              ∧ x.number = o.record.number ∧ x.mode = o.record.mode
                              ∧ x.continuation = o.record.continuation + 1 ∧ x.lines = []
                              ∧ x.startTime = s.core.meter.time)
                          ∧ t.core.meter.held = false
                          ∧ t.core.session.pauseCauses
                              = putBit s.core.session.pauseCauses PauseCause.billingHold.code false
                          ∧ (t.core.session.state = .paused ↔ t.core.session.pauseCauses ≠ 0))))

/-- A set of the time counter by the fleet: refused while the open record is ONLINE; otherwise it writes the value,
makes the time valid with source FLEET, and is a step when a valid time differed by more than 60 s. SET-SPEND-CAP
stores the cap up to 1,000,000 (R127, R128, R130, R141). That a request is its frame's arrival, with its closing flag
left in the FIFO, is the model's choice (log 5). -/
def Obligations.FleetSetsTimeAndCap : Prop :=
  ∀ (q : Byte) (w : Word) (n : Nat) (s : State), FleetTakes s → n < 2 ^ 32 →
    (s.core.meter.timeOwned = true →
      exec (.setTime q (le 4 w.toNat)) s
        = .next (afterFleet s s.core (le 4 w.toNat) [] 0x43 q .timeOwned))
    ∧ (s.core.meter.timeOwned = false → Completes (.setTime q (le 4 w.toNat)) s fun t =>
        t.core.meter = { s.core.meter with
            time := w
            timeValid := true
            source := .fleet
            openRec := t.core.meter.openRec }
          ∧ t.core.session = s.core.session ∧ t.core.queue = s.core.queue
          ∧ t.fport = fportAfter s (le 4 w.toNat) (respond .fleet 0x43 q .ok t.core [])
          ∧ (s.core.meter.timeValid = true →
              w.toNat + 60 < s.core.meter.time.toNat ∨ s.core.meter.time.toNat + 60 < w.toNat →
              hasBit t.core.notices.fleetPending Notice.timeStep.code = true
                ∧ ∀ o, s.core.meter.openRec = some o → o.closeRequested = false →
                    t.core.meter.openRec
                      = some { o with record := { o.record with timeStep := true } })
          ∧ (¬ (s.core.meter.timeValid = true ∧
              (w.toNat + 60 < s.core.meter.time.toNat ∨ s.core.meter.time.toNat + 60 < w.toNat)) →
              t.core.meter.openRec = s.core.meter.openRec ∧ t.core.notices = s.core.notices))
    ∧ exec (.setSpendCap q (le 4 n)) s = .next (afterFleet s
        { s.core with meter := { s.core.meter with spendCap := min 1000000 n } } (le 4 n) [] 0x44 q
        (if 1000000 < n then .clamped else .ok))

/-- ALLOW-ADD: every other expired entry is removed; an existing entry keeps its place and takes the new expiry; a new
one is appended while fewer than 16 remain; otherwise LIST-FULL, and the removals stand. A request of wrong length is
BAD-REQUEST and examines nothing (R58). What the request leaves in the FIFO, and its response on its way, rest on R176
and R177 and on the frame's arrival as one command, which is the model's choice (log 5). -/
def Obligations.AllowAddKeepsOnePlacePerTag : Prop :=
  ∀ (q : Byte) (tag : Tag) (expiry : Option Word) (s : State), FleetTakes s →
    (∀ c : List Byte, c.length ≠ 8 → c.length ≠ 12 → FrameFits 0x45 q c →
      exec (.allowAdd q c) s = .next (afterFleet s s.core c [] 0x45 q .badRequest))
    ∧ (let content := tag.bytes ++ (match expiry with
          | some x => le 4 x.toNat
          | none => [])
        let kept := s.core.auth.allowList.filter fun a => a.tag = tag || !a.expired s.core.meter
        let after (l : List AllowEntry) : Core :=
          { s.core with auth := { s.core.auth with allowList := l } }
        exec (.allowAdd q content) s = .next (
          if ∃ a ∈ s.core.auth.allowList, a.tag = tag then
            afterFleet s (after (kept.map fun a => if a.tag = tag then { tag := tag, expiry := expiry } else a))
              content [] 0x45 q .ok
          else if kept.length < 16 then
            afterFleet s (after (kept ++ [{ tag := tag, expiry := expiry }])) content [] 0x45 q .ok
          else afterFleet s (after kept) content [] 0x45 q .listFull))

/-- ALLOW-REMOVE: the entry with the tag is removed whether or not it is expired, every other expired entry too, and
the rest keep their order; without such an entry the request is NOT-FOUND and the removals stand; a wrong length is
BAD-REQUEST (R59). What the request leaves in the FIFO, and its response on its way, rest on R176 and R177 and on the
frame's arrival as one command, which is the model's choice (log 5). -/
def Obligations.AllowRemoveTakesTheTagAndTheExpired : Prop :=
  ∀ (q : Byte) (tag : Tag) (s : State), FleetTakes s →
    exec (.allowRemove q tag.bytes) s = .next (afterFleet s
      { s.core with auth := { s.core.auth with
          allowList := s.core.auth.allowList.filter
            (fun a => a.tag ≠ tag && !a.expired s.core.meter) } }
      tag.bytes [] 0x46 q
      (if ∃ a ∈ s.core.auth.allowList, a.tag = tag then .ok else .notFound))
    ∧ ∀ c : List Byte, c.length ≠ 8 → FrameFits 0x46 q c →
        exec (.allowRemove q c) s = .next (afterFleet s s.core c [] 0x46 q .badRequest)

/-- The bytes of the fleet port, while they complete no frame that could be taken: XON and XOFF set the flow state and
are not stored, and an XON makes a stopped transmitter resume with its next byte; a byte is stored or dropped as the
receive state and the 64 places of the FIFO say; a framing error drops the partial frame; the end of a response leaves
no request outstanding, and a transmitter stopped in PAUSED does not reach it (R173 to R176). What a drop leaves
without a complete frame is the model's choice (log 23), and so is the transmitter's pace (log 26). -/
def Obligations.FleetBytesFollowTheReceiveState : Prop :=
  ∀ (b : Byte) (s : State), s.core.up = true →
    (s.fport.outstanding.isSome = true ∨ headFrame s.fport.fifo = none →
      exec .xoff s = .next (State.settle { s with fport := { s.fport with paused := true } })
        ∧ (s.fport.transmit = none ∨ (∃ x, s.fport.transmit = some x ∧ x.sending = true) →
            exec .xon s = .next (State.settle { s with fport := { s.fport with paused := false } }))
        ∧ ∀ x : TxProgress, s.fport.transmit = some x → x.sending = false →
            x.next < x.bytes.length →
              exec .xon s = .next (State.settle { s with fport := { s.fport with
                paused := false
                transmit := some { x with next := x.next + 1, sending := true } } }))
    ∧ exec (.fleetByteReceived 0x11) s = exec .xon s
    ∧ exec (.fleetByteReceived 0x13) s = exec .xoff s
    ∧ exec .framingError s = .next (State.settle
        { s with fport := { s.fport with fifo := completePart s.fport.fifo, rx := .discard } })
    ∧ (b ≠ 0x11 → b ≠ 0x13 →
        s.fport.outstanding.isSome = true ∨ headFrame (receiveByte b s.fport).fifo = none →
          exec (.fleetByteReceived b) s = .next (State.settle { s with fport :=
            if s.fport.rx ≠ .inFrame ∧ b ≠ 0x7E then s.fport
            else if s.fport.fifo.length < 64 then
              { s.fport with fifo := s.fport.fifo ++ [b], rx := .inFrame }
            else { s.fport with fifo := completePart s.fport.fifo, rx := .discard } }))
    ∧ (∀ x : TxProgress, s.fport.outstanding.isSome = true → s.fport.transmit = some x →
        (s.fport.paused = false ∨ (x.sending = true ∧ x.next = x.bytes.length) →
          headFrame s.fport.fifo = none →
            exec .fleetResponseSent s = .next (State.settle
              { s with fport := { s.fport with outstanding := none, transmit := none } }))
        ∧ (s.fport.paused = true → ¬ (x.sending = true ∧ x.next = x.bytes.length) →
            exec .fleetResponseSent s = .next s.settle))

/-- Framing and unframing agree: what stands between the flags of a frame is the body again, with its check, and no
byte of a frame is a flow byte (R174, R176, R193). -/
def Obligations.FramesReadBack : Prop :=
  ∀ body : List Byte, 4 ≤ body.length →
    (∃ inner, headFrame (frameOf body) = some (inner, [0x7E]) ∧ frameBody inner = some body)
      ∧ ∀ b ∈ frameOf body, b ≠ 0x11 ∧ b ≠ 0x13

/-- A request's frame received byte by byte brings about what the request's own command does, and a frame that waited
in the FIFO is taken when the response before it has been sent: the commands of the fleet port's requests are the
taking of their frames (R174, R176, R177; log 5). -/
def Obligations.FrameBytesBringTheRequest : Prop :=
  ∀ (i : Instr) (k q : Byte) (c : List Byte) (s : State), i.fleetHeader = some (k, q, c) →
    FrameFits k q c → s.fport.rx = .inFrame → s.settle = s →
      (FleetTakes s → s.fport.fifo = [0x7E] →
        execAll ((frameOf (requestBytes k q c)).map fun b => .fleetByteReceived b) s = exec i s)
      ∧ (s.core.sup.held = none → s.core.sup.power = .active → s.fport.paused = false →
          s.fport.outstanding.isSome = true → s.fport.fifo = frameOf (requestBytes k q c) →
            exec .fleetResponseSent s = exec i
              { s with fport := { s.fport with
                fifo := [0x7E], outstanding := none, transmit := none } })

/-! ### Allocator and heater -/

/-- The inlet terms of an allocation and the term that binds: P_pilot from a valid offer, P_cable from the cable's
rating, P_post from a limit heard in this session, held to the fallback once it is stale, P_spend from cap and price,
each with the inlet voltage published last, 0 before the first. The smallest term that has a value is the inlet limit
before derating, and of terms that share it the binding limit names the first in the order PILOT, CABLE, POST, SPEND,
CONFIG (R65 to R69). -/
def Obligations.SmallestTermBinds : Prop :=
  (∀ (pilot cable cfg : Nat) (post spend : Option Nat) (v : Nat) (b : Binding),
    smallestTerm pilot cable post spend cfg = (v, b) →
      (v ≤ pilot ∧ v ≤ cable ∧ v ≤ cfg ∧ (∀ x, post = some x → v ≤ x) ∧ ∀ x, spend = some x → v ≤ x)
        ∧ (b = .pilot ↔ pilot = v)
        ∧ (b = .cable ↔ pilot ≠ v ∧ cable = v)
        ∧ (b = .post ↔ pilot ≠ v ∧ cable ≠ v ∧ post = some v)
        ∧ (b = .spend ↔ pilot ≠ v ∧ cable ≠ v ∧ post ≠ some v ∧ spend = some v)
        ∧ (b = .config ↔ pilot ≠ v ∧ cable ≠ v ∧ post ≠ some v ∧ spend ≠ some v ∧ cfg = v))
    ∧ ∀ (e : Env) (c : Core) (r : AllocRecord) (vIn : Nat), r = limitRecord e c →
        vIn = (match e.mfe.published with
          | some p => p.vIn
          | none => 0) →
          r.pPilot = (if e.mfe.offerValid = true then e.mfe.offer * vIn * e.cfg.phases / 100 else 0)
            ∧ (∀ k : CableCode, e.mfe.cable = some k → r.pCable = k.ampere * vIn * e.cfg.phases / 10)
            ∧ (e.mfe.cable = none → r.pCable = 0)
            ∧ (c.link.heard = false ∨ c.link.postLimit = none → r.pPost = none)
            ∧ (∀ limit : Nat, c.link.heard = true → c.link.postLimit = some limit →
                r.pPost = some (if c.link.postValid = true then limit * 10
                  else min (limit * 10) e.cfg.fallback))
            ∧ (c.meter.spendCap = 0 ∨ currentPrice e.cfg c.meter = 0 → r.pSpend = none)
            ∧ (0 < c.meter.spendCap → 0 < currentPrice e.cfg c.meter →
                r.pSpend = some (c.meter.spendCap * 1000 / currentPrice e.cfg c.meter))
            ∧ r.pCfg = e.cfg.pCfg
            ∧ ∃ v, smallestTerm r.pPilot r.pCable r.pPost r.pSpend r.pCfg = (v, r.binding)

/-- The stages of an allocation: the derating by the insulation result, the output available, the demands with the
current of the temperature table's row, the priority in PREHEAT and in CHARGING, the rounding to 10 W, with both
allocations together within P_out, and the ramp of 1,000 W from its base, an increase held as pending while the quiet
window is open (R70 to R79). -/
def Obligations.AllocationsShareTheOutput : Prop :=
  ∀ (immediate : Bool) (e : Env) (c : Core) (r l : AllocRecord) (term : Nat),
    r = fullRecord immediate e c → l = limitRecord e c →
    term = (smallestTerm (pilotTerm e) (cableTerm e) (postTerm e c.link) (spendTerm e c.meter)
      e.cfg.pCfg).1 →
      (c.mon.result = .noResult ∨ c.mon.result = .ok → l.derating = .none ∧ l.pInLim = term)
        ∧ (c.mon.result = .warn → l.derating = .halved ∧ l.pInLim = term / 2)
        ∧ (c.mon.result = .fault → l.derating = .zero ∧ l.pInLim = 0)
        ∧ r.derating = l.derating ∧ r.pInLim = l.pInLim
        ∧ l.pOut = l.pInLim * e.cfg.eta / 1000 ∧ r.pOut = r.pInLim * e.cfg.eta / 1000
        ∧ l.pChgAlloc = 0 ∧ l.pHeatAlloc = 0
        ∧ (e.mfe.tMin = none → r.iTab = 0)
        ∧ (∀ t : Int, e.mfe.tMin = some t → (∀ row ∈ e.table, t < row.breakpoint) → r.iTab = 0)
        ∧ (∀ (t : Int) (i : Nat) (row : TempRow), e.mfe.tMin = some t →
            (e.table.map (·.breakpoint)).Pairwise (· < ·) → e.table[i]? = some row →
            row.breakpoint ≤ t → (∀ next, e.table[i + 1]? = some next → t < next.breakpoint) →
              r.iTab = row.current)
        ∧ (c.session.state = .preheat ∨ c.session.chargeEnable = false ∨ e.mfe.vBus? = none →
            r.pChgReq = 0)
        ∧ (∀ (req : ChargeRequest) (v : Nat), c.session.state ≠ .preheat →
            c.session.request = some req → req.chargeEnable = true → e.mfe.vBus? = some v →
              r.pChgReq = if req.vTarget ≤ v then 0 else min req.iReq r.iTab * v / 100)
        ∧ r.pHeatReq = (if c.session.heatEnable = true then c.heater.demand * e.cfg.pSeg / 64 else 0)
        ∧ (c.session.state = .preheat →
            r.pChgAlloc = 0 ∧ r.pHeatAlloc = min r.pHeatReq r.pOut / 10 * 10)
        ∧ (c.session.state = .charging → ∀ h1 chg : Nat,
            h1 = min (min r.pHeatReq e.cfg.reserve) r.pOut → chg = min r.pChgReq (r.pOut - h1) →
              r.pChgAlloc = chg / 10 * 10
                ∧ r.pHeatAlloc = (h1 + min (r.pHeatReq - h1) (r.pOut - h1 - chg)) / 10 * 10)
        ∧ r.pChgAlloc + r.pHeatAlloc ≤ r.pOut
        ∧ ∀ base target : Nat,
            base = (if c.alloc.record.rampValid = true then c.alloc.record.pChgCmd else 0) →
            target = (if immediate = true then min r.pChgAlloc base
              else min r.pChgAlloc (base + 1000)) →
              (target ≤ base ∨ c.mon.window = false →
                r.pChgCmd = target ∧ r.pendingIncrease = none)
              ∧ (base < target → c.mon.window = true →
                  r.pChgCmd = base ∧ r.pendingIncrease = some target)
              ∧ r.rampValid = true
              ∧ (c.mon.result ≠ .fault → r.command = r.pChgCmd + r.pHeatAlloc)
              ∧ (c.mon.result = .fault → r.command = 0)

/-- The allocation timer: a zero allocation in the states without power, a limit-only one in AUTHORIZING and PAUSED, a
full one in PREHEAT and CHARGING, each replacing the whole record, handing P_heat_alloc to the heater and restarting
the timer. The report of P_in_lim sets or clears LIMIT-ZERO: at 0 it pauses PREHEAT and CHARGING, and PAUSED is left
when no cause stays (R30, R62, R69, R82). The allocation held in OFF is the model's choice (log 17), and so is I_tab 0
in a limit-only allocation (log 40). -/
def Obligations.AllocationTimerReplacesTheRecord : Prop :=
  ∀ s : State, s.core.up = true → s.core.alloc.timer.isSome = true →
    (s.core.heater.run = .off →
      s.core.session.state = .idle ∨ s.core.session.state = .attached
          ∨ s.core.session.state = .stopping ∨ s.core.session.state = .closed →
        exec .allocationTimerExpiry s = .next (afterBlocks s
          { s.core with
            alloc := { timer := some 100, record := AllocRecord.zero }
            heater := { s.core.heater with lastHanded := 0, held := 0 } }))
    ∧ (∀ causes : Byte, s.core.heater.run = .off →
        causes = putBit s.core.session.pauseCauses PauseCause.limitZero.code
          ((limitRecord s.env s.core).pInLim == 0) →
        s.core.session.state = .authorizing ∨ (s.core.session.state = .paused ∧ causes ≠ 0) →
        exec .allocationTimerExpiry s = .next (afterBlocks s
          { s.core with
            alloc := { timer := some 100, record := limitRecord s.env s.core }
            heater := { s.core.heater with lastHanded := 0, held := 0 }
            session := { s.core.session with pauseCauses := causes } }))
    ∧ (s.core.session.state = .paused → 0 < (limitRecord s.env s.core).pInLim →
        putBit s.core.session.pauseCauses PauseCause.limitZero.code false = 0 →
          Completes .allocationTimerExpiry s fun t =>
            t.core.session.pauseCauses = 0 ∧ t.core.session.pauseTimer = none
              ∧ t.core.session.state =
                (if s.core.session.chargeEnable = true
                    ∧ ∃ v : Int, s.env.mfe.tMin = some v ∧ s.env.cfg.permitTemp ≤ v then .charging
                else .preheat)
              ∧ t.core.session.contactor = s.core.session.contactor)
    ∧ (s.core.session.state.powered = true → s.core.session.pauseCauses = 0 →
        (0 < (fullRecord false s.env s.core).pInLim →
          Completes .allocationTimerExpiry s fun t =>
            t.core.alloc = { timer := some 100, record := fullRecord false s.env s.core }
              ∧ t.core.session = s.core.session
              ∧ t.core.heater.lastHanded = (fullRecord false s.env s.core).pHeatAlloc
              ∧ t.core.meter = s.core.meter ∧ t.core.link = s.core.link
              ∧ t.core.queue = s.core.queue ∧ t.core.auth = s.core.auth)
        ∧ ((fullRecord false s.env s.core).pInLim = 0 →
            Completes .allocationTimerExpiry s fun t =>
              t.core.session.state = .paused ∧ t.core.session.pauseTimer = some 600000
                ∧ t.core.session.pauseCauses = putBit 0 PauseCause.limitZero.code true
                ∧ t.core.session.contactor = s.core.session.contactor
                ∧ t.core.alloc =
                    { timer := some 100
                      record := { fullRecord false s.env s.core with
                        rampValid := false, pendingIncrease := none } }
                ∧ t.core.heater.run = .off ∧ t.core.heater.energized = none
                ∧ t.lines.converterEnable = false ∧ t.lines.commandDuty = 0))

/-- The slot timer in RUNNING: outside the quiet window the next slot begins, energized if its entry names a zone that
is not INHIBITED and the bound of the value last handed allows it, and at position 63 a new frame starts; inside, the
boundary is deferred. The first value handed in ARMED starts a frame; a lower value handed in RUNNING trims the list
from its end, and below the slots started it cuts the rest of the frame and de-energizes the segment by a forced edge,
which marks an open quiet window (R90, R91, R93, R95 to R97, R99, R109). -/
def Obligations.SlotBoundariesAreTakenOrDeferred : Prop :=
  ∀ (p : Nat) (s : State), s.core.up = true →
    (s.core.heater.run = .running → s.core.heater.slotTimer.isSome = true →
      s.core.heater.position = some p →
      (s.core.mon.window = true →
        exec .slotTimerExpiry s = .next (afterBlocks s
          { s.core with heater := { s.core.heater with deferred := true, slotTimer := none } }))
      ∧ (s.core.mon.window = false → p = 63 →
        exec .slotTimerExpiry s = .next (afterBlocks s
          { s.core with heater := frameStarted s.env s.core.heater }))
      ∧ (s.core.mon.window = false → p < 63 →
        exec .slotTimerExpiry s = .next (afterBlocks s
          { s.core with heater :=
            match s.core.heater.slots[p + 1]? with
            | none =>
              { s.core.heater with
                position := some (p + 1), deferred := false, slotTimer := some 50
                energized := none }
            | some k =>
              if s.core.heater.inhibited.get k = true then
                { s.core.heater with
                  position := some (p + 1), deferred := false, slotTimer := some 50
                  energized := none }
              else if s.core.heater.started + 1 ≤ s.core.heater.lastHanded * 64 / s.env.cfg.pSeg then
                { s.core.heater with
                  position := some (p + 1), deferred := false, slotTimer := some 50
                  started := s.core.heater.started + 1, energized := some k }
              else
                { s.core.heater with
                  position := some (p + 1), deferred := false, slotTimer := some 50
                  slots := s.core.heater.slots.take (p + 1), energized := none } })))
    ∧ ∀ v : Nat, s.core.alloc.timer.isSome = true → s.core.session.state.powered = true →
        s.core.session.pauseCauses = 0 → 0 < (fullRecord false s.env s.core).pInLim →
        v = (fullRecord false s.env s.core).pHeatAlloc →
          (s.core.heater.run = .armed → s.core.mon.window = false →
            Completes .allocationTimerExpiry s fun t =>
              t.core.heater = frameStarted s.env { s.core.heater with lastHanded := v })
          ∧ (s.core.heater.run = .armed → s.core.mon.window = true →
              Completes .allocationTimerExpiry s fun t =>
                t.core.heater = { s.core.heater with
                  lastHanded := v, deferred := true, slotTimer := none })
          ∧ ∀ bound : Nat, s.core.heater.run = .running → s.core.heater.position = some p →
              bound = v * 64 / s.env.cfg.pSeg →
                (s.core.heater.lastHanded ≤ v
                    ∨ s.core.heater.started + (s.core.heater.slots.length - (p + 1)) ≤ bound →
                  Completes .allocationTimerExpiry s fun t =>
                    t.core.heater = { s.core.heater with lastHanded := v })
                ∧ (v < s.core.heater.lastHanded →
                    (s.core.heater.started ≤ bound →
                      bound < s.core.heater.started + (s.core.heater.slots.length - (p + 1)) →
                        Completes .allocationTimerExpiry s fun t =>
                          t.core.heater = { s.core.heater with
                            lastHanded := v
                            slots := s.core.heater.slots.take
                              (p + 1 + (bound - s.core.heater.started)) })
                    ∧ (bound < s.core.heater.started →
                        Completes .allocationTimerExpiry s fun t =>
                          t.core.heater = { s.core.heater with
                              lastHanded := v
                              slots := s.core.heater.slots.take (p + 1)
                              energized := none }
                            ∧ (s.core.heater.energized.isSome = true → s.core.mon.window = true →
                                t.core.mon.mark = true)))

/-- The slot list is built in rounds: it is as long as the demands and the bound allow, no zone has more entries than
its demand, at every place a zone is at most one entry ahead of any other that has demand left, and each round takes
the zones that have demand left in the order of their published values, the lower index first among equal ones. A frame
follows the list of the demands, in which an INHIBITED zone has none, for as many slots as demand and bound give, and
the slots after them have no entry (R92). -/
def Obligations.SlotListIsBuiltInRounds : Prop :=
  ∀ (zones : Quad Zone) (d : Quad Nat) (bound : Nat) (t : ZoneIx → Int), (∀ k, d.get k ≤ 64) →
    (∀ k, d.get k ≠ 0 → (zones.get k).value = some (t k)) →
    (buildSlots zones d bound).length = min bound d.toList.sum
      ∧ (∀ k, (buildSlots zones d bound).count k ≤ d.get k)
      ∧ (∀ (n : Nat) (k j : ZoneIx),
          ((buildSlots zones d bound).take n).count k
              ≤ ((buildSlots zones d bound).take n).count j + 1
            ∨ ((buildSlots zones d bound).take n).count j = d.get j)
      ∧ ∀ (n : Nat) (k j : ZoneIx), (buildSlots zones d bound)[n]? = some k →
          ((buildSlots zones d bound).take n).count j < d.get j →
            ((buildSlots zones d bound).take n).count k < ((buildSlots zones d bound).take n).count j
              ∨ (((buildSlots zones d bound).take n).count k
                    = ((buildSlots zones d bound).take n).count j
                  ∧ (t k < t j ∨ (t k = t j ∧ k.code ≤ j.code)))
      ∧ ∀ (e : Env) (h g : Heater) (entries : Nat), g = h.formDemand e →
          entries = min g.demand (g.lastHanded * 64 / e.cfg.pSeg) →
            (∀ k, h.inhibited.get k = true → g.d.get k = 0)
              ∧ (frameStarted e g).slots = buildSlots e.mfe.zones g.d entries
              ∧ (frameStarted e g).slots.length = entries
              ∧ ∀ p, entries ≤ p → (frameStarted e g).slots[p]? = none

/-! ### Insulation monitor -/

/-- The quiet window opens with its sum empty and its mark clear; at the expiry an accepted POSITIVE half-period
stores its settled sample and turns NEGATIVE, a marked or empty one is repeated with the same polarity, and the
window's end applies a pending increase. The fourth discard running ends the cycle without a result: a new one begins
POSITIVE, and at the eighth such cycle in MONITORING the monitor is INOPERATIVE and the session stops with
SELF-TEST-FAIL (R80, R106, R108, R109, R115). That the samples come with the expiry is the model's choice (log 34). -/
def Obligations.HalfPeriodsAreAcceptedOrRepeated : Prop :=
  ∀ (samples : List Int) (sum : Int) (n : Nat) (s : State), s.core.up = true →
    s.core.mon.state.measuring = true → s.core.mon.timer.isSome = true →
      (s.core.mon.window = false →
        exec .quietWindowOpen s = .next (afterBlocks s
          { s.core with mon := { s.core.mon with
            window := true, mark := false, windowSum := 0, windowCount := 0 } }))
      ∧ (s.core.mon.window = true →
          sum = s.core.mon.windowSum + (samples.map fun v => max (-30000) (min 30000 v)).sum →
          n = s.core.mon.windowCount + samples.length →
          s.core.session.state ≠ .attached → s.core.session.state ≠ .closed →
            (s.core.mon.mark = false → 0 < n → s.core.mon.polarity = .positive →
              Completes (.halfPeriodTimerExpiry samples) s fun t =>
                t.core.mon = { s.core.mon with
                    vPos := some (sum / n), polarity := .negative, timer := some s.env.cfg.halfPeriod
                    discards := 0, window := false, windowSum := sum, windowCount := n }
                  ∧ t.core.session = s.core.session ∧ t.core.meter = s.core.meter
                  ∧ ∀ p, s.core.alloc.record.pendingIncrease = some p →
                      t.core.alloc.record = { s.core.alloc.record with
                        pChgCmd := p, pendingIncrease := none
                        command := p + s.core.alloc.record.pHeatAlloc })
            ∧ (s.core.mon.mark = true ∨ n = 0 →
                (s.core.mon.discards + 1 < 4 →
                  Completes (.halfPeriodTimerExpiry samples) s fun t =>
                    t.core.mon = { s.core.mon with
                        timer := some s.env.cfg.halfPeriod, discards := s.core.mon.discards + 1
                        window := false, windowSum := sum, windowCount := n }
                      ∧ t.core.session = s.core.session)
                ∧ (s.core.mon.discards = 3 → s.core.mon.noResults < 7 →
                  Completes (.halfPeriodTimerExpiry samples) s fun t =>
                    t.core.mon = { s.core.mon with
                        timer := some s.env.cfg.halfPeriod, discards := 0, vPos := none
                        polarity := .positive, noResults := s.core.mon.noResults + 1
                        window := false, windowSum := sum, windowCount := n }
                      ∧ t.core.session = s.core.session)
                ∧ (s.core.mon.discards = 3 → s.core.mon.noResults = 7 →
                    s.core.mon.state = .monitoring →
                    s.core.session.state = .preheat ∨ s.core.session.state = .charging
                      ∨ s.core.session.state = .paused → s.core.session.contactor = .closed →
                      Completes (.halfPeriodTimerExpiry samples) s fun t =>
                        t.core.mon.state = .inoperative ∧ t.core.mon.timer = none
                          ∧ t.core.mon.window = false ∧ t.core.mon.result = s.core.mon.result
                          ∧ t.core.session.monitorFailure = true
                          ∧ StoppedOnCurrent .selfTestFail t ∧ t.lines.generator = 0)))

/-- The end of a self-test: its second result in the reference band passes it, any result outside fails it. At start-up
the part becomes ACTIVE with the outcome, the monitor OFF or INOPERATIVE, and the allocation and metering timers start;
in a session a pass begins MONITORING and, with authorization granted, closes the contactor, a failure ends the session
with SELF-TEST-FAIL; each failure sets the monitor failure flag (R23, R26, R110, R116, R117, R124, R185). That the
samples come with the expiry is the model's choice (log 34). -/
def Obligations.StartUpSelfTestEndsStarting : Prop :=
  ∀ (samples : List Int) (sum vPos : Int) (n : Nat) (r : RIso) (s : State), s.core.up = true →
    s.core.mon.state = .selfTest → s.core.mon.timer.isSome = true → s.core.mon.window = true →
    s.core.mon.mark = false → s.core.mon.polarity = .negative → s.core.mon.vPos = some vPos →
    sum = s.core.mon.windowSum + (samples.map fun v => max (-30000) (min 30000 v)).sum →
    n = s.core.mon.windowCount + samples.length → 0 < n →
    r = resistance ((vPos - sum / n) / 2) →
      (s.core.session.state = .idle → s.core.mon.kind = some .startUp →
        (r.inBand = true → s.core.mon.pass = 1 →
          Completes (.halfPeriodTimerExpiry samples) s fun t =>
            t.core.sup = { s.core.sup with power := .active, selfTest := some .passed }
              ∧ t.core.mon.state = .off ∧ t.core.mon.timer = none ∧ t.core.mon.window = false
              ∧ t.core.mon.result = s.core.mon.result
              ∧ t.core.alloc.timer = some 100 ∧ t.core.meter = { s.core.meter with timer := some 100 }
              ∧ t.core.session = s.core.session
              ∧ t.lines.generator = 0 ∧ t.lines.referencePath = false)
        ∧ (r.inBand = false →
            Completes (.halfPeriodTimerExpiry samples) s fun t =>
              t.core.sup = { s.core.sup with power := .active, selfTest := some .failed }
                ∧ t.core.mon.state = .inoperative ∧ t.core.mon.timer = none
                ∧ t.core.alloc.timer = some 100
                ∧ t.core.meter = { s.core.meter with timer := some 100 }
                ∧ t.core.session = { s.core.session with monitorFailure := true }
                ∧ t.lines.generator = 0 ∧ t.lines.referencePath = false))
      ∧ (s.core.session.state = .authorizing → s.core.session.contactor = .opened →
          s.core.mon.kind = some .session →
          (r.inBand = true → s.core.mon.pass = 1 →
            (s.core.session.authGranted = false →
              Completes (.halfPeriodTimerExpiry samples) s fun t =>
                t.core.mon.state = .monitoring ∧ t.core.mon.polarity = .positive
                  ∧ t.core.mon.timer = some s.env.cfg.halfPeriod ∧ t.core.mon.window = false
                  ∧ t.core.session = { s.core.session with selfTestPassed := true }
                  ∧ t.lines.referencePath = false)
            ∧ (s.core.session.authGranted = true → s.env.mfe.aux.active = false →
              Completes (.halfPeriodTimerExpiry samples) s fun t =>
                t.core.mon.state = .monitoring
                  ∧ t.core.session = { s.core.session with
                      selfTestPassed := true, contactor := .closing, confirmTimer := some 100 }
                  ∧ t.lines.contactorDrive = true ∧ t.lines.pilotLoad = true))
          ∧ (r.inBand = false → s.env.mfe.detached = false → s.core.session.releaseSeen = false →
              Completes (.halfPeriodTimerExpiry samples) s fun t =>
                t.core.mon.state = .inoperative ∧ t.core.session.monitorFailure = true
                  ∧ t.core.session.state = .closed
                  ∧ t.core.session.endReason = some .selfTestFail
                  ∧ t.lines.generator = 0 ∧ t.lines.referencePath = false))

/-- A cycle result on the bus is classed by the two thresholds and moves counts and result state. From NO-RESULT and OK
a GOOD result gives OK, any other WARN with its notice; WARN is left to OK at the third consecutive GOOD result. The
second consecutive LOW result in WARN latches the FAULT: it is posted to both masters, the session stops with
INSULATION-FAULT and its contactor opens at once, the heater is OFF, the allocation zero and the command line 0, all
at this event (R110 to R114). The order in which the blocks act is the model's choice (log 28), and so are the samples
as an operand (log 34). -/
def Obligations.SecondLowResultIsTheFault : Prop :=
  ∀ (samples : List Int) (sum vPos : Int) (n v : Nat) (r : RIso) (warn fault : Nat) (s : State),
    s.core.up = true →
    s.core.session.state.powered = true → s.core.mon.state = .monitoring →
    s.core.mon.timer.isSome = true →
    s.core.mon.window = true → s.core.mon.mark = false → s.core.mon.polarity = .negative →
    s.core.mon.vPos = some vPos → s.env.mfe.vBus? = some v →
    sum = s.core.mon.windowSum + (samples.map fun v => max (-30000) (min 30000 v)).sum →
    n = s.core.mon.windowCount + samples.length → 0 < n →
    r = resistance ((vPos - sum / n) / 2) →
    warn = s.env.cfg.warnOhms * v / 10000 → fault = s.env.cfg.faultOhms * v / 10000 →
      let judged (result : ResultState) (low good : Nat) (t : State) : Prop :=
        t.core.mon.result = result ∧ t.core.mon.low = low ∧ t.core.mon.good = good
          ∧ t.core.mon.state = .monitoring ∧ t.core.mon.window = false ∧ t.core.mon.noResults = 0
          ∧ t.core.mon.polarity = .positive ∧ t.core.mon.timer = some s.env.cfg.halfPeriod
          ∧ t.core.mon.last = some
              { rIso := r
                time := s.core.meter.time
                path := .bus
                vBus := some v
                thresholds := some (warn, fault) }
      (s.core.mon.result = .noResult ∨ s.core.mon.result = .ok →
        (r.below fault = false → r.below warn = false →
          Completes (.halfPeriodTimerExpiry samples) s fun t =>
            judged .ok 0 (min 3 (s.core.mon.good + 1)) t ∧ t.core.session = s.core.session)
        ∧ (r.below fault = false → r.below warn = true →
          Completes (.halfPeriodTimerExpiry samples) s fun t =>
            judged .warn 0 0 t ∧ t.core.session = s.core.session
              ∧ hasBit t.core.notices.vehiclePending Notice.insulationWarn.code = true)
        ∧ (r.below fault = true →
          Completes (.halfPeriodTimerExpiry samples) s fun t =>
            judged .warn (min 2 (s.core.mon.low + 1)) 0 t ∧ t.core.session = s.core.session
              ∧ hasBit t.core.notices.vehiclePending Notice.insulationWarn.code = true))
      ∧ (s.core.mon.result = .warn →
          (r.below fault = false → r.below warn = false → s.core.mon.good < 3 →
            Completes (.halfPeriodTimerExpiry samples) s fun t =>
              judged (if s.core.mon.good = 2 then .ok else .warn) 0 (s.core.mon.good + 1) t
                ∧ t.core.session = s.core.session)
          ∧ (r.below fault = false → r.below warn = true →
            Completes (.halfPeriodTimerExpiry samples) s fun t =>
              judged .warn 0 0 t ∧ t.core.session = s.core.session)
          ∧ (r.below fault = true → s.core.mon.low = 0 →
            Completes (.halfPeriodTimerExpiry samples) s fun t =>
              judged .warn 1 0 t ∧ t.core.session = s.core.session)
          ∧ (r.below fault = true → s.core.mon.low = 1 → s.core.session.contactor = .closed →
              s.env.mfe.aux.active = true →
            Completes (.halfPeriodTimerExpiry samples) s fun t =>
              judged .fault 2 0 t ∧ t.core.mon.faultResult = t.core.mon.last
                ∧ hasBit t.core.notices.vehiclePending Notice.insulationFault.code = true
                ∧ hasBit t.core.notices.fleetPending Notice.insulationFault.code = true
                ∧ t.core.session.state = .stopping
                ∧ t.core.session.endReason = some .insulationFault
                ∧ t.core.session.contactor = .opening ∧ t.core.session.confirmTimer = some 100
                ∧ t.core.heater.run = .off ∧ t.core.heater.energized = none
                ∧ t.core.alloc.record = AllocRecord.zero
                ∧ t.lines.commandDuty = 0 ∧ t.lines.contactorDrive = false))

/-! ### Meter -/

/-- A metering interval loses no energy, whether its classes go to lines that stand, to new lines, through a split or
into a fold: 3,600 times the mWh on all lines held, plus the three remainders, grows by exactly the interval's energy,
and so does the session inlet energy register while it fits its width. With the contactor OPEN nothing is metered
(R124 to R126, R135 to R137). -/
def Obligations.MeteringConservesEnergy : Prop :=
  ∀ s : State, s.core.up = true → s.core.meter.timer.isSome = true →
    (s.core.session.contactor = .opened →
      exec .meteringTimerExpiry s = .next (afterBlocks s
        { s.core with meter := { s.core.meter with timer := some 100 } }))
    ∧ ∀ (o : OpenRecord) (p : Nat), s.core.session.contactor ≠ .opened →
        s.core.meter.openRec = some o → o.closeRequested = false → LinesFit o.record.lines →
        p = ((s.env.mfe.published.map MeasurementSet.pIn).getD 0).toNat →
          Completes .meteringTimerExpiry s fun t =>
            t.core.meter.timer = some 100
              ∧ 3600 * t.core.mwhHeld + t.core.meter.remainders
                  = 3600 * s.core.mwhHeld + s.core.meter.remainders + p * 100
              ∧ t.core.meter.remCharge < 3600 ∧ t.core.meter.remHeat < 3600
              ∧ t.core.meter.remOverhead < 3600
              ∧ (s.core.meter.energy + p * 100 < 2 ^ 64 →
                  t.core.meter.energy = s.core.meter.energy + p * 100)

/-- TARIFF: a malformed message empties the staging area and posts SCHEDULE-REJECTED; a band of a schedule of several
is staged; the message that completes a schedule, of one band or several, has it checked: one that passes under a new
version becomes active, is posted and flags the running record, the active schedule received again changes nothing, and
any other is rejected (R133, R134). The command stands for the message's last frame, which is the model's choice
(log 6), and a posted version 0 keeps its own prices (log 20). -/
def Obligations.TariffMessagesAreStagedOrRejected : Prop :=
  ∀ (version index count : Byte) (start price : Half) (s : State), s.core.up = true →
    (count.toNat < 1 ∨ 6 < count.toNat ∨ count.toNat ≤ index.toNat ∨ 1439 < start.toNat →
      exec (.tariff version index count start price) s = .next (afterBlocks s
        { s.core with
          link := { s.core.link with asmTariff := none, state := .alive, aliveTimer := some 5000 }
          meter := { s.core.meter with staging := none }
          notices := { s.core.notices with
            fleetPending := s.core.notices.fleetPending ||| 0x0800 } }))
    ∧ (2 ≤ count.toNat → count.toNat ≤ 6 → index.toNat < count.toNat → start.toNat ≤ 1439 →
        s.core.meter.staging = none →
          exec (.tariff version index count start price) s = .next (afterBlocks s
            { s.core with
              link := { s.core.link with asmTariff := none, state := .alive, aliveTimer := some 5000 }
              meter := { s.core.meter with
                staging := some
                  { version
                    bands := (List.replicate count.toNat none).set index.toNat
                      (some { start := start.toNat, price := price.toNat }) } } }))
    ∧ ∀ bands : List Band, bands.length = count.toNat → 1 ≤ count.toNat → count.toNat ≤ 6 →
        index.toNat < count.toNat → start.toNat ≤ 1439 →
        (count.toNat = 1 ∧ bands = [{ start := start.toNat, price := price.toNat }])
          ∨ (∃ staged : List (Option Band),
              s.core.meter.staging = some { version := version, bands := staged }
                ∧ staged.length = count.toNat
                ∧ staged.set index.toNat (some { start := start.toNat, price := price.toNat })
                  = bands.map some) →
          let heard : Core :=
            { s.core with
              link := { s.core.link with asmTariff := none, state := .alive, aliveTimer := some 5000 }
              meter := { s.core.meter with staging := none } }
          let rejected : Core :=
            { heard with notices := { s.core.notices with
              fleetPending := s.core.notices.fleetPending ||| 0x0800 } }
          (¬ ((bands.map (·.start)).head? = some 0 ∧ (bands.map (·.start)).Pairwise (· < ·)) →
            exec (.tariff version index count start price) s = .next (afterBlocks s rejected))
          ∧ ((bands.map (·.start)).head? = some 0 → (bands.map (·.start)).Pairwise (· < ·) →
              (version = s.core.meter.schedule.version →
                exec (.tariff version index count start price) s = .next (afterBlocks s
                  (if bands = s.core.meter.schedule.bands s.env.cfg.defaultPrice then heard
                    else rejected)))
              ∧ (version ≠ s.core.meter.schedule.version →
                  Completes (.tariff version index count start price) s fun t =>
                    t.core.meter = { s.core.meter with
                        staging := none
                        schedule := .posted version bands
                        openRec := t.core.meter.openRec }
                      ∧ t.core.notices = { s.core.notices with
                          fleetPending := s.core.notices.fleetPending ||| 0x0400 }
                      ∧ t.core.session = s.core.session ∧ t.core.queue = s.core.queue
                      ∧ ∀ o, s.core.meter.openRec = some o → o.closeRequested = false →
                          t.core.meter.openRec
                            = some { o with record := { o.record with scheduleChanged := true } }))

/-! ### Charge link -/

/-- The frames of the post bring about what the message commands do: the last frame of a well-formed message is that
message; the first segment of a verdict is assembled. A frame that the filter does not accept, one without data bytes
and one of a kind that is no post kind change nothing; a segment that its assembly does not expect, and a complete
message of a wrong count or length, are discarded with the assembly, as signs of the post alone (R155 to R159,
section 12.2; log 6). -/
def Obligations.FramesBringTheMessages : Prop :=
  ∀ (f : CanFrame) (s : State), s.core.up = true →
    (frameAccepted s.env.cfg f = false ∨ f.data = [] ∨ f.ident.toNat / 64 < 1 ∨ 5 < f.ident.toNat / 64 →
      exec (.receiveSegment f) s = .next (afterBlocks s s.core))
    ∧ (∀ (kind : PostKind) (segment : Byte) (content : List Byte),
        frameAccepted s.env.cfg f = true → postKind (f.ident.toNat / 64) = some kind →
        f.data = segment :: content →
        (1 ≤ segment.toNat / 16 ∧ ∀ a : Assembly, s.core.link.assembly kind = some a →
            segment.toNat / 16 ≠ a.next ∨ segment.toNat % 16 + 1 ≠ a.count)
          ∨ (segment = 0 ∧ messageFits kind 1 content.length = false)
          ∨ (1 ≤ segment.toNat / 16 ∧ ∃ a : Assembly, s.core.link.assembly kind = some a
              ∧ a.next = segment.toNat / 16 ∧ a.count = segment.toNat % 16 + 1
              ∧ a.count = a.next + 1
              ∧ messageFits kind a.count (a.content.length + content.length) = false) →
          exec (.receiveSegment f) s = .next (afterBlocks s
            { s.core with link := { s.core.link.setAssembly kind none with
              state := .alive, aliveTimer := some 5000 } }))
    ∧ (frameAccepted s.env.cfg f = true →
        (∀ limit : Half, f.ident.toNat / 64 = 1 → f.data = 0x00 :: le 2 limit.toNat →
          exec (.receiveSegment f) s = exec (.powerLimit limit) s)
        ∧ (∀ (n : Half) (echo : Tag) (verdict : Byte) (content : List Byte), f.ident.toNat / 64 = 2 →
            content = le 2 n.toNat ++ echo.bytes ++ [verdict] →
            (f.data = 0x01 :: content.take 7 →
              exec (.receiveSegment f) s = .next (afterBlocks s
                { s.core with link := { s.core.link with
                  asmVerdict := some { count := 2, next := 1, content := content.take 7 }
                  state := .alive
                  aliveTimer := some 5000 } }))
            ∧ (f.data = 0x11 :: content.drop 7 →
                s.core.link.asmVerdict = some { count := 2, next := 1, content := content.take 7 } →
                  exec (.receiveSegment f) s = exec (.authVerdict n echo verdict) s))
        ∧ (∀ (version index count : Byte) (start price : Half), f.ident.toNat / 64 = 3 →
            f.data = 0x00 :: version :: index :: count :: (le 2 start.toNat ++ le 2 price.toNat) →
              exec (.receiveSegment f) s = exec (.tariff version index count start price) s)
        ∧ (∀ seconds : Word, f.ident.toNat / 64 = 4 →
            (f.data = 0x00 :: le 4 seconds.toNat →
              exec (.receiveSegment f) s = exec (.time seconds none) s)
            ∧ ∀ offset : Half, f.data = 0x00 :: (le 4 seconds.toNat ++ le 2 offset.toNat) →
              exec (.receiveSegment f) s = exec (.time seconds (some offset)) s)
        ∧ (f.ident.toNat / 64 = 5 → f.data = [0x00] →
            exec (.receiveSegment f) s = exec .stopMessage s))

/-- POWER-LIMIT stores its limit up to 2,200 with its validity and timer; a TIME sets the counter with source POST and
the offset within its range, and one that differs by more than 60 s from a valid time is a step, posted to the fleet
master and marked on a running record; each tick of a counter that runs adds one second, modulo 2^32 (R127,
R129, R130, R160). The message commands stand for their last frames, which is the model's choice (log 6). -/
def Obligations.PostLimitTimeAndTick : Prop :=
  ∀ (limit : Half) (w : Word) (offset : Option Half) (s : State),
    (s.core.up = true →
      exec (.powerLimit limit) s = .next (afterBlocks s
        { s.core with link := { s.core.link with
          asmPowerLimit := none, state := .alive, aliveTimer := some 5000
          postLimit := some (min 2200 limit.toNat), postValid := true, postTimer := some 5000
          heard := true } }))
    ∧ (s.core.up = true →
        (s.core.meter.timeValid = true →
          s.core.meter.time.toNat ≤ w.toNat + 60 ∧ w.toNat ≤ s.core.meter.time.toNat + 60) →
          exec (.time w offset) s = .next (afterBlocks s
            { s.core with
              link := { s.core.link with asmTime := none, state := .alive, aliveTimer := some 5000 }
              meter := { s.core.meter with
                time := w, timeValid := true, source := .post
                offset := match offset with
                  | some x => max (-720) (min 840 x.toInt)
                  | none => s.core.meter.offset } }))
    ∧ (s.core.up = true → s.core.meter.timeValid = true →
        w.toNat + 60 < s.core.meter.time.toNat ∨ s.core.meter.time.toNat + 60 < w.toNat →
          Completes (.time w offset) s fun t =>
            t.core.link = { s.core.link with asmTime := none, state := .alive, aliveTimer := some 5000 }
              ∧ t.core.meter = { s.core.meter with
                  time := w, timeValid := true, source := .post
                  offset := match offset with
                    | some x => max (-720) (min 840 x.toInt)
                    | none => s.core.meter.offset
                  openRec := s.core.meter.openRec.map fun o =>
                    if o.closeRequested = true then o
                    else { o with record := { o.record with timeStep := true } } }
              ∧ t.core.session = s.core.session ∧ t.core.queue = s.core.queue
              ∧ hasBit t.core.notices.fleetPending Notice.timeStep.code = true
              ∧ t.core.notices.vehiclePending = s.core.notices.vehiclePending)
    ∧ (s.core.sup.held = none ∨ s.core.sup.retentionValid = true →
        exec .timeCounterTick s = .next (afterBlocks s
          { s.core with meter := { s.core.meter with time := s.core.meter.time + 1 } }))
    ∧ (s.core.sup.held.isSome = true → s.core.sup.retentionValid = false →
        exec .timeCounterTick s = .next (afterBlocks s s.core))

/-- The timers of the link: the post unheard for 5 s is LOST and posted to both masters; the post limit goes STALE and
is kept; the status timer places a STATUS of the values as they stand and restarts (R159, R160, R164, R165). The count
of drawn bytes is the model's own (log 11). -/
def Obligations.LinkTimersExpire : Prop :=
  ∀ s : State, s.core.up = true →
    (s.core.link.aliveTimer.isSome = true → s.core.link.state = .alive →
      exec .linkAliveTimerExpiry s = .next (afterBlocks s
        { s.core with
          link := { s.core.link with state := .lost, aliveTimer := none }
          notices := { s.core.notices with
            vehiclePending := s.core.notices.vehiclePending ||| 0x0020
            fleetPending := s.core.notices.fleetPending ||| 0x0020 } }))
    ∧ (s.core.link.postTimer.isSome = true →
        exec .postLimitTimerExpiry s = .next (afterBlocks s
          { s.core with link := { s.core.link with postValid := false, postTimer := none } }))
    ∧ (s.core.link.statusTimer.isSome = true → s.core.sup.power = .active →
        s.core.session.state ≠ .idle → s.core.link.status.state ≠ .sending →
          exec .statusTimerExpiry s = .next (afterBlocks s
            { s.core with
              drawn := s.core.drawn + 1
              link := { s.core.link with
                statusTimer := some 1000
                status :=
                  { state := .waiting
                    replaced := false
                    successor := none
                    message := some
                      { ident := BitVec.ofNat 11 (16 * 64 + s.env.cfg.ownAddress)
                        content := statusCore s.env s.core
                        next := 0
                        timer := some 500 } } } }))

/-- The transmit slots: an attempt starts with the next segment of the WAITING slot of the lowest identifier; its end
moves the slot to the next segment, to EMPTY after the last, or back to the same segment; a message whose 500 ms are
over is abandoned with LINK-TX-FAIL, one on the bus at the end of its attempt (R161 to R163). -/
def Obligations.TransmitSlotsSendOrAbandon : Prop :=
  ∀ (k : TxKind) (m : TxMessage) (slot : TxSlot) (failed : Notices) (s : State), s.core.up = true →
    s.core.link.slot k = slot → slot.message = some m →
    failed = { s.core.notices with
      vehiclePending := s.core.notices.vehiclePending ||| 0x0040
      txKinds := s.core.notices.txKinds ||| bit 8 (TxCode k) } →
      (slot.state = .waiting →
        (m.timer.isSome = true → exec (.messageTimerExpiry k .current) s = .next (afterBlocks s
          { s.core with link := s.core.link.setSlot k TxSlot.empty, notices := failed }))
        ∧ ((∀ j, (s.core.link.slot j).state ≠ .sending) →
            (∀ j, TxCode j < TxCode k → (s.core.link.slot j).state ≠ .waiting) →
              exec .transmitAttemptStart s = .next (afterBlocks s
                { s.core with
                  link := { (s.core.link.setSlot k { slot with state := .sending }) with
                    onBus := some (segmentFrame m) } })))
      ∧ (slot.state = .sending → slot.replaced = false → slot.successor = none →
          (∀ j, j ≠ k → (s.core.link.slot j).state ≠ .sending) →
            (m.timer.isSome = true →
              exec (.messageTimerExpiry k .current) s = .next (afterBlocks s
                { s.core with
                  link := s.core.link.setSlot k
                    { slot with message := some { m with timer := none } } }))
            ∧ (m.next + 1 = segmentCount m.content →
                exec (.transmitAttemptEnd .acknowledged) s = .next (afterBlocks s
                  { s.core with
                    link := { (s.core.link.setSlot k TxSlot.empty) with onBus := none } }))
            ∧ (m.timer.isSome = true → m.next + 1 ≠ segmentCount m.content →
                exec (.transmitAttemptEnd .acknowledged) s = .next (afterBlocks s
                  { s.core with
                    link :=
                      { (s.core.link.setSlot k
                          { slot with state := .waiting, message := some { m with next := m.next + 1 } })
                        with onBus := none } }))
            ∧ (m.timer.isSome = true → ∀ o : TxOutcome, o ≠ .acknowledged →
                exec (.transmitAttemptEnd o) s = .next (afterBlocks s
                  { s.core with
                    link := { (s.core.link.setSlot k { slot with state := .waiting }) with
                      onBus := none } }))
            ∧ (m.timer = none → ∀ o : TxOutcome,
                o ≠ .acknowledged ∨ m.next + 1 ≠ segmentCount m.content →
                  exec (.transmitAttemptEnd o) s = .next (afterBlocks s
                    { s.core with
                      link := { (s.core.link.setSlot k TxSlot.empty) with onBus := none }
                      notices := failed })))
      ∧ (slot.successor.isSome = true →
          exec (.messageTimerExpiry k .successor) s = .next (afterBlocks s
            { s.core with
              link := s.core.link.setSlot k { slot with successor := none }
              notices := failed }))

/-! ### Resets, sleep and wake -/

/-- The reset pin holds a part that is not held already, the supply comparator any part, in place of the reset it is
held in (log 25); a pending reset is void; the fall of the retention supply clears its flag. A stop sequence that the
supply cuts has SUPPLY-LOSS among its faults-seen, and its running record the copy. The blocks are otherwise as they
were until the reset is left (R139, R184, R190). That a fall of the supply adds nothing outside a stop sequence is the
model's reading (log 47). -/
def Obligations.ResetsHoldThePart : Prop :=
  ∀ s : State,
    (s.core.sup.held = none → exec .resetPin s = .next (afterBlocks s
      { s.core with sup := { s.core.sup with held := some .pin, deferredReset := false } }))
    ∧ (s.core.sup.held.isSome = true → exec .resetPin s = .next (afterBlocks s s.core))
    ∧ (s.core.sup.held.isSome = true ∨ s.core.session.state ≠ .stopping
          ∨ s.core.session.endReason = some .supplyLoss →
        exec .supplyHeldReset s = .next (afterBlocks s
          { s.core with sup := { s.core.sup with held := some .supply, deferredReset := false } }))
    ∧ (∀ r : StopCause, s.core.sup.held = none → s.core.session.state = .stopping →
        s.core.session.endReason = some r → r ≠ .supplyLoss →
          let faults := s.core.session.faultsSeen ||| bit 16 StopCause.supplyLoss.code
          exec .supplyHeldReset s = .next (afterBlocks s
            { s.core with
              session := { s.core.session with faultsSeen := faults }
              meter := { s.core.meter with
                openRec := s.core.meter.openRec.map fun o =>
                  if o.closeRequested = true then o
                  else { o with record := { o.record with
                    endReason := some (.cause r), faultsSeen := faults } } }
              sup := { s.core.sup with held := some .supply, deferredReset := false } }))
    ∧ exec .retentionSupplyFall s = .next (afterBlocks s
        { s.core with sup := { s.core.sup with retentionValid := false } })

/-- Leaving a reset with the retention area invalid gives the COLD values (but for the model's own count of log 11 and
the waiting commands); with it valid the reset is WARM or COMMAND by its cause, the retained items are kept, all else
takes its reset value, and a running record is closed as RESET and placed if there is room (R46, R61, R123, R143,
R154, R168, R181, R184, R191). -/
def Obligations.ResetExitKeepsTheRetentionArea : Prop :=
  ∀ (cause : ResetCause) (s : State), s.core.sup.held = some cause →
    (s.core.sup.retentionValid = false →
      exec .resetExit s = .next
        { State.reset with core := { Core.reset with drawn := s.core.drawn }, pending := s.pending })
    ∧ (s.core.sup.retentionValid = true → Completes .resetExit s fun t =>
        t.env = { s.env with mfe := Mfe.afterReset s.env.cfg }
          ∧ t.vport = VehiclePort.reset ∧ t.fport = FleetPort.reset ∧ t.pending = s.pending
          ∧ t.core.session = { Session.reset with
              number := s.core.session.number
              weldLatch := s.core.session.weldLatch
              converterLatch := s.core.session.converterLatch }
          ∧ t.core.auth = { Auth.reset with allowList := s.core.auth.allowList }
          ∧ t.core.alloc = Alloc.reset ∧ t.core.heater = Heater.reset
          ∧ t.core.mon = { Monitor.reset with
              timer := some s.env.cfg.halfPeriod
              result := if s.core.mon.result = .fault then .fault else .noResult
              last := if s.core.mon.result = .fault then s.core.mon.faultResult else none
              faultResult := if s.core.mon.result = .fault then s.core.mon.faultResult else none }
          ∧ t.core.sup = { Supply.reset with kind := if cause = .command then .command else .warm }
          ∧ t.core.meter = { s.core.meter with
              timer := none, staging := none, held := false, openRec := t.core.meter.openRec }
          ∧ ((∀ o, s.core.meter.openRec = some o → o.closeRequested = true) →
              t.core.meter.openRec = s.core.meter.openRec ∧ t.core.queue = s.core.queue
                ∧ t.core.link = Link.reset ∧ t.core.notices = Notices.reset)
          ∧ ∀ o, s.core.meter.openRec = some o → o.closeRequested = false →
              (s.core.queue.room = true → t.core.meter.openRec = none
                ∧ hasBit t.core.notices.fleetPending Notice.recordReady.code = true
                ∧ ∃ r : BillingRecord, t.core.queue = s.core.queue.place r
                    ∧ r.number = o.record.number ∧ r.continuation = o.record.continuation
                    ∧ r.endReason = some .reset ∧ r.endTime = some s.core.meter.time
                    ∧ r.mwh = o.record.mwh
                    ∧ r.faultsSeen = match o.record.endReason with
                      | some (.cause k) => o.record.faultsSeen ||| bit 16 k.code
                      | _ => o.record.faultsSeen)
              ∧ (s.core.queue.room = false → t.core.queue = s.core.queue
                ∧ ∃ r : BillingRecord,
                    t.core.meter.openRec = some { record := r, closeRequested := true }
                      ∧ r.number = o.record.number ∧ r.endReason = some .reset))

/-- A wake in SLEEP makes the part ACTIVE without STARTING: the timers of the blocks start, the request is EXPIRED,
the link and the heater take their reset values, and WAKE is posted with its sources to both masters; a transaction
that wakes carries the BUSY filler (R22, R85, R103, R168, R170, R181, R189). That the filler shows WAKE pending is the
model's choice (log 41). -/
def Obligations.WakeMakesThePartActive : Prop :=
  ∀ (pilot vehicle flap : Bool) (sources : Byte) (s : State),
    s.core.sup.held = none → s.core.sup.power = .sleep → (pilot || vehicle || flap) = true →
    sources = maskOf 8 [pilot, false, vehicle, flap] →
      Completes (.wake pilot vehicle flap none) s fun t =>
        t.core = { s.core with
            sup := { s.core.sup with power := .active }
            session := { s.core.session with request := none, requestTimer := none }
            alloc := { Alloc.reset with timer := some 100 }
            heater := Heater.reset
            link := Link.reset
            meter := { s.core.meter with timer := some 100 }
            notices := { s.core.notices with
              vehiclePending := s.core.notices.vehiclePending ||| 0x2000
              fleetPending := s.core.notices.fleetPending ||| 0x2000
              vehicleWake := s.core.notices.vehicleWake ||| sources
              fleetWake := s.core.notices.fleetWake ||| sources } }
          ∧ t.env.mfe.windowTimer = some 100 ∧ t.env.cfg = s.env.cfg ∧ t.env.table = s.env.table
          ∧ t.vport = { VehiclePort.reset with
              shiftedOut :=
                if vehicle then some
                  { kind := 0, seq := 0, status := .busy
                    pending := s.core.notices.vehiclePending ||| 0x2000, content := [] }
                else s.vport.shiftedOut }
          ∧ t.fport = { s.fport with outstanding := none, transmit := none, paused := false }
          ∧ t.pending = s.pending

/-! ### Invariants -/

/-- Right after a COLD reset every invariant of the part holds, the part is in STARTING with nothing outstanding, and
the lines are those of a self-test (R46, R61, R85, R103, R123, R143, R154, R168, R181, R191). -/
def Obligations.ResetMeetsTheInvariants : Prop :=
  State.reset.core.queue.Fits ∧ AllowFits State.reset.core.auth.allowList
    ∧ State.reset.fport.Fits ∧ State.reset.core.meter.Fits ∧ State.reset.core.alloc.record.Fits
    ∧ State.reset.core.session.Fits ∧ State.reset.core.HeaterFits
    ∧ State.reset.core.sup.power = .starting ∧ State.reset.pending = []
    ∧ State.reset.settle = State.reset ∧ State.reset.env.cfg.InRange

/-- Every step keeps the bounds of the stores: at most 8 records and one held only beside a full queue, at most 16
allow-list entries with no tag twice, at most 64 bytes in the fleet FIFO, and a response on its way exactly while a
request is outstanding (R57, R144, R146, R174 to R176). -/
def Obligations.StepsKeepTheStoresWithinBounds : Prop :=
  ∀ s t : State, s.core.queue.Fits → AllowFits s.core.auth.allowList → s.fport.Fits →
    step s = .next t →
      t.core.queue.Fits ∧ AllowFits t.core.auth.allowList ∧ t.fport.Fits

/-- Every step keeps the converter command within P_out, the allocations within it together, and a pending increase
within its allocation (R77 to R81). -/
def Obligations.StepsKeepTheCommandWithinTheOutput : Prop :=
  ∀ s t : State, s.core.alloc.record.Fits → step s = .next t → t.core.alloc.record.Fits

/-- Every step keeps the contactor in the states that go with the session state: closed only in PREHEAT, CHARGING,
PAUSED and STOPPING, closing only in AUTHORIZING, and the current wait only in STOPPING with it closed (R20, R27, R34,
R35, R37, R40). -/
def Obligations.StepsKeepTheContactorWithTheSession : Prop :=
  ∀ s t : State, s.core.session.Fits → step s = .next t → t.core.session.Fits

/-- Every step keeps the heater OFF outside PREHEAT and CHARGING, and no segment energized unless a frame runs (R86,
R94, R101, R103). -/
def Obligations.StepsKeepTheHeaterWithTheSession : Prop :=
  ∀ s t : State, s.core.HeaterFits → step s = .next t → t.core.HeaterFits

/-- Every step keeps the open record at 24 lines or fewer, no two with the same key (R135 to R137). -/
def Obligations.StepsKeepTheLinesOfTheRecord : Prop :=
  ∀ s t : State, s.core.meter.Fits → step s = .next t → t.core.meter.Fits
end

