-- ==== Sys2Proof/Laws/State.lean ====
section
/-! SUPPORT. One lemma per field per update of State and of its blocks, true by rfl. -/

namespace Sys2Proof.Machine

/-! ### Updates of a block -/

@[simp] theorem Core.onSession_session (c : Core) (f : Session → Session) : (c.onSession f).session = f c.session := rfl
@[simp] theorem Core.onSession_auth (c : Core) (f : Session → Session) : (c.onSession f).auth = c.auth := rfl
@[simp] theorem Core.onSession_alloc (c : Core) (f : Session → Session) : (c.onSession f).alloc = c.alloc := rfl
@[simp] theorem Core.onSession_heater (c : Core) (f : Session → Session) : (c.onSession f).heater = c.heater := rfl
@[simp] theorem Core.onSession_mon (c : Core) (f : Session → Session) : (c.onSession f).mon = c.mon := rfl
@[simp] theorem Core.onSession_meter (c : Core) (f : Session → Session) : (c.onSession f).meter = c.meter := rfl
@[simp] theorem Core.onSession_queue (c : Core) (f : Session → Session) : (c.onSession f).queue = c.queue := rfl
@[simp] theorem Core.onSession_link (c : Core) (f : Session → Session) : (c.onSession f).link = c.link := rfl
@[simp] theorem Core.onSession_notices (c : Core) (f : Session → Session) : (c.onSession f).notices = c.notices := rfl
@[simp] theorem Core.onSession_sup (c : Core) (f : Session → Session) : (c.onSession f).sup = c.sup := rfl
@[simp] theorem Core.onSession_drawn (c : Core) (f : Session → Session) : (c.onSession f).drawn = c.drawn := rfl

@[simp] theorem Core.onAuth_session (c : Core) (f : Auth → Auth) : (c.onAuth f).session = c.session := rfl
@[simp] theorem Core.onAuth_auth (c : Core) (f : Auth → Auth) : (c.onAuth f).auth = f c.auth := rfl
@[simp] theorem Core.onAuth_alloc (c : Core) (f : Auth → Auth) : (c.onAuth f).alloc = c.alloc := rfl
@[simp] theorem Core.onAuth_heater (c : Core) (f : Auth → Auth) : (c.onAuth f).heater = c.heater := rfl
@[simp] theorem Core.onAuth_mon (c : Core) (f : Auth → Auth) : (c.onAuth f).mon = c.mon := rfl
@[simp] theorem Core.onAuth_meter (c : Core) (f : Auth → Auth) : (c.onAuth f).meter = c.meter := rfl
@[simp] theorem Core.onAuth_queue (c : Core) (f : Auth → Auth) : (c.onAuth f).queue = c.queue := rfl
@[simp] theorem Core.onAuth_link (c : Core) (f : Auth → Auth) : (c.onAuth f).link = c.link := rfl
@[simp] theorem Core.onAuth_notices (c : Core) (f : Auth → Auth) : (c.onAuth f).notices = c.notices := rfl
@[simp] theorem Core.onAuth_sup (c : Core) (f : Auth → Auth) : (c.onAuth f).sup = c.sup := rfl
@[simp] theorem Core.onAuth_drawn (c : Core) (f : Auth → Auth) : (c.onAuth f).drawn = c.drawn := rfl

@[simp] theorem Core.onAlloc_session (c : Core) (f : Alloc → Alloc) : (c.onAlloc f).session = c.session := rfl
@[simp] theorem Core.onAlloc_auth (c : Core) (f : Alloc → Alloc) : (c.onAlloc f).auth = c.auth := rfl
@[simp] theorem Core.onAlloc_alloc (c : Core) (f : Alloc → Alloc) : (c.onAlloc f).alloc = f c.alloc := rfl
@[simp] theorem Core.onAlloc_heater (c : Core) (f : Alloc → Alloc) : (c.onAlloc f).heater = c.heater := rfl
@[simp] theorem Core.onAlloc_mon (c : Core) (f : Alloc → Alloc) : (c.onAlloc f).mon = c.mon := rfl
@[simp] theorem Core.onAlloc_meter (c : Core) (f : Alloc → Alloc) : (c.onAlloc f).meter = c.meter := rfl
@[simp] theorem Core.onAlloc_queue (c : Core) (f : Alloc → Alloc) : (c.onAlloc f).queue = c.queue := rfl
@[simp] theorem Core.onAlloc_link (c : Core) (f : Alloc → Alloc) : (c.onAlloc f).link = c.link := rfl
@[simp] theorem Core.onAlloc_notices (c : Core) (f : Alloc → Alloc) : (c.onAlloc f).notices = c.notices := rfl
@[simp] theorem Core.onAlloc_sup (c : Core) (f : Alloc → Alloc) : (c.onAlloc f).sup = c.sup := rfl
@[simp] theorem Core.onAlloc_drawn (c : Core) (f : Alloc → Alloc) : (c.onAlloc f).drawn = c.drawn := rfl

@[simp] theorem Core.onHeater_session (c : Core) (f : Heater → Heater) : (c.onHeater f).session = c.session := rfl
@[simp] theorem Core.onHeater_auth (c : Core) (f : Heater → Heater) : (c.onHeater f).auth = c.auth := rfl
@[simp] theorem Core.onHeater_alloc (c : Core) (f : Heater → Heater) : (c.onHeater f).alloc = c.alloc := rfl
@[simp] theorem Core.onHeater_heater (c : Core) (f : Heater → Heater) : (c.onHeater f).heater = f c.heater := rfl
@[simp] theorem Core.onHeater_mon (c : Core) (f : Heater → Heater) : (c.onHeater f).mon = c.mon := rfl
@[simp] theorem Core.onHeater_meter (c : Core) (f : Heater → Heater) : (c.onHeater f).meter = c.meter := rfl
@[simp] theorem Core.onHeater_queue (c : Core) (f : Heater → Heater) : (c.onHeater f).queue = c.queue := rfl
@[simp] theorem Core.onHeater_link (c : Core) (f : Heater → Heater) : (c.onHeater f).link = c.link := rfl
@[simp] theorem Core.onHeater_notices (c : Core) (f : Heater → Heater) : (c.onHeater f).notices = c.notices := rfl
@[simp] theorem Core.onHeater_sup (c : Core) (f : Heater → Heater) : (c.onHeater f).sup = c.sup := rfl
@[simp] theorem Core.onHeater_drawn (c : Core) (f : Heater → Heater) : (c.onHeater f).drawn = c.drawn := rfl

@[simp] theorem Core.onMon_session (c : Core) (f : Monitor → Monitor) : (c.onMon f).session = c.session := rfl
@[simp] theorem Core.onMon_auth (c : Core) (f : Monitor → Monitor) : (c.onMon f).auth = c.auth := rfl
@[simp] theorem Core.onMon_alloc (c : Core) (f : Monitor → Monitor) : (c.onMon f).alloc = c.alloc := rfl
@[simp] theorem Core.onMon_heater (c : Core) (f : Monitor → Monitor) : (c.onMon f).heater = c.heater := rfl
@[simp] theorem Core.onMon_mon (c : Core) (f : Monitor → Monitor) : (c.onMon f).mon = f c.mon := rfl
@[simp] theorem Core.onMon_meter (c : Core) (f : Monitor → Monitor) : (c.onMon f).meter = c.meter := rfl
@[simp] theorem Core.onMon_queue (c : Core) (f : Monitor → Monitor) : (c.onMon f).queue = c.queue := rfl
@[simp] theorem Core.onMon_link (c : Core) (f : Monitor → Monitor) : (c.onMon f).link = c.link := rfl
@[simp] theorem Core.onMon_notices (c : Core) (f : Monitor → Monitor) : (c.onMon f).notices = c.notices := rfl
@[simp] theorem Core.onMon_sup (c : Core) (f : Monitor → Monitor) : (c.onMon f).sup = c.sup := rfl
@[simp] theorem Core.onMon_drawn (c : Core) (f : Monitor → Monitor) : (c.onMon f).drawn = c.drawn := rfl

@[simp] theorem Core.onMeter_session (c : Core) (f : Meter → Meter) : (c.onMeter f).session = c.session := rfl
@[simp] theorem Core.onMeter_auth (c : Core) (f : Meter → Meter) : (c.onMeter f).auth = c.auth := rfl
@[simp] theorem Core.onMeter_alloc (c : Core) (f : Meter → Meter) : (c.onMeter f).alloc = c.alloc := rfl
@[simp] theorem Core.onMeter_heater (c : Core) (f : Meter → Meter) : (c.onMeter f).heater = c.heater := rfl
@[simp] theorem Core.onMeter_mon (c : Core) (f : Meter → Meter) : (c.onMeter f).mon = c.mon := rfl
@[simp] theorem Core.onMeter_meter (c : Core) (f : Meter → Meter) : (c.onMeter f).meter = f c.meter := rfl
@[simp] theorem Core.onMeter_queue (c : Core) (f : Meter → Meter) : (c.onMeter f).queue = c.queue := rfl
@[simp] theorem Core.onMeter_link (c : Core) (f : Meter → Meter) : (c.onMeter f).link = c.link := rfl
@[simp] theorem Core.onMeter_notices (c : Core) (f : Meter → Meter) : (c.onMeter f).notices = c.notices := rfl
@[simp] theorem Core.onMeter_sup (c : Core) (f : Meter → Meter) : (c.onMeter f).sup = c.sup := rfl
@[simp] theorem Core.onMeter_drawn (c : Core) (f : Meter → Meter) : (c.onMeter f).drawn = c.drawn := rfl

@[simp] theorem Core.onQueue_session (c : Core) (f : ExportQueue → ExportQueue) : (c.onQueue f).session = c.session := rfl
@[simp] theorem Core.onQueue_auth (c : Core) (f : ExportQueue → ExportQueue) : (c.onQueue f).auth = c.auth := rfl
@[simp] theorem Core.onQueue_alloc (c : Core) (f : ExportQueue → ExportQueue) : (c.onQueue f).alloc = c.alloc := rfl
@[simp] theorem Core.onQueue_heater (c : Core) (f : ExportQueue → ExportQueue) : (c.onQueue f).heater = c.heater := rfl
@[simp] theorem Core.onQueue_mon (c : Core) (f : ExportQueue → ExportQueue) : (c.onQueue f).mon = c.mon := rfl
@[simp] theorem Core.onQueue_meter (c : Core) (f : ExportQueue → ExportQueue) : (c.onQueue f).meter = c.meter := rfl
@[simp] theorem Core.onQueue_queue (c : Core) (f : ExportQueue → ExportQueue) : (c.onQueue f).queue = f c.queue := rfl
@[simp] theorem Core.onQueue_link (c : Core) (f : ExportQueue → ExportQueue) : (c.onQueue f).link = c.link := rfl
@[simp] theorem Core.onQueue_notices (c : Core) (f : ExportQueue → ExportQueue) : (c.onQueue f).notices = c.notices := rfl
@[simp] theorem Core.onQueue_sup (c : Core) (f : ExportQueue → ExportQueue) : (c.onQueue f).sup = c.sup := rfl
@[simp] theorem Core.onQueue_drawn (c : Core) (f : ExportQueue → ExportQueue) : (c.onQueue f).drawn = c.drawn := rfl

@[simp] theorem Core.onLink_session (c : Core) (f : Link → Link) : (c.onLink f).session = c.session := rfl
@[simp] theorem Core.onLink_auth (c : Core) (f : Link → Link) : (c.onLink f).auth = c.auth := rfl
@[simp] theorem Core.onLink_alloc (c : Core) (f : Link → Link) : (c.onLink f).alloc = c.alloc := rfl
@[simp] theorem Core.onLink_heater (c : Core) (f : Link → Link) : (c.onLink f).heater = c.heater := rfl
@[simp] theorem Core.onLink_mon (c : Core) (f : Link → Link) : (c.onLink f).mon = c.mon := rfl
@[simp] theorem Core.onLink_meter (c : Core) (f : Link → Link) : (c.onLink f).meter = c.meter := rfl
@[simp] theorem Core.onLink_queue (c : Core) (f : Link → Link) : (c.onLink f).queue = c.queue := rfl
@[simp] theorem Core.onLink_link (c : Core) (f : Link → Link) : (c.onLink f).link = f c.link := rfl
@[simp] theorem Core.onLink_notices (c : Core) (f : Link → Link) : (c.onLink f).notices = c.notices := rfl
@[simp] theorem Core.onLink_sup (c : Core) (f : Link → Link) : (c.onLink f).sup = c.sup := rfl
@[simp] theorem Core.onLink_drawn (c : Core) (f : Link → Link) : (c.onLink f).drawn = c.drawn := rfl

@[simp] theorem Core.onNotices_session (c : Core) (f : Notices → Notices) : (c.onNotices f).session = c.session := rfl
@[simp] theorem Core.onNotices_auth (c : Core) (f : Notices → Notices) : (c.onNotices f).auth = c.auth := rfl
@[simp] theorem Core.onNotices_alloc (c : Core) (f : Notices → Notices) : (c.onNotices f).alloc = c.alloc := rfl
@[simp] theorem Core.onNotices_heater (c : Core) (f : Notices → Notices) : (c.onNotices f).heater = c.heater := rfl
@[simp] theorem Core.onNotices_mon (c : Core) (f : Notices → Notices) : (c.onNotices f).mon = c.mon := rfl
@[simp] theorem Core.onNotices_meter (c : Core) (f : Notices → Notices) : (c.onNotices f).meter = c.meter := rfl
@[simp] theorem Core.onNotices_queue (c : Core) (f : Notices → Notices) : (c.onNotices f).queue = c.queue := rfl
@[simp] theorem Core.onNotices_link (c : Core) (f : Notices → Notices) : (c.onNotices f).link = c.link := rfl
@[simp] theorem Core.onNotices_notices (c : Core) (f : Notices → Notices) : (c.onNotices f).notices = f c.notices := rfl
@[simp] theorem Core.onNotices_sup (c : Core) (f : Notices → Notices) : (c.onNotices f).sup = c.sup := rfl
@[simp] theorem Core.onNotices_drawn (c : Core) (f : Notices → Notices) : (c.onNotices f).drawn = c.drawn := rfl

@[simp] theorem Core.onSup_session (c : Core) (f : Supply → Supply) : (c.onSup f).session = c.session := rfl
@[simp] theorem Core.onSup_auth (c : Core) (f : Supply → Supply) : (c.onSup f).auth = c.auth := rfl
@[simp] theorem Core.onSup_alloc (c : Core) (f : Supply → Supply) : (c.onSup f).alloc = c.alloc := rfl
@[simp] theorem Core.onSup_heater (c : Core) (f : Supply → Supply) : (c.onSup f).heater = c.heater := rfl
@[simp] theorem Core.onSup_mon (c : Core) (f : Supply → Supply) : (c.onSup f).mon = c.mon := rfl
@[simp] theorem Core.onSup_meter (c : Core) (f : Supply → Supply) : (c.onSup f).meter = c.meter := rfl
@[simp] theorem Core.onSup_queue (c : Core) (f : Supply → Supply) : (c.onSup f).queue = c.queue := rfl
@[simp] theorem Core.onSup_link (c : Core) (f : Supply → Supply) : (c.onSup f).link = c.link := rfl
@[simp] theorem Core.onSup_notices (c : Core) (f : Supply → Supply) : (c.onSup f).notices = c.notices := rfl
@[simp] theorem Core.onSup_sup (c : Core) (f : Supply → Supply) : (c.onSup f).sup = f c.sup := rfl
@[simp] theorem Core.onSup_drawn (c : Core) (f : Supply → Supply) : (c.onSup f).drawn = c.drawn := rfl

@[simp] theorem Core.draw_session (c : Core) : c.draw.session = c.session := rfl
@[simp] theorem Core.draw_auth (c : Core) : c.draw.auth = c.auth := rfl
@[simp] theorem Core.draw_alloc (c : Core) : c.draw.alloc = c.alloc := rfl
@[simp] theorem Core.draw_heater (c : Core) : c.draw.heater = c.heater := rfl
@[simp] theorem Core.draw_mon (c : Core) : c.draw.mon = c.mon := rfl
@[simp] theorem Core.draw_meter (c : Core) : c.draw.meter = c.meter := rfl
@[simp] theorem Core.draw_queue (c : Core) : c.draw.queue = c.queue := rfl
@[simp] theorem Core.draw_link (c : Core) : c.draw.link = c.link := rfl
@[simp] theorem Core.draw_notices (c : Core) : c.draw.notices = c.notices := rfl
@[simp] theorem Core.draw_sup (c : Core) : c.draw.sup = c.sup := rfl
@[simp] theorem Core.draw_drawn (c : Core) : c.draw.drawn = c.drawn + 1 := rfl

/-! ### Updates of State -/

@[simp] theorem State.onCore_env (s : State) (f : Core → Core) : (s.onCore f).env = s.env := rfl
@[simp] theorem State.onCore_core (s : State) (f : Core → Core) : (s.onCore f).core = f s.core := rfl
@[simp] theorem State.onCore_vport (s : State) (f : Core → Core) : (s.onCore f).vport = s.vport := rfl
@[simp] theorem State.onCore_fport (s : State) (f : Core → Core) : (s.onCore f).fport = s.fport := rfl
@[simp] theorem State.onCore_lines (s : State) (f : Core → Core) : (s.onCore f).lines = s.lines := rfl
@[simp] theorem State.onCore_pending (s : State) (f : Core → Core) : (s.onCore f).pending = s.pending := rfl

@[simp] theorem State.run_env (s : State) (f : Env → Core → Core) : (s.run f).env = s.env := rfl
@[simp] theorem State.run_core (s : State) (f : Env → Core → Core) : (s.run f).core = f s.env s.core := rfl
@[simp] theorem State.run_vport (s : State) (f : Env → Core → Core) : (s.run f).vport = s.vport := rfl
@[simp] theorem State.run_fport (s : State) (f : Env → Core → Core) : (s.run f).fport = s.fport := rfl
@[simp] theorem State.run_lines (s : State) (f : Env → Core → Core) : (s.run f).lines = s.lines := rfl
@[simp] theorem State.run_pending (s : State) (f : Env → Core → Core) : (s.run f).pending = s.pending := rfl

@[simp] theorem State.onVport_env (s : State) (f : VehiclePort → VehiclePort) : (s.onVport f).env = s.env := rfl
@[simp] theorem State.onVport_core (s : State) (f : VehiclePort → VehiclePort) : (s.onVport f).core = s.core := rfl
@[simp] theorem State.onVport_vport (s : State) (f : VehiclePort → VehiclePort) : (s.onVport f).vport = f s.vport := rfl
@[simp] theorem State.onVport_fport (s : State) (f : VehiclePort → VehiclePort) : (s.onVport f).fport = s.fport := rfl
@[simp] theorem State.onVport_lines (s : State) (f : VehiclePort → VehiclePort) : (s.onVport f).lines = s.lines := rfl
@[simp] theorem State.onVport_pending (s : State) (f : VehiclePort → VehiclePort) : (s.onVport f).pending = s.pending := rfl

@[simp] theorem State.onFport_env (s : State) (f : FleetPort → FleetPort) : (s.onFport f).env = s.env := rfl
@[simp] theorem State.onFport_core (s : State) (f : FleetPort → FleetPort) : (s.onFport f).core = s.core := rfl
@[simp] theorem State.onFport_vport (s : State) (f : FleetPort → FleetPort) : (s.onFport f).vport = s.vport := rfl
@[simp] theorem State.onFport_fport (s : State) (f : FleetPort → FleetPort) : (s.onFport f).fport = f s.fport := rfl
@[simp] theorem State.onFport_lines (s : State) (f : FleetPort → FleetPort) : (s.onFport f).lines = s.lines := rfl
@[simp] theorem State.onFport_pending (s : State) (f : FleetPort → FleetPort) : (s.onFport f).pending = s.pending := rfl

@[simp] theorem State.onMfe_env (s : State) (f : Mfe → Mfe) : (s.onMfe f).env = { s.env with mfe := f s.env.mfe } := rfl
@[simp] theorem State.onMfe_core (s : State) (f : Mfe → Mfe) : (s.onMfe f).core = s.core := rfl
@[simp] theorem State.onMfe_vport (s : State) (f : Mfe → Mfe) : (s.onMfe f).vport = s.vport := rfl
@[simp] theorem State.onMfe_fport (s : State) (f : Mfe → Mfe) : (s.onMfe f).fport = s.fport := rfl
@[simp] theorem State.onMfe_lines (s : State) (f : Mfe → Mfe) : (s.onMfe f).lines = s.lines := rfl
@[simp] theorem State.onMfe_pending (s : State) (f : Mfe → Mfe) : (s.onMfe f).pending = s.pending := rfl

@[simp] theorem State.onCfg_env (s : State) (f : ConfigRecord → ConfigRecord) : (s.onCfg f).env = { s.env with cfg := f s.env.cfg } := rfl
@[simp] theorem State.onCfg_core (s : State) (f : ConfigRecord → ConfigRecord) : (s.onCfg f).core = s.core := rfl
@[simp] theorem State.onCfg_vport (s : State) (f : ConfigRecord → ConfigRecord) : (s.onCfg f).vport = s.vport := rfl
@[simp] theorem State.onCfg_fport (s : State) (f : ConfigRecord → ConfigRecord) : (s.onCfg f).fport = s.fport := rfl
@[simp] theorem State.onCfg_lines (s : State) (f : ConfigRecord → ConfigRecord) : (s.onCfg f).lines = s.lines := rfl
@[simp] theorem State.onCfg_pending (s : State) (f : ConfigRecord → ConfigRecord) : (s.onCfg f).pending = s.pending := rfl

@[simp] theorem State.withTable_env (s : State) (t : List TempRow) : (s.withTable t).env = { s.env with table := t } := rfl
@[simp] theorem State.withTable_core (s : State) (t : List TempRow) : (s.withTable t).core = s.core := rfl
@[simp] theorem State.withTable_vport (s : State) (t : List TempRow) : (s.withTable t).vport = s.vport := rfl
@[simp] theorem State.withTable_fport (s : State) (t : List TempRow) : (s.withTable t).fport = s.fport := rfl
@[simp] theorem State.withTable_lines (s : State) (t : List TempRow) : (s.withTable t).lines = s.lines := rfl
@[simp] theorem State.withTable_pending (s : State) (t : List TempRow) : (s.withTable t).pending = s.pending := rfl

@[simp] theorem State.withPending_env (s : State) (l : List Instr) : (s.withPending l).env = s.env := rfl
@[simp] theorem State.withPending_core (s : State) (l : List Instr) : (s.withPending l).core = s.core := rfl
@[simp] theorem State.withPending_vport (s : State) (l : List Instr) : (s.withPending l).vport = s.vport := rfl
@[simp] theorem State.withPending_fport (s : State) (l : List Instr) : (s.withPending l).fport = s.fport := rfl
@[simp] theorem State.withPending_lines (s : State) (l : List Instr) : (s.withPending l).lines = s.lines := rfl
@[simp] theorem State.withPending_pending (s : State) (l : List Instr) : (s.withPending l).pending = l := rfl

@[simp] theorem State.settle_env (s : State) : s.settle.env = s.env := rfl
@[simp] theorem State.settle_core (s : State) : s.settle.core = s.core := rfl
@[simp] theorem State.settle_vport (s : State) : s.settle.vport = { s.vport with ready := s.vport.ready && s.core.sup.held.isNone } := rfl
@[simp] theorem State.settle_fport (s : State) : s.settle.fport = s.fport := rfl
@[simp] theorem State.settle_lines (s : State) : s.settle.lines = linesOf s.core := rfl
@[simp] theorem State.settle_pending (s : State) : s.settle.pending = s.pending := rfl

theorem State.done_eq (s : State) : s.done = .next s.settle := rfl

end Sys2Proof.Machine
end

