-- ==== Sys2Proof/Laws/Frames.lean ====
section
/-! SUPPORT. Frame lemmas: the blocks that each shared operation leaves alone. -/

namespace Sys2Proof.Machine

@[simp] theorem post_session (n : Notice) (c : Core) : (post n c).session = c.session := by
  unfold post; (try simp only); (repeat' split) <;> simp
@[simp] theorem post_auth (n : Notice) (c : Core) : (post n c).auth = c.auth := by
  unfold post; (try simp only); (repeat' split) <;> simp
@[simp] theorem post_alloc (n : Notice) (c : Core) : (post n c).alloc = c.alloc := by
  unfold post; (try simp only); (repeat' split) <;> simp
@[simp] theorem post_heater (n : Notice) (c : Core) : (post n c).heater = c.heater := by
  unfold post; (try simp only); (repeat' split) <;> simp
@[simp] theorem post_mon (n : Notice) (c : Core) : (post n c).mon = c.mon := by
  unfold post; (try simp only); (repeat' split) <;> simp
@[simp] theorem post_meter (n : Notice) (c : Core) : (post n c).meter = c.meter := by
  unfold post; (try simp only); (repeat' split) <;> simp
@[simp] theorem post_queue (n : Notice) (c : Core) : (post n c).queue = c.queue := by
  unfold post; (try simp only); (repeat' split) <;> simp
@[simp] theorem post_link (n : Notice) (c : Core) : (post n c).link = c.link := by
  unfold post; (try simp only); (repeat' split) <;> simp
@[simp] theorem post_sup (n : Notice) (c : Core) : (post n c).sup = c.sup := by
  unfold post; (try simp only); (repeat' split) <;> simp

@[simp] theorem postSensorFault_session (zones : Byte) (c : Core) : (postSensorFault zones c).session = c.session := by
  unfold postSensorFault; (try simp only); (repeat' split) <;> simp
@[simp] theorem postSensorFault_auth (zones : Byte) (c : Core) : (postSensorFault zones c).auth = c.auth := by
  unfold postSensorFault; (try simp only); (repeat' split) <;> simp
@[simp] theorem postSensorFault_alloc (zones : Byte) (c : Core) : (postSensorFault zones c).alloc = c.alloc := by
  unfold postSensorFault; (try simp only); (repeat' split) <;> simp
@[simp] theorem postSensorFault_heater (zones : Byte) (c : Core) : (postSensorFault zones c).heater = c.heater := by
  unfold postSensorFault; (try simp only); (repeat' split) <;> simp
@[simp] theorem postSensorFault_mon (zones : Byte) (c : Core) : (postSensorFault zones c).mon = c.mon := by
  unfold postSensorFault; (try simp only); (repeat' split) <;> simp
@[simp] theorem postSensorFault_meter (zones : Byte) (c : Core) : (postSensorFault zones c).meter = c.meter := by
  unfold postSensorFault; (try simp only); (repeat' split) <;> simp
@[simp] theorem postSensorFault_queue (zones : Byte) (c : Core) : (postSensorFault zones c).queue = c.queue := by
  unfold postSensorFault; (try simp only); (repeat' split) <;> simp
@[simp] theorem postSensorFault_link (zones : Byte) (c : Core) : (postSensorFault zones c).link = c.link := by
  unfold postSensorFault; (try simp only); (repeat' split) <;> simp
@[simp] theorem postSensorFault_sup (zones : Byte) (c : Core) : (postSensorFault zones c).sup = c.sup := by
  unfold postSensorFault; (try simp only); (repeat' split) <;> simp

@[simp] theorem postTxFail_session (k : TxKind) (c : Core) : (postTxFail k c).session = c.session := by
  unfold postTxFail; (try simp only); (repeat' split) <;> simp
@[simp] theorem postTxFail_auth (k : TxKind) (c : Core) : (postTxFail k c).auth = c.auth := by
  unfold postTxFail; (try simp only); (repeat' split) <;> simp
@[simp] theorem postTxFail_alloc (k : TxKind) (c : Core) : (postTxFail k c).alloc = c.alloc := by
  unfold postTxFail; (try simp only); (repeat' split) <;> simp
@[simp] theorem postTxFail_heater (k : TxKind) (c : Core) : (postTxFail k c).heater = c.heater := by
  unfold postTxFail; (try simp only); (repeat' split) <;> simp
@[simp] theorem postTxFail_mon (k : TxKind) (c : Core) : (postTxFail k c).mon = c.mon := by
  unfold postTxFail; (try simp only); (repeat' split) <;> simp
@[simp] theorem postTxFail_meter (k : TxKind) (c : Core) : (postTxFail k c).meter = c.meter := by
  unfold postTxFail; (try simp only); (repeat' split) <;> simp
@[simp] theorem postTxFail_queue (k : TxKind) (c : Core) : (postTxFail k c).queue = c.queue := by
  unfold postTxFail; (try simp only); (repeat' split) <;> simp
@[simp] theorem postTxFail_link (k : TxKind) (c : Core) : (postTxFail k c).link = c.link := by
  unfold postTxFail; (try simp only); (repeat' split) <;> simp
@[simp] theorem postTxFail_sup (k : TxKind) (c : Core) : (postTxFail k c).sup = c.sup := by
  unfold postTxFail; (try simp only); (repeat' split) <;> simp

@[simp] theorem postWake_session (sources : Byte) (c : Core) : (postWake sources c).session = c.session := by
  unfold postWake; (try simp only); (repeat' split) <;> simp
@[simp] theorem postWake_auth (sources : Byte) (c : Core) : (postWake sources c).auth = c.auth := by
  unfold postWake; (try simp only); (repeat' split) <;> simp
@[simp] theorem postWake_alloc (sources : Byte) (c : Core) : (postWake sources c).alloc = c.alloc := by
  unfold postWake; (try simp only); (repeat' split) <;> simp
@[simp] theorem postWake_heater (sources : Byte) (c : Core) : (postWake sources c).heater = c.heater := by
  unfold postWake; (try simp only); (repeat' split) <;> simp
@[simp] theorem postWake_mon (sources : Byte) (c : Core) : (postWake sources c).mon = c.mon := by
  unfold postWake; (try simp only); (repeat' split) <;> simp
@[simp] theorem postWake_meter (sources : Byte) (c : Core) : (postWake sources c).meter = c.meter := by
  unfold postWake; (try simp only); (repeat' split) <;> simp
@[simp] theorem postWake_queue (sources : Byte) (c : Core) : (postWake sources c).queue = c.queue := by
  unfold postWake; (try simp only); (repeat' split) <;> simp
@[simp] theorem postWake_link (sources : Byte) (c : Core) : (postWake sources c).link = c.link := by
  unfold postWake; (try simp only); (repeat' split) <;> simp
@[simp] theorem postWake_sup (sources : Byte) (c : Core) : (postWake sources c).sup = c.sup := by
  unfold postWake; (try simp only); (repeat' split) <;> simp

@[simp] theorem placeMessage_session (e : Env) (k : TxKind) (content : List Byte) (c : Core) : (placeMessage e k content c).session = c.session := by
  unfold placeMessage; (try simp only); (repeat' split) <;> simp
@[simp] theorem placeMessage_auth (e : Env) (k : TxKind) (content : List Byte) (c : Core) : (placeMessage e k content c).auth = c.auth := by
  unfold placeMessage; (try simp only); (repeat' split) <;> simp
@[simp] theorem placeMessage_alloc (e : Env) (k : TxKind) (content : List Byte) (c : Core) : (placeMessage e k content c).alloc = c.alloc := by
  unfold placeMessage; (try simp only); (repeat' split) <;> simp
@[simp] theorem placeMessage_heater (e : Env) (k : TxKind) (content : List Byte) (c : Core) : (placeMessage e k content c).heater = c.heater := by
  unfold placeMessage; (try simp only); (repeat' split) <;> simp
@[simp] theorem placeMessage_mon (e : Env) (k : TxKind) (content : List Byte) (c : Core) : (placeMessage e k content c).mon = c.mon := by
  unfold placeMessage; (try simp only); (repeat' split) <;> simp
@[simp] theorem placeMessage_meter (e : Env) (k : TxKind) (content : List Byte) (c : Core) : (placeMessage e k content c).meter = c.meter := by
  unfold placeMessage; (try simp only); (repeat' split) <;> simp
@[simp] theorem placeMessage_queue (e : Env) (k : TxKind) (content : List Byte) (c : Core) : (placeMessage e k content c).queue = c.queue := by
  unfold placeMessage; (try simp only); (repeat' split) <;> simp
@[simp] theorem placeMessage_sup (e : Env) (k : TxKind) (content : List Byte) (c : Core) : (placeMessage e k content c).sup = c.sup := by
  unfold placeMessage; (try simp only); (repeat' split) <;> simp

@[simp] theorem placeStatus_session (e : Env) (c : Core) : (placeStatus e c).session = c.session := by
  unfold placeStatus; (try simp only); (repeat' split) <;> simp
@[simp] theorem placeStatus_auth (e : Env) (c : Core) : (placeStatus e c).auth = c.auth := by
  unfold placeStatus; (try simp only); (repeat' split) <;> simp
@[simp] theorem placeStatus_alloc (e : Env) (c : Core) : (placeStatus e c).alloc = c.alloc := by
  unfold placeStatus; (try simp only); (repeat' split) <;> simp
@[simp] theorem placeStatus_heater (e : Env) (c : Core) : (placeStatus e c).heater = c.heater := by
  unfold placeStatus; (try simp only); (repeat' split) <;> simp
@[simp] theorem placeStatus_mon (e : Env) (c : Core) : (placeStatus e c).mon = c.mon := by
  unfold placeStatus; (try simp only); (repeat' split) <;> simp
@[simp] theorem placeStatus_meter (e : Env) (c : Core) : (placeStatus e c).meter = c.meter := by
  unfold placeStatus; (try simp only); (repeat' split) <;> simp
@[simp] theorem placeStatus_queue (e : Env) (c : Core) : (placeStatus e c).queue = c.queue := by
  unfold placeStatus; (try simp only); (repeat' split) <;> simp
@[simp] theorem placeStatus_sup (e : Env) (c : Core) : (placeStatus e c).sup = c.sup := by
  unfold placeStatus; (try simp only); (repeat' split) <;> simp

@[simp] theorem placeAuthRequest_session (e : Env) (c : Core) : (placeAuthRequest e c).session = c.session := by
  unfold placeAuthRequest; (try simp only); (repeat' split) <;> simp
@[simp] theorem placeAuthRequest_auth (e : Env) (c : Core) : (placeAuthRequest e c).auth = c.auth := by
  unfold placeAuthRequest; (try simp only); (repeat' split) <;> simp
@[simp] theorem placeAuthRequest_alloc (e : Env) (c : Core) : (placeAuthRequest e c).alloc = c.alloc := by
  unfold placeAuthRequest; (try simp only); (repeat' split) <;> simp
@[simp] theorem placeAuthRequest_heater (e : Env) (c : Core) : (placeAuthRequest e c).heater = c.heater := by
  unfold placeAuthRequest; (try simp only); (repeat' split) <;> simp
@[simp] theorem placeAuthRequest_mon (e : Env) (c : Core) : (placeAuthRequest e c).mon = c.mon := by
  unfold placeAuthRequest; (try simp only); (repeat' split) <;> simp
@[simp] theorem placeAuthRequest_meter (e : Env) (c : Core) : (placeAuthRequest e c).meter = c.meter := by
  unfold placeAuthRequest; (try simp only); (repeat' split) <;> simp
@[simp] theorem placeAuthRequest_queue (e : Env) (c : Core) : (placeAuthRequest e c).queue = c.queue := by
  unfold placeAuthRequest; (try simp only); (repeat' split) <;> simp
@[simp] theorem placeAuthRequest_sup (e : Env) (c : Core) : (placeAuthRequest e c).sup = c.sup := by
  unfold placeAuthRequest; (try simp only); (repeat' split) <;> simp

@[simp] theorem placeSummary_session (e : Env) (r : BillingRecord) (c : Core) : (placeSummary e r c).session = c.session := by
  unfold placeSummary; (try simp only); (repeat' split) <;> simp
@[simp] theorem placeSummary_auth (e : Env) (r : BillingRecord) (c : Core) : (placeSummary e r c).auth = c.auth := by
  unfold placeSummary; (try simp only); (repeat' split) <;> simp
@[simp] theorem placeSummary_alloc (e : Env) (r : BillingRecord) (c : Core) : (placeSummary e r c).alloc = c.alloc := by
  unfold placeSummary; (try simp only); (repeat' split) <;> simp
@[simp] theorem placeSummary_heater (e : Env) (r : BillingRecord) (c : Core) : (placeSummary e r c).heater = c.heater := by
  unfold placeSummary; (try simp only); (repeat' split) <;> simp
@[simp] theorem placeSummary_mon (e : Env) (r : BillingRecord) (c : Core) : (placeSummary e r c).mon = c.mon := by
  unfold placeSummary; (try simp only); (repeat' split) <;> simp
@[simp] theorem placeSummary_meter (e : Env) (r : BillingRecord) (c : Core) : (placeSummary e r c).meter = c.meter := by
  unfold placeSummary; (try simp only); (repeat' split) <;> simp
@[simp] theorem placeSummary_queue (e : Env) (r : BillingRecord) (c : Core) : (placeSummary e r c).queue = c.queue := by
  unfold placeSummary; (try simp only); (repeat' split) <;> simp
@[simp] theorem placeSummary_sup (e : Env) (r : BillingRecord) (c : Core) : (placeSummary e r c).sup = c.sup := by
  unfold placeSummary; (try simp only); (repeat' split) <;> simp

@[simp] theorem finishAttempt_session (o : TxOutcome) (c : Core) : (finishAttempt o c).session = c.session := by
  unfold finishAttempt; (try simp only); (repeat' split) <;> simp
@[simp] theorem finishAttempt_auth (o : TxOutcome) (c : Core) : (finishAttempt o c).auth = c.auth := by
  unfold finishAttempt; (try simp only); (repeat' split) <;> simp
@[simp] theorem finishAttempt_alloc (o : TxOutcome) (c : Core) : (finishAttempt o c).alloc = c.alloc := by
  unfold finishAttempt; (try simp only); (repeat' split) <;> simp
@[simp] theorem finishAttempt_heater (o : TxOutcome) (c : Core) : (finishAttempt o c).heater = c.heater := by
  unfold finishAttempt; (try simp only); (repeat' split) <;> simp
@[simp] theorem finishAttempt_mon (o : TxOutcome) (c : Core) : (finishAttempt o c).mon = c.mon := by
  unfold finishAttempt; (try simp only); (repeat' split) <;> simp
@[simp] theorem finishAttempt_meter (o : TxOutcome) (c : Core) : (finishAttempt o c).meter = c.meter := by
  unfold finishAttempt; (try simp only); (repeat' split) <;> simp
@[simp] theorem finishAttempt_queue (o : TxOutcome) (c : Core) : (finishAttempt o c).queue = c.queue := by
  unfold finishAttempt; (try simp only); (repeat' split) <;> simp
@[simp] theorem finishAttempt_sup (o : TxOutcome) (c : Core) : (finishAttempt o c).sup = c.sup := by
  unfold finishAttempt; (try simp only); (repeat' split) <;> simp

@[simp] theorem expireCurrent_session (k : TxKind) (c : Core) : (expireCurrent k c).session = c.session := by
  unfold expireCurrent; (try simp only); (repeat' split) <;> simp
@[simp] theorem expireCurrent_auth (k : TxKind) (c : Core) : (expireCurrent k c).auth = c.auth := by
  unfold expireCurrent; (try simp only); (repeat' split) <;> simp
@[simp] theorem expireCurrent_alloc (k : TxKind) (c : Core) : (expireCurrent k c).alloc = c.alloc := by
  unfold expireCurrent; (try simp only); (repeat' split) <;> simp
@[simp] theorem expireCurrent_heater (k : TxKind) (c : Core) : (expireCurrent k c).heater = c.heater := by
  unfold expireCurrent; (try simp only); (repeat' split) <;> simp
@[simp] theorem expireCurrent_mon (k : TxKind) (c : Core) : (expireCurrent k c).mon = c.mon := by
  unfold expireCurrent; (try simp only); (repeat' split) <;> simp
@[simp] theorem expireCurrent_meter (k : TxKind) (c : Core) : (expireCurrent k c).meter = c.meter := by
  unfold expireCurrent; (try simp only); (repeat' split) <;> simp
@[simp] theorem expireCurrent_queue (k : TxKind) (c : Core) : (expireCurrent k c).queue = c.queue := by
  unfold expireCurrent; (try simp only); (repeat' split) <;> simp
@[simp] theorem expireCurrent_sup (k : TxKind) (c : Core) : (expireCurrent k c).sup = c.sup := by
  unfold expireCurrent; (try simp only); (repeat' split) <;> simp

@[simp] theorem expireSuccessor_session (k : TxKind) (c : Core) : (expireSuccessor k c).session = c.session := by
  unfold expireSuccessor; (try simp only); (repeat' split) <;> simp
@[simp] theorem expireSuccessor_auth (k : TxKind) (c : Core) : (expireSuccessor k c).auth = c.auth := by
  unfold expireSuccessor; (try simp only); (repeat' split) <;> simp
@[simp] theorem expireSuccessor_alloc (k : TxKind) (c : Core) : (expireSuccessor k c).alloc = c.alloc := by
  unfold expireSuccessor; (try simp only); (repeat' split) <;> simp
@[simp] theorem expireSuccessor_heater (k : TxKind) (c : Core) : (expireSuccessor k c).heater = c.heater := by
  unfold expireSuccessor; (try simp only); (repeat' split) <;> simp
@[simp] theorem expireSuccessor_mon (k : TxKind) (c : Core) : (expireSuccessor k c).mon = c.mon := by
  unfold expireSuccessor; (try simp only); (repeat' split) <;> simp
@[simp] theorem expireSuccessor_meter (k : TxKind) (c : Core) : (expireSuccessor k c).meter = c.meter := by
  unfold expireSuccessor; (try simp only); (repeat' split) <;> simp
@[simp] theorem expireSuccessor_queue (k : TxKind) (c : Core) : (expireSuccessor k c).queue = c.queue := by
  unfold expireSuccessor; (try simp only); (repeat' split) <;> simp
@[simp] theorem expireSuccessor_sup (k : TxKind) (c : Core) : (expireSuccessor k c).sup = c.sup := by
  unfold expireSuccessor; (try simp only); (repeat' split) <;> simp

@[simp] theorem hearPost_session (c : Core) : (hearPost c).session = c.session := by
  unfold hearPost; (try simp only); (repeat' split) <;> simp
@[simp] theorem hearPost_auth (c : Core) : (hearPost c).auth = c.auth := by
  unfold hearPost; (try simp only); (repeat' split) <;> simp
@[simp] theorem hearPost_alloc (c : Core) : (hearPost c).alloc = c.alloc := by
  unfold hearPost; (try simp only); (repeat' split) <;> simp
@[simp] theorem hearPost_heater (c : Core) : (hearPost c).heater = c.heater := by
  unfold hearPost; (try simp only); (repeat' split) <;> simp
@[simp] theorem hearPost_mon (c : Core) : (hearPost c).mon = c.mon := by
  unfold hearPost; (try simp only); (repeat' split) <;> simp
@[simp] theorem hearPost_meter (c : Core) : (hearPost c).meter = c.meter := by
  unfold hearPost; (try simp only); (repeat' split) <;> simp
@[simp] theorem hearPost_queue (c : Core) : (hearPost c).queue = c.queue := by
  unfold hearPost; (try simp only); (repeat' split) <;> simp
@[simp] theorem hearPost_sup (c : Core) : (hearPost c).sup = c.sup := by
  unfold hearPost; (try simp only); (repeat' split) <;> simp

@[simp] theorem loseLink_session (c : Core) : (loseLink c).session = c.session := by
  unfold loseLink; (try simp only); (repeat' split) <;> simp
@[simp] theorem loseLink_auth (c : Core) : (loseLink c).auth = c.auth := by
  unfold loseLink; (try simp only); (repeat' split) <;> simp
@[simp] theorem loseLink_alloc (c : Core) : (loseLink c).alloc = c.alloc := by
  unfold loseLink; (try simp only); (repeat' split) <;> simp
@[simp] theorem loseLink_heater (c : Core) : (loseLink c).heater = c.heater := by
  unfold loseLink; (try simp only); (repeat' split) <;> simp
@[simp] theorem loseLink_mon (c : Core) : (loseLink c).mon = c.mon := by
  unfold loseLink; (try simp only); (repeat' split) <;> simp
@[simp] theorem loseLink_meter (c : Core) : (loseLink c).meter = c.meter := by
  unfold loseLink; (try simp only); (repeat' split) <;> simp
@[simp] theorem loseLink_queue (c : Core) : (loseLink c).queue = c.queue := by
  unfold loseLink; (try simp only); (repeat' split) <;> simp
@[simp] theorem loseLink_sup (c : Core) : (loseLink c).sup = c.sup := by
  unfold loseLink; (try simp only); (repeat' split) <;> simp

@[simp] theorem takePowerLimit_session (limit : Nat) (c : Core) : (takePowerLimit limit c).session = c.session := by
  unfold takePowerLimit; (try simp only); (repeat' split) <;> simp
@[simp] theorem takePowerLimit_auth (limit : Nat) (c : Core) : (takePowerLimit limit c).auth = c.auth := by
  unfold takePowerLimit; (try simp only); (repeat' split) <;> simp
@[simp] theorem takePowerLimit_alloc (limit : Nat) (c : Core) : (takePowerLimit limit c).alloc = c.alloc := by
  unfold takePowerLimit; (try simp only); (repeat' split) <;> simp
@[simp] theorem takePowerLimit_heater (limit : Nat) (c : Core) : (takePowerLimit limit c).heater = c.heater := by
  unfold takePowerLimit; (try simp only); (repeat' split) <;> simp
@[simp] theorem takePowerLimit_mon (limit : Nat) (c : Core) : (takePowerLimit limit c).mon = c.mon := by
  unfold takePowerLimit; (try simp only); (repeat' split) <;> simp
@[simp] theorem takePowerLimit_meter (limit : Nat) (c : Core) : (takePowerLimit limit c).meter = c.meter := by
  unfold takePowerLimit; (try simp only); (repeat' split) <;> simp
@[simp] theorem takePowerLimit_queue (limit : Nat) (c : Core) : (takePowerLimit limit c).queue = c.queue := by
  unfold takePowerLimit; (try simp only); (repeat' split) <;> simp
@[simp] theorem takePowerLimit_sup (limit : Nat) (c : Core) : (takePowerLimit limit c).sup = c.sup := by
  unfold takePowerLimit; (try simp only); (repeat' split) <;> simp

@[simp] theorem stalePostLimit_session (c : Core) : (stalePostLimit c).session = c.session := by
  unfold stalePostLimit; (try simp only); (repeat' split) <;> simp
@[simp] theorem stalePostLimit_auth (c : Core) : (stalePostLimit c).auth = c.auth := by
  unfold stalePostLimit; (try simp only); (repeat' split) <;> simp
@[simp] theorem stalePostLimit_alloc (c : Core) : (stalePostLimit c).alloc = c.alloc := by
  unfold stalePostLimit; (try simp only); (repeat' split) <;> simp
@[simp] theorem stalePostLimit_heater (c : Core) : (stalePostLimit c).heater = c.heater := by
  unfold stalePostLimit; (try simp only); (repeat' split) <;> simp
@[simp] theorem stalePostLimit_mon (c : Core) : (stalePostLimit c).mon = c.mon := by
  unfold stalePostLimit; (try simp only); (repeat' split) <;> simp
@[simp] theorem stalePostLimit_meter (c : Core) : (stalePostLimit c).meter = c.meter := by
  unfold stalePostLimit; (try simp only); (repeat' split) <;> simp
@[simp] theorem stalePostLimit_queue (c : Core) : (stalePostLimit c).queue = c.queue := by
  unfold stalePostLimit; (try simp only); (repeat' split) <;> simp
@[simp] theorem stalePostLimit_sup (c : Core) : (stalePostLimit c).sup = c.sup := by
  unfold stalePostLimit; (try simp only); (repeat' split) <;> simp

@[simp] theorem forgetPostLimit_session (c : Core) : (forgetPostLimit c).session = c.session := by
  unfold forgetPostLimit; (try simp only); (repeat' split) <;> simp
@[simp] theorem forgetPostLimit_auth (c : Core) : (forgetPostLimit c).auth = c.auth := by
  unfold forgetPostLimit; (try simp only); (repeat' split) <;> simp
@[simp] theorem forgetPostLimit_alloc (c : Core) : (forgetPostLimit c).alloc = c.alloc := by
  unfold forgetPostLimit; (try simp only); (repeat' split) <;> simp
@[simp] theorem forgetPostLimit_heater (c : Core) : (forgetPostLimit c).heater = c.heater := by
  unfold forgetPostLimit; (try simp only); (repeat' split) <;> simp
@[simp] theorem forgetPostLimit_mon (c : Core) : (forgetPostLimit c).mon = c.mon := by
  unfold forgetPostLimit; (try simp only); (repeat' split) <;> simp
@[simp] theorem forgetPostLimit_meter (c : Core) : (forgetPostLimit c).meter = c.meter := by
  unfold forgetPostLimit; (try simp only); (repeat' split) <;> simp
@[simp] theorem forgetPostLimit_queue (c : Core) : (forgetPostLimit c).queue = c.queue := by
  unfold forgetPostLimit; (try simp only); (repeat' split) <;> simp
@[simp] theorem forgetPostLimit_sup (c : Core) : (forgetPostLimit c).sup = c.sup := by
  unfold forgetPostLimit; (try simp only); (repeat' split) <;> simp

@[simp] theorem disturb_session (c : Core) : (disturb c).session = c.session := by
  unfold disturb; (try simp only); (repeat' split) <;> simp
@[simp] theorem disturb_auth (c : Core) : (disturb c).auth = c.auth := by
  unfold disturb; (try simp only); (repeat' split) <;> simp
@[simp] theorem disturb_alloc (c : Core) : (disturb c).alloc = c.alloc := by
  unfold disturb; (try simp only); (repeat' split) <;> simp
@[simp] theorem disturb_heater (c : Core) : (disturb c).heater = c.heater := by
  unfold disturb; (try simp only); (repeat' split) <;> simp
@[simp] theorem disturb_meter (c : Core) : (disturb c).meter = c.meter := by
  unfold disturb; (try simp only); (repeat' split) <;> simp
@[simp] theorem disturb_queue (c : Core) : (disturb c).queue = c.queue := by
  unfold disturb; (try simp only); (repeat' split) <;> simp
@[simp] theorem disturb_link (c : Core) : (disturb c).link = c.link := by
  unfold disturb; (try simp only); (repeat' split) <;> simp
@[simp] theorem disturb_sup (c : Core) : (disturb c).sup = c.sup := by
  unfold disturb; (try simp only); (repeat' split) <;> simp

@[simp] theorem forcedEdge_session (c : Core) : (forcedEdge c).session = c.session := by
  unfold forcedEdge; (try simp only); (repeat' split) <;> simp
@[simp] theorem forcedEdge_auth (c : Core) : (forcedEdge c).auth = c.auth := by
  unfold forcedEdge; (try simp only); (repeat' split) <;> simp
@[simp] theorem forcedEdge_alloc (c : Core) : (forcedEdge c).alloc = c.alloc := by
  unfold forcedEdge; (try simp only); (repeat' split) <;> simp
@[simp] theorem forcedEdge_meter (c : Core) : (forcedEdge c).meter = c.meter := by
  unfold forcedEdge; (try simp only); (repeat' split) <;> simp
@[simp] theorem forcedEdge_queue (c : Core) : (forcedEdge c).queue = c.queue := by
  unfold forcedEdge; (try simp only); (repeat' split) <;> simp
@[simp] theorem forcedEdge_link (c : Core) : (forcedEdge c).link = c.link := by
  unfold forcedEdge; (try simp only); (repeat' split) <;> simp
@[simp] theorem forcedEdge_sup (c : Core) : (forcedEdge c).sup = c.sup := by
  unfold forcedEdge; (try simp only); (repeat' split) <;> simp

@[simp] theorem heaterOff_session (c : Core) : (heaterOff c).session = c.session := by
  unfold heaterOff; (try simp only); (repeat' split) <;> simp
@[simp] theorem heaterOff_auth (c : Core) : (heaterOff c).auth = c.auth := by
  unfold heaterOff; (try simp only); (repeat' split) <;> simp
@[simp] theorem heaterOff_alloc (c : Core) : (heaterOff c).alloc = c.alloc := by
  unfold heaterOff; (try simp only); (repeat' split) <;> simp
@[simp] theorem heaterOff_meter (c : Core) : (heaterOff c).meter = c.meter := by
  unfold heaterOff; (try simp only); (repeat' split) <;> simp
@[simp] theorem heaterOff_queue (c : Core) : (heaterOff c).queue = c.queue := by
  unfold heaterOff; (try simp only); (repeat' split) <;> simp
@[simp] theorem heaterOff_link (c : Core) : (heaterOff c).link = c.link := by
  unfold heaterOff; (try simp only); (repeat' split) <;> simp
@[simp] theorem heaterOff_sup (c : Core) : (heaterOff c).sup = c.sup := by
  unfold heaterOff; (try simp only); (repeat' split) <;> simp

@[simp] theorem inhibitZones_session (e : Env) (c : Core) : (inhibitZones e c).session = c.session := by
  unfold inhibitZones; (try simp only); (repeat' split) <;> simp
@[simp] theorem inhibitZones_auth (e : Env) (c : Core) : (inhibitZones e c).auth = c.auth := by
  unfold inhibitZones; (try simp only); (repeat' split) <;> simp
@[simp] theorem inhibitZones_alloc (e : Env) (c : Core) : (inhibitZones e c).alloc = c.alloc := by
  unfold inhibitZones; (try simp only); (repeat' split) <;> simp
@[simp] theorem inhibitZones_meter (e : Env) (c : Core) : (inhibitZones e c).meter = c.meter := by
  unfold inhibitZones; (try simp only); (repeat' split) <;> simp
@[simp] theorem inhibitZones_queue (e : Env) (c : Core) : (inhibitZones e c).queue = c.queue := by
  unfold inhibitZones; (try simp only); (repeat' split) <;> simp
@[simp] theorem inhibitZones_link (e : Env) (c : Core) : (inhibitZones e c).link = c.link := by
  unfold inhibitZones; (try simp only); (repeat' split) <;> simp
@[simp] theorem inhibitZones_sup (e : Env) (c : Core) : (inhibitZones e c).sup = c.sup := by
  unfold inhibitZones; (try simp only); (repeat' split) <;> simp

@[simp] theorem heaterTakeSet_session (e : Env) (c : Core) : (heaterTakeSet e c).session = c.session := by
  unfold heaterTakeSet; (try simp only); (repeat' split) <;> simp
@[simp] theorem heaterTakeSet_auth (e : Env) (c : Core) : (heaterTakeSet e c).auth = c.auth := by
  unfold heaterTakeSet; (try simp only); (repeat' split) <;> simp
@[simp] theorem heaterTakeSet_alloc (e : Env) (c : Core) : (heaterTakeSet e c).alloc = c.alloc := by
  unfold heaterTakeSet; (try simp only); (repeat' split) <;> simp
@[simp] theorem heaterTakeSet_meter (e : Env) (c : Core) : (heaterTakeSet e c).meter = c.meter := by
  unfold heaterTakeSet; (try simp only); (repeat' split) <;> simp
@[simp] theorem heaterTakeSet_queue (e : Env) (c : Core) : (heaterTakeSet e c).queue = c.queue := by
  unfold heaterTakeSet; (try simp only); (repeat' split) <;> simp
@[simp] theorem heaterTakeSet_link (e : Env) (c : Core) : (heaterTakeSet e c).link = c.link := by
  unfold heaterTakeSet; (try simp only); (repeat' split) <;> simp
@[simp] theorem heaterTakeSet_sup (e : Env) (c : Core) : (heaterTakeSet e c).sup = c.sup := by
  unfold heaterTakeSet; (try simp only); (repeat' split) <;> simp

@[simp] theorem heaterFollow_session (e : Env) (old new : SessionState) (c : Core) : (heaterFollow e old new c).session = c.session := by
  unfold heaterFollow; (try simp only); (repeat' split) <;> simp
@[simp] theorem heaterFollow_auth (e : Env) (old new : SessionState) (c : Core) : (heaterFollow e old new c).auth = c.auth := by
  unfold heaterFollow; (try simp only); (repeat' split) <;> simp
@[simp] theorem heaterFollow_alloc (e : Env) (old new : SessionState) (c : Core) : (heaterFollow e old new c).alloc = c.alloc := by
  unfold heaterFollow; (try simp only); (repeat' split) <;> simp
@[simp] theorem heaterFollow_meter (e : Env) (old new : SessionState) (c : Core) : (heaterFollow e old new c).meter = c.meter := by
  unfold heaterFollow; (try simp only); (repeat' split) <;> simp
@[simp] theorem heaterFollow_queue (e : Env) (old new : SessionState) (c : Core) : (heaterFollow e old new c).queue = c.queue := by
  unfold heaterFollow; (try simp only); (repeat' split) <;> simp
@[simp] theorem heaterFollow_link (e : Env) (old new : SessionState) (c : Core) : (heaterFollow e old new c).link = c.link := by
  unfold heaterFollow; (try simp only); (repeat' split) <;> simp
@[simp] theorem heaterFollow_sup (e : Env) (old new : SessionState) (c : Core) : (heaterFollow e old new c).sup = c.sup := by
  unfold heaterFollow; (try simp only); (repeat' split) <;> simp

@[simp] theorem boundaryDue_session (e : Env) (c : Core) : (boundaryDue e c).session = c.session := by
  unfold boundaryDue; (try simp only); (repeat' split) <;> simp
@[simp] theorem boundaryDue_auth (e : Env) (c : Core) : (boundaryDue e c).auth = c.auth := by
  unfold boundaryDue; (try simp only); (repeat' split) <;> simp
@[simp] theorem boundaryDue_alloc (e : Env) (c : Core) : (boundaryDue e c).alloc = c.alloc := by
  unfold boundaryDue; (try simp only); (repeat' split) <;> simp
@[simp] theorem boundaryDue_mon (e : Env) (c : Core) : (boundaryDue e c).mon = c.mon := by
  unfold boundaryDue; (try simp only); (repeat' split) <;> simp
@[simp] theorem boundaryDue_meter (e : Env) (c : Core) : (boundaryDue e c).meter = c.meter := by
  unfold boundaryDue; (try simp only); (repeat' split) <;> simp
@[simp] theorem boundaryDue_queue (e : Env) (c : Core) : (boundaryDue e c).queue = c.queue := by
  unfold boundaryDue; (try simp only); (repeat' split) <;> simp
@[simp] theorem boundaryDue_link (e : Env) (c : Core) : (boundaryDue e c).link = c.link := by
  unfold boundaryDue; (try simp only); (repeat' split) <;> simp
@[simp] theorem boundaryDue_sup (e : Env) (c : Core) : (boundaryDue e c).sup = c.sup := by
  unfold boundaryDue; (try simp only); (repeat' split) <;> simp

@[simp] theorem heaterWindowEnd_session (e : Env) (c : Core) : (heaterWindowEnd e c).session = c.session := by
  unfold heaterWindowEnd; (try simp only); (repeat' split) <;> simp
@[simp] theorem heaterWindowEnd_auth (e : Env) (c : Core) : (heaterWindowEnd e c).auth = c.auth := by
  unfold heaterWindowEnd; (try simp only); (repeat' split) <;> simp
@[simp] theorem heaterWindowEnd_alloc (e : Env) (c : Core) : (heaterWindowEnd e c).alloc = c.alloc := by
  unfold heaterWindowEnd; (try simp only); (repeat' split) <;> simp
@[simp] theorem heaterWindowEnd_mon (e : Env) (c : Core) : (heaterWindowEnd e c).mon = c.mon := by
  unfold heaterWindowEnd; (try simp only); (repeat' split) <;> simp
@[simp] theorem heaterWindowEnd_meter (e : Env) (c : Core) : (heaterWindowEnd e c).meter = c.meter := by
  unfold heaterWindowEnd; (try simp only); (repeat' split) <;> simp
@[simp] theorem heaterWindowEnd_queue (e : Env) (c : Core) : (heaterWindowEnd e c).queue = c.queue := by
  unfold heaterWindowEnd; (try simp only); (repeat' split) <;> simp
@[simp] theorem heaterWindowEnd_link (e : Env) (c : Core) : (heaterWindowEnd e c).link = c.link := by
  unfold heaterWindowEnd; (try simp only); (repeat' split) <;> simp
@[simp] theorem heaterWindowEnd_sup (e : Env) (c : Core) : (heaterWindowEnd e c).sup = c.sup := by
  unfold heaterWindowEnd; (try simp only); (repeat' split) <;> simp

@[simp] theorem trim_session (cfg : ConfigRecord) (v : Nat) (c : Core) : (trim cfg v c).session = c.session := by
  unfold trim; (try simp only); (repeat' split) <;> simp
@[simp] theorem trim_auth (cfg : ConfigRecord) (v : Nat) (c : Core) : (trim cfg v c).auth = c.auth := by
  unfold trim; (try simp only); (repeat' split) <;> simp
@[simp] theorem trim_alloc (cfg : ConfigRecord) (v : Nat) (c : Core) : (trim cfg v c).alloc = c.alloc := by
  unfold trim; (try simp only); (repeat' split) <;> simp
@[simp] theorem trim_meter (cfg : ConfigRecord) (v : Nat) (c : Core) : (trim cfg v c).meter = c.meter := by
  unfold trim; (try simp only); (repeat' split) <;> simp
@[simp] theorem trim_queue (cfg : ConfigRecord) (v : Nat) (c : Core) : (trim cfg v c).queue = c.queue := by
  unfold trim; (try simp only); (repeat' split) <;> simp
@[simp] theorem trim_link (cfg : ConfigRecord) (v : Nat) (c : Core) : (trim cfg v c).link = c.link := by
  unfold trim; (try simp only); (repeat' split) <;> simp
@[simp] theorem trim_sup (cfg : ConfigRecord) (v : Nat) (c : Core) : (trim cfg v c).sup = c.sup := by
  unfold trim; (try simp only); (repeat' split) <;> simp

@[simp] theorem handHeat_session (e : Env) (v : Nat) (c : Core) : (handHeat e v c).session = c.session := by
  unfold handHeat; (try simp only); (repeat' split) <;> simp
@[simp] theorem handHeat_auth (e : Env) (v : Nat) (c : Core) : (handHeat e v c).auth = c.auth := by
  unfold handHeat; (try simp only); (repeat' split) <;> simp
@[simp] theorem handHeat_alloc (e : Env) (v : Nat) (c : Core) : (handHeat e v c).alloc = c.alloc := by
  unfold handHeat; (try simp only); (repeat' split) <;> simp
@[simp] theorem handHeat_meter (e : Env) (v : Nat) (c : Core) : (handHeat e v c).meter = c.meter := by
  unfold handHeat; (try simp only); (repeat' split) <;> simp
@[simp] theorem handHeat_queue (e : Env) (v : Nat) (c : Core) : (handHeat e v c).queue = c.queue := by
  unfold handHeat; (try simp only); (repeat' split) <;> simp
@[simp] theorem handHeat_link (e : Env) (v : Nat) (c : Core) : (handHeat e v c).link = c.link := by
  unfold handHeat; (try simp only); (repeat' split) <;> simp
@[simp] theorem handHeat_sup (e : Env) (v : Nat) (c : Core) : (handHeat e v c).sup = c.sup := by
  unfold handHeat; (try simp only); (repeat' split) <;> simp

@[simp] theorem reportFall_session (before : Nat) (c : Core) : (reportFall before c).session = c.session := by
  unfold reportFall; (try simp only); (repeat' split) <;> simp
@[simp] theorem reportFall_auth (before : Nat) (c : Core) : (reportFall before c).auth = c.auth := by
  unfold reportFall; (try simp only); (repeat' split) <;> simp
@[simp] theorem reportFall_alloc (before : Nat) (c : Core) : (reportFall before c).alloc = c.alloc := by
  unfold reportFall; (try simp only); (repeat' split) <;> simp
@[simp] theorem reportFall_heater (before : Nat) (c : Core) : (reportFall before c).heater = c.heater := by
  unfold reportFall; (try simp only); (repeat' split) <;> simp
@[simp] theorem reportFall_meter (before : Nat) (c : Core) : (reportFall before c).meter = c.meter := by
  unfold reportFall; (try simp only); (repeat' split) <;> simp
@[simp] theorem reportFall_queue (before : Nat) (c : Core) : (reportFall before c).queue = c.queue := by
  unfold reportFall; (try simp only); (repeat' split) <;> simp
@[simp] theorem reportFall_link (before : Nat) (c : Core) : (reportFall before c).link = c.link := by
  unfold reportFall; (try simp only); (repeat' split) <;> simp
@[simp] theorem reportFall_sup (before : Nat) (c : Core) : (reportFall before c).sup = c.sup := by
  unfold reportFall; (try simp only); (repeat' split) <;> simp

@[simp] theorem leavePowered_session (c : Core) : (leavePowered c).session = c.session := by
  unfold leavePowered; (try simp only); (repeat' split) <;> simp
@[simp] theorem leavePowered_auth (c : Core) : (leavePowered c).auth = c.auth := by
  unfold leavePowered; (try simp only); (repeat' split) <;> simp
@[simp] theorem leavePowered_heater (c : Core) : (leavePowered c).heater = c.heater := by
  unfold leavePowered; (try simp only); (repeat' split) <;> simp
@[simp] theorem leavePowered_mon (c : Core) : (leavePowered c).mon = c.mon := by
  unfold leavePowered; (try simp only); (repeat' split) <;> simp
@[simp] theorem leavePowered_meter (c : Core) : (leavePowered c).meter = c.meter := by
  unfold leavePowered; (try simp only); (repeat' split) <;> simp
@[simp] theorem leavePowered_queue (c : Core) : (leavePowered c).queue = c.queue := by
  unfold leavePowered; (try simp only); (repeat' split) <;> simp
@[simp] theorem leavePowered_link (c : Core) : (leavePowered c).link = c.link := by
  unfold leavePowered; (try simp only); (repeat' split) <;> simp
@[simp] theorem leavePowered_sup (c : Core) : (leavePowered c).sup = c.sup := by
  unfold leavePowered; (try simp only); (repeat' split) <;> simp

@[simp] theorem allocFollow_session (old new : SessionState) (c : Core) : (allocFollow old new c).session = c.session := by
  unfold allocFollow; (try simp only); (repeat' split) <;> simp
@[simp] theorem allocFollow_auth (old new : SessionState) (c : Core) : (allocFollow old new c).auth = c.auth := by
  unfold allocFollow; (try simp only); (repeat' split) <;> simp
@[simp] theorem allocFollow_heater (old new : SessionState) (c : Core) : (allocFollow old new c).heater = c.heater := by
  unfold allocFollow; (try simp only); (repeat' split) <;> simp
@[simp] theorem allocFollow_mon (old new : SessionState) (c : Core) : (allocFollow old new c).mon = c.mon := by
  unfold allocFollow; (try simp only); (repeat' split) <;> simp
@[simp] theorem allocFollow_meter (old new : SessionState) (c : Core) : (allocFollow old new c).meter = c.meter := by
  unfold allocFollow; (try simp only); (repeat' split) <;> simp
@[simp] theorem allocFollow_queue (old new : SessionState) (c : Core) : (allocFollow old new c).queue = c.queue := by
  unfold allocFollow; (try simp only); (repeat' split) <;> simp
@[simp] theorem allocFollow_link (old new : SessionState) (c : Core) : (allocFollow old new c).link = c.link := by
  unfold allocFollow; (try simp only); (repeat' split) <;> simp
@[simp] theorem allocFollow_sup (old new : SessionState) (c : Core) : (allocFollow old new c).sup = c.sup := by
  unfold allocFollow; (try simp only); (repeat' split) <;> simp

@[simp] theorem changeState_auth (e : Env) (new : SessionState) (c : Core) : (changeState e new c).auth = c.auth := by
  unfold changeState; (try simp only); (repeat' split) <;> simp
@[simp] theorem changeState_meter (e : Env) (new : SessionState) (c : Core) : (changeState e new c).meter = c.meter := by
  unfold changeState; (try simp only); (repeat' split) <;> simp
@[simp] theorem changeState_queue (e : Env) (new : SessionState) (c : Core) : (changeState e new c).queue = c.queue := by
  unfold changeState; (try simp only); (repeat' split) <;> simp
@[simp] theorem changeState_link (e : Env) (new : SessionState) (c : Core) : (changeState e new c).link = c.link := by
  unfold changeState; (try simp only); (repeat' split) <;> simp
@[simp] theorem changeState_sup (e : Env) (new : SessionState) (c : Core) : (changeState e new c).sup = c.sup := by
  unfold changeState; (try simp only); (repeat' split) <;> simp

@[simp] theorem setPause_auth (p : PauseCause) (on : Bool) (c : Core) : (setPause p on c).auth = c.auth := by
  unfold setPause; (try simp only); (repeat' split) <;> simp
@[simp] theorem setPause_alloc (p : PauseCause) (on : Bool) (c : Core) : (setPause p on c).alloc = c.alloc := by
  unfold setPause; (try simp only); (repeat' split) <;> simp
@[simp] theorem setPause_heater (p : PauseCause) (on : Bool) (c : Core) : (setPause p on c).heater = c.heater := by
  unfold setPause; (try simp only); (repeat' split) <;> simp
@[simp] theorem setPause_mon (p : PauseCause) (on : Bool) (c : Core) : (setPause p on c).mon = c.mon := by
  unfold setPause; (try simp only); (repeat' split) <;> simp
@[simp] theorem setPause_meter (p : PauseCause) (on : Bool) (c : Core) : (setPause p on c).meter = c.meter := by
  unfold setPause; (try simp only); (repeat' split) <;> simp
@[simp] theorem setPause_queue (p : PauseCause) (on : Bool) (c : Core) : (setPause p on c).queue = c.queue := by
  unfold setPause; (try simp only); (repeat' split) <;> simp
@[simp] theorem setPause_link (p : PauseCause) (on : Bool) (c : Core) : (setPause p on c).link = c.link := by
  unfold setPause; (try simp only); (repeat' split) <;> simp
@[simp] theorem setPause_sup (p : PauseCause) (on : Bool) (c : Core) : (setPause p on c).sup = c.sup := by
  unfold setPause; (try simp only); (repeat' split) <;> simp

@[simp] theorem chooseRunning_auth (e : Env) (c : Core) : (chooseRunning e c).auth = c.auth := by
  unfold chooseRunning; (try simp only); (repeat' split) <;> simp
@[simp] theorem chooseRunning_meter (e : Env) (c : Core) : (chooseRunning e c).meter = c.meter := by
  unfold chooseRunning; (try simp only); (repeat' split) <;> simp
@[simp] theorem chooseRunning_queue (e : Env) (c : Core) : (chooseRunning e c).queue = c.queue := by
  unfold chooseRunning; (try simp only); (repeat' split) <;> simp
@[simp] theorem chooseRunning_link (e : Env) (c : Core) : (chooseRunning e c).link = c.link := by
  unfold chooseRunning; (try simp only); (repeat' split) <;> simp
@[simp] theorem chooseRunning_sup (e : Env) (c : Core) : (chooseRunning e c).sup = c.sup := by
  unfold chooseRunning; (try simp only); (repeat' split) <;> simp

@[simp] theorem settlePause_auth (e : Env) (c : Core) : (settlePause e c).auth = c.auth := by
  unfold settlePause; (try simp only); (repeat' split) <;> simp
@[simp] theorem settlePause_meter (e : Env) (c : Core) : (settlePause e c).meter = c.meter := by
  unfold settlePause; (try simp only); (repeat' split) <;> simp
@[simp] theorem settlePause_queue (e : Env) (c : Core) : (settlePause e c).queue = c.queue := by
  unfold settlePause; (try simp only); (repeat' split) <;> simp
@[simp] theorem settlePause_link (e : Env) (c : Core) : (settlePause e c).link = c.link := by
  unfold settlePause; (try simp only); (repeat' split) <;> simp
@[simp] theorem settlePause_sup (e : Env) (c : Core) : (settlePause e c).sup = c.sup := by
  unfold settlePause; (try simp only); (repeat' split) <;> simp

@[simp] theorem temperatureMove_auth (e : Env) (c : Core) : (temperatureMove e c).auth = c.auth := by
  unfold temperatureMove; (try simp only); (repeat' split) <;> simp
@[simp] theorem temperatureMove_meter (e : Env) (c : Core) : (temperatureMove e c).meter = c.meter := by
  unfold temperatureMove; (try simp only); (repeat' split) <;> simp
@[simp] theorem temperatureMove_queue (e : Env) (c : Core) : (temperatureMove e c).queue = c.queue := by
  unfold temperatureMove; (try simp only); (repeat' split) <;> simp
@[simp] theorem temperatureMove_link (e : Env) (c : Core) : (temperatureMove e c).link = c.link := by
  unfold temperatureMove; (try simp only); (repeat' split) <;> simp
@[simp] theorem temperatureMove_sup (e : Env) (c : Core) : (temperatureMove e c).sup = c.sup := by
  unfold temperatureMove; (try simp only); (repeat' split) <;> simp

@[simp] theorem pauseOnSet_auth (e : Env) (c : Core) : (pauseOnSet e c).auth = c.auth := by
  unfold pauseOnSet; (try simp only); (repeat' split) <;> simp
@[simp] theorem pauseOnSet_alloc (e : Env) (c : Core) : (pauseOnSet e c).alloc = c.alloc := by
  unfold pauseOnSet; (try simp only); (repeat' split) <;> simp
@[simp] theorem pauseOnSet_heater (e : Env) (c : Core) : (pauseOnSet e c).heater = c.heater := by
  unfold pauseOnSet; (try simp only); (repeat' split) <;> simp
@[simp] theorem pauseOnSet_mon (e : Env) (c : Core) : (pauseOnSet e c).mon = c.mon := by
  unfold pauseOnSet; (try simp only); (repeat' split) <;> simp
@[simp] theorem pauseOnSet_meter (e : Env) (c : Core) : (pauseOnSet e c).meter = c.meter := by
  unfold pauseOnSet; (try simp only); (repeat' split) <;> simp
@[simp] theorem pauseOnSet_queue (e : Env) (c : Core) : (pauseOnSet e c).queue = c.queue := by
  unfold pauseOnSet; (try simp only); (repeat' split) <;> simp
@[simp] theorem pauseOnSet_link (e : Env) (c : Core) : (pauseOnSet e c).link = c.link := by
  unfold pauseOnSet; (try simp only); (repeat' split) <;> simp
@[simp] theorem pauseOnSet_sup (e : Env) (c : Core) : (pauseOnSet e c).sup = c.sup := by
  unfold pauseOnSet; (try simp only); (repeat' split) <;> simp

@[simp] theorem pauseOnRequest_auth (e : Env) (c : Core) : (pauseOnRequest e c).auth = c.auth := by
  unfold pauseOnRequest; (try simp only); (repeat' split) <;> simp
@[simp] theorem pauseOnRequest_alloc (e : Env) (c : Core) : (pauseOnRequest e c).alloc = c.alloc := by
  unfold pauseOnRequest; (try simp only); (repeat' split) <;> simp
@[simp] theorem pauseOnRequest_heater (e : Env) (c : Core) : (pauseOnRequest e c).heater = c.heater := by
  unfold pauseOnRequest; (try simp only); (repeat' split) <;> simp
@[simp] theorem pauseOnRequest_mon (e : Env) (c : Core) : (pauseOnRequest e c).mon = c.mon := by
  unfold pauseOnRequest; (try simp only); (repeat' split) <;> simp
@[simp] theorem pauseOnRequest_meter (e : Env) (c : Core) : (pauseOnRequest e c).meter = c.meter := by
  unfold pauseOnRequest; (try simp only); (repeat' split) <;> simp
@[simp] theorem pauseOnRequest_queue (e : Env) (c : Core) : (pauseOnRequest e c).queue = c.queue := by
  unfold pauseOnRequest; (try simp only); (repeat' split) <;> simp
@[simp] theorem pauseOnRequest_link (e : Env) (c : Core) : (pauseOnRequest e c).link = c.link := by
  unfold pauseOnRequest; (try simp only); (repeat' split) <;> simp
@[simp] theorem pauseOnRequest_sup (e : Env) (c : Core) : (pauseOnRequest e c).sup = c.sup := by
  unfold pauseOnRequest; (try simp only); (repeat' split) <;> simp

@[simp] theorem reportLimit_auth (e : Env) (c : Core) : (reportLimit e c).auth = c.auth := by
  unfold reportLimit; (try simp only); (repeat' split) <;> simp
@[simp] theorem reportLimit_meter (e : Env) (c : Core) : (reportLimit e c).meter = c.meter := by
  unfold reportLimit; (try simp only); (repeat' split) <;> simp
@[simp] theorem reportLimit_queue (e : Env) (c : Core) : (reportLimit e c).queue = c.queue := by
  unfold reportLimit; (try simp only); (repeat' split) <;> simp
@[simp] theorem reportLimit_link (e : Env) (c : Core) : (reportLimit e c).link = c.link := by
  unfold reportLimit; (try simp only); (repeat' split) <;> simp
@[simp] theorem reportLimit_sup (e : Env) (c : Core) : (reportLimit e c).sup = c.sup := by
  unfold reportLimit; (try simp only); (repeat' split) <;> simp

@[simp] theorem allocate_auth (immediate : Bool) (e : Env) (c : Core) : (allocate immediate e c).auth = c.auth := by
  unfold allocate; (try simp only); (repeat' split) <;> simp
@[simp] theorem allocate_meter (immediate : Bool) (e : Env) (c : Core) : (allocate immediate e c).meter = c.meter := by
  unfold allocate; (try simp only); (repeat' split) <;> simp
@[simp] theorem allocate_queue (immediate : Bool) (e : Env) (c : Core) : (allocate immediate e c).queue = c.queue := by
  unfold allocate; (try simp only); (repeat' split) <;> simp
@[simp] theorem allocate_link (immediate : Bool) (e : Env) (c : Core) : (allocate immediate e c).link = c.link := by
  unfold allocate; (try simp only); (repeat' split) <;> simp
@[simp] theorem allocate_sup (immediate : Bool) (e : Env) (c : Core) : (allocate immediate e c).sup = c.sup := by
  unfold allocate; (try simp only); (repeat' split) <;> simp

@[simp] theorem applyPending_session (c : Core) : (applyPending c).session = c.session := by
  unfold applyPending; (try simp only); (repeat' split) <;> simp
@[simp] theorem applyPending_auth (c : Core) : (applyPending c).auth = c.auth := by
  unfold applyPending; (try simp only); (repeat' split) <;> simp
@[simp] theorem applyPending_heater (c : Core) : (applyPending c).heater = c.heater := by
  unfold applyPending; (try simp only); (repeat' split) <;> simp
@[simp] theorem applyPending_mon (c : Core) : (applyPending c).mon = c.mon := by
  unfold applyPending; (try simp only); (repeat' split) <;> simp
@[simp] theorem applyPending_meter (c : Core) : (applyPending c).meter = c.meter := by
  unfold applyPending; (try simp only); (repeat' split) <;> simp
@[simp] theorem applyPending_queue (c : Core) : (applyPending c).queue = c.queue := by
  unfold applyPending; (try simp only); (repeat' split) <;> simp
@[simp] theorem applyPending_link (c : Core) : (applyPending c).link = c.link := by
  unfold applyPending; (try simp only); (repeat' split) <;> simp
@[simp] theorem applyPending_sup (c : Core) : (applyPending c).sup = c.sup := by
  unfold applyPending; (try simp only); (repeat' split) <;> simp

@[simp] theorem closeWindow_session (e : Env) (c : Core) : (closeWindow e c).session = c.session := by
  unfold closeWindow; (try simp only); (repeat' split) <;> simp
@[simp] theorem closeWindow_auth (e : Env) (c : Core) : (closeWindow e c).auth = c.auth := by
  unfold closeWindow; (try simp only); (repeat' split) <;> simp
@[simp] theorem closeWindow_meter (e : Env) (c : Core) : (closeWindow e c).meter = c.meter := by
  unfold closeWindow; (try simp only); (repeat' split) <;> simp
@[simp] theorem closeWindow_queue (e : Env) (c : Core) : (closeWindow e c).queue = c.queue := by
  unfold closeWindow; (try simp only); (repeat' split) <;> simp
@[simp] theorem closeWindow_link (e : Env) (c : Core) : (closeWindow e c).link = c.link := by
  unfold closeWindow; (try simp only); (repeat' split) <;> simp
@[simp] theorem closeWindow_sup (e : Env) (c : Core) : (closeWindow e c).sup = c.sup := by
  unfold closeWindow; (try simp only); (repeat' split) <;> simp

@[simp] theorem postFull_session (before : Nat) (c : Core) : (postFull before c).session = c.session := by
  unfold postFull; (try simp only); (repeat' split) <;> simp
@[simp] theorem postFull_auth (before : Nat) (c : Core) : (postFull before c).auth = c.auth := by
  unfold postFull; (try simp only); (repeat' split) <;> simp
@[simp] theorem postFull_alloc (before : Nat) (c : Core) : (postFull before c).alloc = c.alloc := by
  unfold postFull; (try simp only); (repeat' split) <;> simp
@[simp] theorem postFull_heater (before : Nat) (c : Core) : (postFull before c).heater = c.heater := by
  unfold postFull; (try simp only); (repeat' split) <;> simp
@[simp] theorem postFull_mon (before : Nat) (c : Core) : (postFull before c).mon = c.mon := by
  unfold postFull; (try simp only); (repeat' split) <;> simp
@[simp] theorem postFull_meter (before : Nat) (c : Core) : (postFull before c).meter = c.meter := by
  unfold postFull; (try simp only); (repeat' split) <;> simp
@[simp] theorem postFull_queue (before : Nat) (c : Core) : (postFull before c).queue = c.queue := by
  unfold postFull; (try simp only); (repeat' split) <;> simp
@[simp] theorem postFull_link (before : Nat) (c : Core) : (postFull before c).link = c.link := by
  unfold postFull; (try simp only); (repeat' split) <;> simp
@[simp] theorem postFull_sup (before : Nat) (c : Core) : (postFull before c).sup = c.sup := by
  unfold postFull; (try simp only); (repeat' split) <;> simp

@[simp] theorem placeRecord_session (e : Env) (r : BillingRecord) (c : Core) : (placeRecord e r c).session = c.session := by
  unfold placeRecord; (try simp only); (repeat' split) <;> simp
@[simp] theorem placeRecord_auth (e : Env) (r : BillingRecord) (c : Core) : (placeRecord e r c).auth = c.auth := by
  unfold placeRecord; (try simp only); (repeat' split) <;> simp
@[simp] theorem placeRecord_alloc (e : Env) (r : BillingRecord) (c : Core) : (placeRecord e r c).alloc = c.alloc := by
  unfold placeRecord; (try simp only); (repeat' split) <;> simp
@[simp] theorem placeRecord_heater (e : Env) (r : BillingRecord) (c : Core) : (placeRecord e r c).heater = c.heater := by
  unfold placeRecord; (try simp only); (repeat' split) <;> simp
@[simp] theorem placeRecord_mon (e : Env) (r : BillingRecord) (c : Core) : (placeRecord e r c).mon = c.mon := by
  unfold placeRecord; (try simp only); (repeat' split) <;> simp
@[simp] theorem placeRecord_meter (e : Env) (r : BillingRecord) (c : Core) : (placeRecord e r c).meter = c.meter := by
  unfold placeRecord; (try simp only); (repeat' split) <;> simp
@[simp] theorem placeRecord_sup (e : Env) (r : BillingRecord) (c : Core) : (placeRecord e r c).sup = c.sup := by
  unfold placeRecord; (try simp only); (repeat' split) <;> simp

@[simp] theorem openRecord_session (c : Core) : (openRecord c).session = c.session := by
  unfold openRecord; (try simp only); (repeat' split) <;> simp
@[simp] theorem openRecord_auth (c : Core) : (openRecord c).auth = c.auth := by
  unfold openRecord; (try simp only); (repeat' split) <;> simp
@[simp] theorem openRecord_alloc (c : Core) : (openRecord c).alloc = c.alloc := by
  unfold openRecord; (try simp only); (repeat' split) <;> simp
@[simp] theorem openRecord_heater (c : Core) : (openRecord c).heater = c.heater := by
  unfold openRecord; (try simp only); (repeat' split) <;> simp
@[simp] theorem openRecord_mon (c : Core) : (openRecord c).mon = c.mon := by
  unfold openRecord; (try simp only); (repeat' split) <;> simp
@[simp] theorem openRecord_queue (c : Core) : (openRecord c).queue = c.queue := by
  unfold openRecord; (try simp only); (repeat' split) <;> simp
@[simp] theorem openRecord_link (c : Core) : (openRecord c).link = c.link := by
  unfold openRecord; (try simp only); (repeat' split) <;> simp
@[simp] theorem openRecord_sup (c : Core) : (openRecord c).sup = c.sup := by
  unfold openRecord; (try simp only); (repeat' split) <;> simp

@[simp] theorem onRunningRecord_session (f : BillingRecord → BillingRecord) (c : Core) : (onRunningRecord f c).session = c.session := by
  unfold onRunningRecord; (try simp only); (repeat' split) <;> simp
@[simp] theorem onRunningRecord_auth (f : BillingRecord → BillingRecord) (c : Core) : (onRunningRecord f c).auth = c.auth := by
  unfold onRunningRecord; (try simp only); (repeat' split) <;> simp
@[simp] theorem onRunningRecord_alloc (f : BillingRecord → BillingRecord) (c : Core) : (onRunningRecord f c).alloc = c.alloc := by
  unfold onRunningRecord; (try simp only); (repeat' split) <;> simp
@[simp] theorem onRunningRecord_heater (f : BillingRecord → BillingRecord) (c : Core) : (onRunningRecord f c).heater = c.heater := by
  unfold onRunningRecord; (try simp only); (repeat' split) <;> simp
@[simp] theorem onRunningRecord_mon (f : BillingRecord → BillingRecord) (c : Core) : (onRunningRecord f c).mon = c.mon := by
  unfold onRunningRecord; (try simp only); (repeat' split) <;> simp
@[simp] theorem onRunningRecord_queue (f : BillingRecord → BillingRecord) (c : Core) : (onRunningRecord f c).queue = c.queue := by
  unfold onRunningRecord; (try simp only); (repeat' split) <;> simp
@[simp] theorem onRunningRecord_link (f : BillingRecord → BillingRecord) (c : Core) : (onRunningRecord f c).link = c.link := by
  unfold onRunningRecord; (try simp only); (repeat' split) <;> simp
@[simp] theorem onRunningRecord_sup (f : BillingRecord → BillingRecord) (c : Core) : (onRunningRecord f c).sup = c.sup := by
  unfold onRunningRecord; (try simp only); (repeat' split) <;> simp

@[simp] theorem copyFaults_session (c : Core) : (copyFaults c).session = c.session := by
  unfold copyFaults; (try simp only); (repeat' split) <;> simp
@[simp] theorem copyFaults_auth (c : Core) : (copyFaults c).auth = c.auth := by
  unfold copyFaults; (try simp only); (repeat' split) <;> simp
@[simp] theorem copyFaults_alloc (c : Core) : (copyFaults c).alloc = c.alloc := by
  unfold copyFaults; (try simp only); (repeat' split) <;> simp
@[simp] theorem copyFaults_heater (c : Core) : (copyFaults c).heater = c.heater := by
  unfold copyFaults; (try simp only); (repeat' split) <;> simp
@[simp] theorem copyFaults_mon (c : Core) : (copyFaults c).mon = c.mon := by
  unfold copyFaults; (try simp only); (repeat' split) <;> simp
@[simp] theorem copyFaults_queue (c : Core) : (copyFaults c).queue = c.queue := by
  unfold copyFaults; (try simp only); (repeat' split) <;> simp
@[simp] theorem copyFaults_link (c : Core) : (copyFaults c).link = c.link := by
  unfold copyFaults; (try simp only); (repeat' split) <;> simp
@[simp] theorem copyFaults_sup (c : Core) : (copyFaults c).sup = c.sup := by
  unfold copyFaults; (try simp only); (repeat' split) <;> simp

@[simp] theorem handOver_auth (e : Env) (r : BillingRecord) (c : Core) : (handOver e r c).auth = c.auth := by
  unfold handOver; (try simp only); (repeat' split) <;> simp
@[simp] theorem handOver_alloc (e : Env) (r : BillingRecord) (c : Core) : (handOver e r c).alloc = c.alloc := by
  unfold handOver; (try simp only); (repeat' split) <;> simp
@[simp] theorem handOver_heater (e : Env) (r : BillingRecord) (c : Core) : (handOver e r c).heater = c.heater := by
  unfold handOver; (try simp only); (repeat' split) <;> simp
@[simp] theorem handOver_mon (e : Env) (r : BillingRecord) (c : Core) : (handOver e r c).mon = c.mon := by
  unfold handOver; (try simp only); (repeat' split) <;> simp
@[simp] theorem handOver_sup (e : Env) (r : BillingRecord) (c : Core) : (handOver e r c).sup = c.sup := by
  unfold handOver; (try simp only); (repeat' split) <;> simp

@[simp] theorem closeRecord_auth (e : Env) (c : Core) : (closeRecord e c).auth = c.auth := by
  unfold closeRecord; (try simp only); (repeat' split) <;> simp
@[simp] theorem closeRecord_alloc (e : Env) (c : Core) : (closeRecord e c).alloc = c.alloc := by
  unfold closeRecord; (try simp only); (repeat' split) <;> simp
@[simp] theorem closeRecord_heater (e : Env) (c : Core) : (closeRecord e c).heater = c.heater := by
  unfold closeRecord; (try simp only); (repeat' split) <;> simp
@[simp] theorem closeRecord_mon (e : Env) (c : Core) : (closeRecord e c).mon = c.mon := by
  unfold closeRecord; (try simp only); (repeat' split) <;> simp
@[simp] theorem closeRecord_sup (e : Env) (c : Core) : (closeRecord e c).sup = c.sup := by
  unfold closeRecord; (try simp only); (repeat' split) <;> simp

@[simp] theorem splitRecord_session (e : Env) (o : OpenRecord) (c : Core) : (splitRecord e o c).session = c.session := by
  unfold splitRecord; (try simp only); (repeat' split) <;> simp
@[simp] theorem splitRecord_auth (e : Env) (o : OpenRecord) (c : Core) : (splitRecord e o c).auth = c.auth := by
  unfold splitRecord; (try simp only); (repeat' split) <;> simp
@[simp] theorem splitRecord_alloc (e : Env) (o : OpenRecord) (c : Core) : (splitRecord e o c).alloc = c.alloc := by
  unfold splitRecord; (try simp only); (repeat' split) <;> simp
@[simp] theorem splitRecord_heater (e : Env) (o : OpenRecord) (c : Core) : (splitRecord e o c).heater = c.heater := by
  unfold splitRecord; (try simp only); (repeat' split) <;> simp
@[simp] theorem splitRecord_mon (e : Env) (o : OpenRecord) (c : Core) : (splitRecord e o c).mon = c.mon := by
  unfold splitRecord; (try simp only); (repeat' split) <;> simp
@[simp] theorem splitRecord_sup (e : Env) (o : OpenRecord) (c : Core) : (splitRecord e o c).sup = c.sup := by
  unfold splitRecord; (try simp only); (repeat' split) <;> simp

@[simp] theorem roomReport_auth (e : Env) (c : Core) : (roomReport e c).auth = c.auth := by
  unfold roomReport; (try simp only); (repeat' split) <;> simp
@[simp] theorem roomReport_sup (e : Env) (c : Core) : (roomReport e c).sup = c.sup := by
  unfold roomReport; (try simp only); (repeat' split) <;> simp

@[simp] theorem setLines_session (lines : List Line) (folded : Bool) (c : Core) : (setLines lines folded c).session = c.session := by
  unfold setLines; (try simp only); (repeat' split) <;> simp
@[simp] theorem setLines_auth (lines : List Line) (folded : Bool) (c : Core) : (setLines lines folded c).auth = c.auth := by
  unfold setLines; (try simp only); (repeat' split) <;> simp
@[simp] theorem setLines_alloc (lines : List Line) (folded : Bool) (c : Core) : (setLines lines folded c).alloc = c.alloc := by
  unfold setLines; (try simp only); (repeat' split) <;> simp
@[simp] theorem setLines_heater (lines : List Line) (folded : Bool) (c : Core) : (setLines lines folded c).heater = c.heater := by
  unfold setLines; (try simp only); (repeat' split) <;> simp
@[simp] theorem setLines_mon (lines : List Line) (folded : Bool) (c : Core) : (setLines lines folded c).mon = c.mon := by
  unfold setLines; (try simp only); (repeat' split) <;> simp
@[simp] theorem setLines_queue (lines : List Line) (folded : Bool) (c : Core) : (setLines lines folded c).queue = c.queue := by
  unfold setLines; (try simp only); (repeat' split) <;> simp
@[simp] theorem setLines_link (lines : List Line) (folded : Bool) (c : Core) : (setLines lines folded c).link = c.link := by
  unfold setLines; (try simp only); (repeat' split) <;> simp
@[simp] theorem setLines_sup (lines : List Line) (folded : Bool) (c : Core) : (setLines lines folded c).sup = c.sup := by
  unfold setLines; (try simp only); (repeat' split) <;> simp

@[simp] theorem enterHeld_auth (e : Env) (c : Core) : (enterHeld e c).auth = c.auth := by
  unfold enterHeld; (try simp only); (repeat' split) <;> simp
@[simp] theorem enterHeld_queue (e : Env) (c : Core) : (enterHeld e c).queue = c.queue := by
  unfold enterHeld; (try simp only); (repeat' split) <;> simp
@[simp] theorem enterHeld_link (e : Env) (c : Core) : (enterHeld e c).link = c.link := by
  unfold enterHeld; (try simp only); (repeat' split) <;> simp
@[simp] theorem enterHeld_sup (e : Env) (c : Core) : (enterHeld e c).sup = c.sup := by
  unfold enterHeld; (try simp only); (repeat' split) <;> simp

@[simp] theorem creditInterval_auth (e : Env) (energies : List (LineKey × Nat)) (c : Core) : (creditInterval e energies c).auth = c.auth := by
  unfold creditInterval; (try simp only); (repeat' split) <;> simp
@[simp] theorem creditInterval_sup (e : Env) (energies : List (LineKey × Nat)) (c : Core) : (creditInterval e energies c).sup = c.sup := by
  unfold creditInterval; (try simp only); (repeat' split) <;> simp

@[simp] theorem meterInterval_auth (e : Env) (c : Core) : (meterInterval e c).auth = c.auth := by
  unfold meterInterval; (try simp only); (repeat' split) <;> simp
@[simp] theorem meterInterval_sup (e : Env) (c : Core) : (meterInterval e c).sup = c.sup := by
  unfold meterInterval; (try simp only); (repeat' split) <;> simp

@[simp] theorem setClock_session (source : TimeSource) (t : Word) (offset : Option Int) (c : Core) : (setClock source t offset c).session = c.session := by
  unfold setClock; (try simp only); (repeat' split) <;> simp
@[simp] theorem setClock_auth (source : TimeSource) (t : Word) (offset : Option Int) (c : Core) : (setClock source t offset c).auth = c.auth := by
  unfold setClock; (try simp only); (repeat' split) <;> simp
@[simp] theorem setClock_alloc (source : TimeSource) (t : Word) (offset : Option Int) (c : Core) : (setClock source t offset c).alloc = c.alloc := by
  unfold setClock; (try simp only); (repeat' split) <;> simp
@[simp] theorem setClock_heater (source : TimeSource) (t : Word) (offset : Option Int) (c : Core) : (setClock source t offset c).heater = c.heater := by
  unfold setClock; (try simp only); (repeat' split) <;> simp
@[simp] theorem setClock_mon (source : TimeSource) (t : Word) (offset : Option Int) (c : Core) : (setClock source t offset c).mon = c.mon := by
  unfold setClock; (try simp only); (repeat' split) <;> simp
@[simp] theorem setClock_queue (source : TimeSource) (t : Word) (offset : Option Int) (c : Core) : (setClock source t offset c).queue = c.queue := by
  unfold setClock; (try simp only); (repeat' split) <;> simp
@[simp] theorem setClock_link (source : TimeSource) (t : Word) (offset : Option Int) (c : Core) : (setClock source t offset c).link = c.link := by
  unfold setClock; (try simp only); (repeat' split) <;> simp
@[simp] theorem setClock_sup (source : TimeSource) (t : Word) (offset : Option Int) (c : Core) : (setClock source t offset c).sup = c.sup := by
  unfold setClock; (try simp only); (repeat' split) <;> simp

@[simp] theorem rejectSchedule_session (c : Core) : (rejectSchedule c).session = c.session := by
  unfold rejectSchedule; (try simp only); (repeat' split) <;> simp
@[simp] theorem rejectSchedule_auth (c : Core) : (rejectSchedule c).auth = c.auth := by
  unfold rejectSchedule; (try simp only); (repeat' split) <;> simp
@[simp] theorem rejectSchedule_alloc (c : Core) : (rejectSchedule c).alloc = c.alloc := by
  unfold rejectSchedule; (try simp only); (repeat' split) <;> simp
@[simp] theorem rejectSchedule_heater (c : Core) : (rejectSchedule c).heater = c.heater := by
  unfold rejectSchedule; (try simp only); (repeat' split) <;> simp
@[simp] theorem rejectSchedule_mon (c : Core) : (rejectSchedule c).mon = c.mon := by
  unfold rejectSchedule; (try simp only); (repeat' split) <;> simp
@[simp] theorem rejectSchedule_meter (c : Core) : (rejectSchedule c).meter = c.meter := by
  unfold rejectSchedule; (try simp only); (repeat' split) <;> simp
@[simp] theorem rejectSchedule_queue (c : Core) : (rejectSchedule c).queue = c.queue := by
  unfold rejectSchedule; (try simp only); (repeat' split) <;> simp
@[simp] theorem rejectSchedule_link (c : Core) : (rejectSchedule c).link = c.link := by
  unfold rejectSchedule; (try simp only); (repeat' split) <;> simp
@[simp] theorem rejectSchedule_sup (c : Core) : (rejectSchedule c).sup = c.sup := by
  unfold rejectSchedule; (try simp only); (repeat' split) <;> simp

@[simp] theorem checkSchedule_session (e : Env) (version : Byte) (bands : List Band) (c : Core) : (checkSchedule e version bands c).session = c.session := by
  unfold checkSchedule; (try simp only); (repeat' split) <;> simp
@[simp] theorem checkSchedule_auth (e : Env) (version : Byte) (bands : List Band) (c : Core) : (checkSchedule e version bands c).auth = c.auth := by
  unfold checkSchedule; (try simp only); (repeat' split) <;> simp
@[simp] theorem checkSchedule_alloc (e : Env) (version : Byte) (bands : List Band) (c : Core) : (checkSchedule e version bands c).alloc = c.alloc := by
  unfold checkSchedule; (try simp only); (repeat' split) <;> simp
@[simp] theorem checkSchedule_heater (e : Env) (version : Byte) (bands : List Band) (c : Core) : (checkSchedule e version bands c).heater = c.heater := by
  unfold checkSchedule; (try simp only); (repeat' split) <;> simp
@[simp] theorem checkSchedule_mon (e : Env) (version : Byte) (bands : List Band) (c : Core) : (checkSchedule e version bands c).mon = c.mon := by
  unfold checkSchedule; (try simp only); (repeat' split) <;> simp
@[simp] theorem checkSchedule_queue (e : Env) (version : Byte) (bands : List Band) (c : Core) : (checkSchedule e version bands c).queue = c.queue := by
  unfold checkSchedule; (try simp only); (repeat' split) <;> simp
@[simp] theorem checkSchedule_link (e : Env) (version : Byte) (bands : List Band) (c : Core) : (checkSchedule e version bands c).link = c.link := by
  unfold checkSchedule; (try simp only); (repeat' split) <;> simp
@[simp] theorem checkSchedule_sup (e : Env) (version : Byte) (bands : List Band) (c : Core) : (checkSchedule e version bands c).sup = c.sup := by
  unfold checkSchedule; (try simp only); (repeat' split) <;> simp

@[simp] theorem takeTariff_session (e : Env) (version : Byte) (index count start price : Nat) (c : Core) : (takeTariff e version index count start price c).session = c.session := by
  unfold takeTariff; (try simp only); (repeat' split) <;> simp
@[simp] theorem takeTariff_auth (e : Env) (version : Byte) (index count start price : Nat) (c : Core) : (takeTariff e version index count start price c).auth = c.auth := by
  unfold takeTariff; (try simp only); (repeat' split) <;> simp
@[simp] theorem takeTariff_alloc (e : Env) (version : Byte) (index count start price : Nat) (c : Core) : (takeTariff e version index count start price c).alloc = c.alloc := by
  unfold takeTariff; (try simp only); (repeat' split) <;> simp
@[simp] theorem takeTariff_heater (e : Env) (version : Byte) (index count start price : Nat) (c : Core) : (takeTariff e version index count start price c).heater = c.heater := by
  unfold takeTariff; (try simp only); (repeat' split) <;> simp
@[simp] theorem takeTariff_mon (e : Env) (version : Byte) (index count start price : Nat) (c : Core) : (takeTariff e version index count start price c).mon = c.mon := by
  unfold takeTariff; (try simp only); (repeat' split) <;> simp
@[simp] theorem takeTariff_queue (e : Env) (version : Byte) (index count start price : Nat) (c : Core) : (takeTariff e version index count start price c).queue = c.queue := by
  unfold takeTariff; (try simp only); (repeat' split) <;> simp
@[simp] theorem takeTariff_link (e : Env) (version : Byte) (index count start price : Nat) (c : Core) : (takeTariff e version index count start price c).link = c.link := by
  unfold takeTariff; (try simp only); (repeat' split) <;> simp
@[simp] theorem takeTariff_sup (e : Env) (version : Byte) (index count start price : Nat) (c : Core) : (takeTariff e version index count start price c).sup = c.sup := by
  unfold takeTariff; (try simp only); (repeat' split) <;> simp

@[simp] theorem leaveMeasuring_session (e : Env) (new : MonitorState) (c : Core) : (leaveMeasuring e new c).session = c.session := by
  unfold leaveMeasuring; (try simp only); (repeat' split) <;> simp
@[simp] theorem leaveMeasuring_auth (e : Env) (new : MonitorState) (c : Core) : (leaveMeasuring e new c).auth = c.auth := by
  unfold leaveMeasuring; (try simp only); (repeat' split) <;> simp
@[simp] theorem leaveMeasuring_meter (e : Env) (new : MonitorState) (c : Core) : (leaveMeasuring e new c).meter = c.meter := by
  unfold leaveMeasuring; (try simp only); (repeat' split) <;> simp
@[simp] theorem leaveMeasuring_queue (e : Env) (new : MonitorState) (c : Core) : (leaveMeasuring e new c).queue = c.queue := by
  unfold leaveMeasuring; (try simp only); (repeat' split) <;> simp
@[simp] theorem leaveMeasuring_link (e : Env) (new : MonitorState) (c : Core) : (leaveMeasuring e new c).link = c.link := by
  unfold leaveMeasuring; (try simp only); (repeat' split) <;> simp
@[simp] theorem leaveMeasuring_sup (e : Env) (new : MonitorState) (c : Core) : (leaveMeasuring e new c).sup = c.sup := by
  unfold leaveMeasuring; (try simp only); (repeat' split) <;> simp

@[simp] theorem monitorOnAuthorizing_session (e : Env) (c : Core) : (monitorOnAuthorizing e c).session = c.session := by
  unfold monitorOnAuthorizing; (try simp only); (repeat' split) <;> simp
@[simp] theorem monitorOnAuthorizing_auth (e : Env) (c : Core) : (monitorOnAuthorizing e c).auth = c.auth := by
  unfold monitorOnAuthorizing; (try simp only); (repeat' split) <;> simp
@[simp] theorem monitorOnAuthorizing_alloc (e : Env) (c : Core) : (monitorOnAuthorizing e c).alloc = c.alloc := by
  unfold monitorOnAuthorizing; (try simp only); (repeat' split) <;> simp
@[simp] theorem monitorOnAuthorizing_heater (e : Env) (c : Core) : (monitorOnAuthorizing e c).heater = c.heater := by
  unfold monitorOnAuthorizing; (try simp only); (repeat' split) <;> simp
@[simp] theorem monitorOnAuthorizing_meter (e : Env) (c : Core) : (monitorOnAuthorizing e c).meter = c.meter := by
  unfold monitorOnAuthorizing; (try simp only); (repeat' split) <;> simp
@[simp] theorem monitorOnAuthorizing_queue (e : Env) (c : Core) : (monitorOnAuthorizing e c).queue = c.queue := by
  unfold monitorOnAuthorizing; (try simp only); (repeat' split) <;> simp
@[simp] theorem monitorOnAuthorizing_link (e : Env) (c : Core) : (monitorOnAuthorizing e c).link = c.link := by
  unfold monitorOnAuthorizing; (try simp only); (repeat' split) <;> simp
@[simp] theorem monitorOnAuthorizing_sup (e : Env) (c : Core) : (monitorOnAuthorizing e c).sup = c.sup := by
  unfold monitorOnAuthorizing; (try simp only); (repeat' split) <;> simp

@[simp] theorem monitorOnStopping_session (e : Env) (c : Core) : (monitorOnStopping e c).session = c.session := by
  unfold monitorOnStopping; (try simp only); (repeat' split) <;> simp
@[simp] theorem monitorOnStopping_auth (e : Env) (c : Core) : (monitorOnStopping e c).auth = c.auth := by
  unfold monitorOnStopping; (try simp only); (repeat' split) <;> simp
@[simp] theorem monitorOnStopping_meter (e : Env) (c : Core) : (monitorOnStopping e c).meter = c.meter := by
  unfold monitorOnStopping; (try simp only); (repeat' split) <;> simp
@[simp] theorem monitorOnStopping_queue (e : Env) (c : Core) : (monitorOnStopping e c).queue = c.queue := by
  unfold monitorOnStopping; (try simp only); (repeat' split) <;> simp
@[simp] theorem monitorOnStopping_link (e : Env) (c : Core) : (monitorOnStopping e c).link = c.link := by
  unfold monitorOnStopping; (try simp only); (repeat' split) <;> simp
@[simp] theorem monitorOnStopping_sup (e : Env) (c : Core) : (monitorOnStopping e c).sup = c.sup := by
  unfold monitorOnStopping; (try simp only); (repeat' split) <;> simp

@[simp] theorem monitorOnClosed_session (e : Env) (c : Core) : (monitorOnClosed e c).session = c.session := by
  unfold monitorOnClosed; (try simp only); (repeat' split) <;> simp
@[simp] theorem monitorOnClosed_auth (e : Env) (c : Core) : (monitorOnClosed e c).auth = c.auth := by
  unfold monitorOnClosed; (try simp only); (repeat' split) <;> simp
@[simp] theorem monitorOnClosed_meter (e : Env) (c : Core) : (monitorOnClosed e c).meter = c.meter := by
  unfold monitorOnClosed; (try simp only); (repeat' split) <;> simp
@[simp] theorem monitorOnClosed_queue (e : Env) (c : Core) : (monitorOnClosed e c).queue = c.queue := by
  unfold monitorOnClosed; (try simp only); (repeat' split) <;> simp
@[simp] theorem monitorOnClosed_link (e : Env) (c : Core) : (monitorOnClosed e c).link = c.link := by
  unfold monitorOnClosed; (try simp only); (repeat' split) <;> simp
@[simp] theorem monitorOnClosed_sup (e : Env) (c : Core) : (monitorOnClosed e c).sup = c.sup := by
  unfold monitorOnClosed; (try simp only); (repeat' split) <;> simp

@[simp] theorem openWindow_session (c : Core) : (openWindow c).session = c.session := by
  unfold openWindow; (try simp only); (repeat' split) <;> simp
@[simp] theorem openWindow_auth (c : Core) : (openWindow c).auth = c.auth := by
  unfold openWindow; (try simp only); (repeat' split) <;> simp
@[simp] theorem openWindow_alloc (c : Core) : (openWindow c).alloc = c.alloc := by
  unfold openWindow; (try simp only); (repeat' split) <;> simp
@[simp] theorem openWindow_heater (c : Core) : (openWindow c).heater = c.heater := by
  unfold openWindow; (try simp only); (repeat' split) <;> simp
@[simp] theorem openWindow_meter (c : Core) : (openWindow c).meter = c.meter := by
  unfold openWindow; (try simp only); (repeat' split) <;> simp
@[simp] theorem openWindow_queue (c : Core) : (openWindow c).queue = c.queue := by
  unfold openWindow; (try simp only); (repeat' split) <;> simp
@[simp] theorem openWindow_link (c : Core) : (openWindow c).link = c.link := by
  unfold openWindow; (try simp only); (repeat' split) <;> simp
@[simp] theorem openWindow_sup (c : Core) : (openWindow c).sup = c.sup := by
  unfold openWindow; (try simp only); (repeat' split) <;> simp

@[simp] theorem storeResult_session (e : Env) (c : Core) (path : ResultPath) (r : RIso) : (storeResult e c path r).session = c.session := by
  unfold storeResult; (try simp only); (repeat' split) <;> simp
@[simp] theorem storeResult_auth (e : Env) (c : Core) (path : ResultPath) (r : RIso) : (storeResult e c path r).auth = c.auth := by
  unfold storeResult; (try simp only); (repeat' split) <;> simp
@[simp] theorem storeResult_alloc (e : Env) (c : Core) (path : ResultPath) (r : RIso) : (storeResult e c path r).alloc = c.alloc := by
  unfold storeResult; (try simp only); (repeat' split) <;> simp
@[simp] theorem storeResult_heater (e : Env) (c : Core) (path : ResultPath) (r : RIso) : (storeResult e c path r).heater = c.heater := by
  unfold storeResult; (try simp only); (repeat' split) <;> simp
@[simp] theorem storeResult_meter (e : Env) (c : Core) (path : ResultPath) (r : RIso) : (storeResult e c path r).meter = c.meter := by
  unfold storeResult; (try simp only); (repeat' split) <;> simp
@[simp] theorem storeResult_queue (e : Env) (c : Core) (path : ResultPath) (r : RIso) : (storeResult e c path r).queue = c.queue := by
  unfold storeResult; (try simp only); (repeat' split) <;> simp
@[simp] theorem storeResult_link (e : Env) (c : Core) (path : ResultPath) (r : RIso) : (storeResult e c path r).link = c.link := by
  unfold storeResult; (try simp only); (repeat' split) <;> simp
@[simp] theorem storeResult_sup (e : Env) (c : Core) (path : ResultPath) (r : RIso) : (storeResult e c path r).sup = c.sup := by
  unfold storeResult; (try simp only); (repeat' split) <;> simp

@[simp] theorem setContactor_auth (k : Contactor) (c : Core) : (setContactor k c).auth = c.auth := by
  unfold setContactor; (try simp only); (repeat' split) <;> simp
@[simp] theorem setContactor_alloc (k : Contactor) (c : Core) : (setContactor k c).alloc = c.alloc := by
  unfold setContactor; (try simp only); (repeat' split) <;> simp
@[simp] theorem setContactor_heater (k : Contactor) (c : Core) : (setContactor k c).heater = c.heater := by
  unfold setContactor; (try simp only); (repeat' split) <;> simp
@[simp] theorem setContactor_meter (k : Contactor) (c : Core) : (setContactor k c).meter = c.meter := by
  unfold setContactor; (try simp only); (repeat' split) <;> simp
@[simp] theorem setContactor_queue (k : Contactor) (c : Core) : (setContactor k c).queue = c.queue := by
  unfold setContactor; (try simp only); (repeat' split) <;> simp
@[simp] theorem setContactor_link (k : Contactor) (c : Core) : (setContactor k c).link = c.link := by
  unfold setContactor; (try simp only); (repeat' split) <;> simp
@[simp] theorem setContactor_sup (k : Contactor) (c : Core) : (setContactor k c).sup = c.sup := by
  unfold setContactor; (try simp only); (repeat' split) <;> simp

@[simp] theorem addFault_auth (cause : StopCause) (c : Core) : (addFault cause c).auth = c.auth := by
  unfold addFault; (try simp only); (repeat' split) <;> simp
@[simp] theorem addFault_alloc (cause : StopCause) (c : Core) : (addFault cause c).alloc = c.alloc := by
  unfold addFault; (try simp only); (repeat' split) <;> simp
@[simp] theorem addFault_heater (cause : StopCause) (c : Core) : (addFault cause c).heater = c.heater := by
  unfold addFault; (try simp only); (repeat' split) <;> simp
@[simp] theorem addFault_mon (cause : StopCause) (c : Core) : (addFault cause c).mon = c.mon := by
  unfold addFault; (try simp only); (repeat' split) <;> simp
@[simp] theorem addFault_queue (cause : StopCause) (c : Core) : (addFault cause c).queue = c.queue := by
  unfold addFault; (try simp only); (repeat' split) <;> simp
@[simp] theorem addFault_link (cause : StopCause) (c : Core) : (addFault cause c).link = c.link := by
  unfold addFault; (try simp only); (repeat' split) <;> simp
@[simp] theorem addFault_sup (cause : StopCause) (c : Core) : (addFault cause c).sup = c.sup := by
  unfold addFault; (try simp only); (repeat' split) <;> simp

@[simp] theorem takeReset_session (cause : ResetCause) (c : Core) : (takeReset cause c).session = c.session := by
  unfold takeReset; (try simp only); (repeat' split) <;> simp
@[simp] theorem takeReset_auth (cause : ResetCause) (c : Core) : (takeReset cause c).auth = c.auth := by
  unfold takeReset; (try simp only); (repeat' split) <;> simp
@[simp] theorem takeReset_alloc (cause : ResetCause) (c : Core) : (takeReset cause c).alloc = c.alloc := by
  unfold takeReset; (try simp only); (repeat' split) <;> simp
@[simp] theorem takeReset_heater (cause : ResetCause) (c : Core) : (takeReset cause c).heater = c.heater := by
  unfold takeReset; (try simp only); (repeat' split) <;> simp
@[simp] theorem takeReset_mon (cause : ResetCause) (c : Core) : (takeReset cause c).mon = c.mon := by
  unfold takeReset; (try simp only); (repeat' split) <;> simp
@[simp] theorem takeReset_meter (cause : ResetCause) (c : Core) : (takeReset cause c).meter = c.meter := by
  unfold takeReset; (try simp only); (repeat' split) <;> simp
@[simp] theorem takeReset_queue (cause : ResetCause) (c : Core) : (takeReset cause c).queue = c.queue := by
  unfold takeReset; (try simp only); (repeat' split) <;> simp
@[simp] theorem takeReset_link (cause : ResetCause) (c : Core) : (takeReset cause c).link = c.link := by
  unfold takeReset; (try simp only); (repeat' split) <;> simp

@[simp] theorem authOnClosed_session (c : Core) : (authOnClosed c).session = c.session := by
  unfold authOnClosed; (try simp only); (repeat' split) <;> simp
@[simp] theorem authOnClosed_alloc (c : Core) : (authOnClosed c).alloc = c.alloc := by
  unfold authOnClosed; (try simp only); (repeat' split) <;> simp
@[simp] theorem authOnClosed_heater (c : Core) : (authOnClosed c).heater = c.heater := by
  unfold authOnClosed; (try simp only); (repeat' split) <;> simp
@[simp] theorem authOnClosed_mon (c : Core) : (authOnClosed c).mon = c.mon := by
  unfold authOnClosed; (try simp only); (repeat' split) <;> simp
@[simp] theorem authOnClosed_meter (c : Core) : (authOnClosed c).meter = c.meter := by
  unfold authOnClosed; (try simp only); (repeat' split) <;> simp
@[simp] theorem authOnClosed_queue (c : Core) : (authOnClosed c).queue = c.queue := by
  unfold authOnClosed; (try simp only); (repeat' split) <;> simp
@[simp] theorem authOnClosed_link (c : Core) : (authOnClosed c).link = c.link := by
  unfold authOnClosed; (try simp only); (repeat' split) <;> simp
@[simp] theorem authOnClosed_sup (c : Core) : (authOnClosed c).sup = c.sup := by
  unfold authOnClosed; (try simp only); (repeat' split) <;> simp

@[simp] theorem resetIfDeferred_session (c : Core) : (resetIfDeferred c).session = c.session := by
  unfold resetIfDeferred; (try simp only); (repeat' split) <;> simp
@[simp] theorem resetIfDeferred_auth (c : Core) : (resetIfDeferred c).auth = c.auth := by
  unfold resetIfDeferred; (try simp only); (repeat' split) <;> simp
@[simp] theorem resetIfDeferred_alloc (c : Core) : (resetIfDeferred c).alloc = c.alloc := by
  unfold resetIfDeferred; (try simp only); (repeat' split) <;> simp
@[simp] theorem resetIfDeferred_heater (c : Core) : (resetIfDeferred c).heater = c.heater := by
  unfold resetIfDeferred; (try simp only); (repeat' split) <;> simp
@[simp] theorem resetIfDeferred_mon (c : Core) : (resetIfDeferred c).mon = c.mon := by
  unfold resetIfDeferred; (try simp only); (repeat' split) <;> simp
@[simp] theorem resetIfDeferred_meter (c : Core) : (resetIfDeferred c).meter = c.meter := by
  unfold resetIfDeferred; (try simp only); (repeat' split) <;> simp
@[simp] theorem resetIfDeferred_queue (c : Core) : (resetIfDeferred c).queue = c.queue := by
  unfold resetIfDeferred; (try simp only); (repeat' split) <;> simp
@[simp] theorem resetIfDeferred_link (c : Core) : (resetIfDeferred c).link = c.link := by
  unfold resetIfDeferred; (try simp only); (repeat' split) <;> simp

@[simp] theorem authOnStopping_session (c : Core) : (authOnStopping c).session = c.session := by
  unfold authOnStopping; (try simp only); (repeat' split) <;> simp
@[simp] theorem authOnStopping_alloc (c : Core) : (authOnStopping c).alloc = c.alloc := by
  unfold authOnStopping; (try simp only); (repeat' split) <;> simp
@[simp] theorem authOnStopping_heater (c : Core) : (authOnStopping c).heater = c.heater := by
  unfold authOnStopping; (try simp only); (repeat' split) <;> simp
@[simp] theorem authOnStopping_mon (c : Core) : (authOnStopping c).mon = c.mon := by
  unfold authOnStopping; (try simp only); (repeat' split) <;> simp
@[simp] theorem authOnStopping_meter (c : Core) : (authOnStopping c).meter = c.meter := by
  unfold authOnStopping; (try simp only); (repeat' split) <;> simp
@[simp] theorem authOnStopping_queue (c : Core) : (authOnStopping c).queue = c.queue := by
  unfold authOnStopping; (try simp only); (repeat' split) <;> simp
@[simp] theorem authOnStopping_link (c : Core) : (authOnStopping c).link = c.link := by
  unfold authOnStopping; (try simp only); (repeat' split) <;> simp
@[simp] theorem authOnStopping_sup (c : Core) : (authOnStopping c).sup = c.sup := by
  unfold authOnStopping; (try simp only); (repeat' split) <;> simp

@[simp] theorem setWeld_auth (c : Core) : (setWeld c).auth = c.auth := by
  unfold setWeld; (try simp only); (repeat' split) <;> simp
@[simp] theorem setWeld_alloc (c : Core) : (setWeld c).alloc = c.alloc := by
  unfold setWeld; (try simp only); (repeat' split) <;> simp
@[simp] theorem setWeld_heater (c : Core) : (setWeld c).heater = c.heater := by
  unfold setWeld; (try simp only); (repeat' split) <;> simp
@[simp] theorem setWeld_mon (c : Core) : (setWeld c).mon = c.mon := by
  unfold setWeld; (try simp only); (repeat' split) <;> simp
@[simp] theorem setWeld_meter (c : Core) : (setWeld c).meter = c.meter := by
  unfold setWeld; (try simp only); (repeat' split) <;> simp
@[simp] theorem setWeld_queue (c : Core) : (setWeld c).queue = c.queue := by
  unfold setWeld; (try simp only); (repeat' split) <;> simp
@[simp] theorem setWeld_link (c : Core) : (setWeld c).link = c.link := by
  unfold setWeld; (try simp only); (repeat' split) <;> simp
@[simp] theorem setWeld_sup (c : Core) : (setWeld c).sup = c.sup := by
  unfold setWeld; (try simp only); (repeat' split) <;> simp

@[simp] theorem confirmClose_auth (e : Env) (c : Core) : (confirmClose e c).auth = c.auth := by
  unfold confirmClose; (try simp only); (repeat' split) <;> simp
@[simp] theorem confirmClose_meter (e : Env) (c : Core) : (confirmClose e c).meter = c.meter := by
  unfold confirmClose; (try simp only); (repeat' split) <;> simp
@[simp] theorem confirmClose_queue (e : Env) (c : Core) : (confirmClose e c).queue = c.queue := by
  unfold confirmClose; (try simp only); (repeat' split) <;> simp
@[simp] theorem confirmClose_link (e : Env) (c : Core) : (confirmClose e c).link = c.link := by
  unfold confirmClose; (try simp only); (repeat' split) <;> simp
@[simp] theorem confirmClose_sup (e : Env) (c : Core) : (confirmClose e c).sup = c.sup := by
  unfold confirmClose; (try simp only); (repeat' split) <;> simp

@[simp] theorem settleMode_session (st : AuthState) (mode : AuthMode) (c : Core) : (settleMode st mode c).session = c.session := by
  unfold settleMode; (try simp only); (repeat' split) <;> simp
@[simp] theorem settleMode_alloc (st : AuthState) (mode : AuthMode) (c : Core) : (settleMode st mode c).alloc = c.alloc := by
  unfold settleMode; (try simp only); (repeat' split) <;> simp
@[simp] theorem settleMode_heater (st : AuthState) (mode : AuthMode) (c : Core) : (settleMode st mode c).heater = c.heater := by
  unfold settleMode; (try simp only); (repeat' split) <;> simp
@[simp] theorem settleMode_mon (st : AuthState) (mode : AuthMode) (c : Core) : (settleMode st mode c).mon = c.mon := by
  unfold settleMode; (try simp only); (repeat' split) <;> simp
@[simp] theorem settleMode_queue (st : AuthState) (mode : AuthMode) (c : Core) : (settleMode st mode c).queue = c.queue := by
  unfold settleMode; (try simp only); (repeat' split) <;> simp
@[simp] theorem settleMode_link (st : AuthState) (mode : AuthMode) (c : Core) : (settleMode st mode c).link = c.link := by
  unfold settleMode; (try simp only); (repeat' split) <;> simp
@[simp] theorem settleMode_sup (st : AuthState) (mode : AuthMode) (c : Core) : (settleMode st mode c).sup = c.sup := by
  unfold settleMode; (try simp only); (repeat' split) <;> simp

@[simp] theorem askPost_session (e : Env) (c : Core) : (askPost e c).session = c.session := by
  unfold askPost; (try simp only); (repeat' split) <;> simp
@[simp] theorem askPost_alloc (e : Env) (c : Core) : (askPost e c).alloc = c.alloc := by
  unfold askPost; (try simp only); (repeat' split) <;> simp
@[simp] theorem askPost_heater (e : Env) (c : Core) : (askPost e c).heater = c.heater := by
  unfold askPost; (try simp only); (repeat' split) <;> simp
@[simp] theorem askPost_mon (e : Env) (c : Core) : (askPost e c).mon = c.mon := by
  unfold askPost; (try simp only); (repeat' split) <;> simp
@[simp] theorem askPost_meter (e : Env) (c : Core) : (askPost e c).meter = c.meter := by
  unfold askPost; (try simp only); (repeat' split) <;> simp
@[simp] theorem askPost_queue (e : Env) (c : Core) : (askPost e c).queue = c.queue := by
  unfold askPost; (try simp only); (repeat' split) <;> simp
@[simp] theorem askPost_sup (e : Env) (c : Core) : (askPost e c).sup = c.sup := by
  unfold askPost; (try simp only); (repeat' split) <;> simp

@[simp] theorem lateAccept_session (c : Core) : (lateAccept c).session = c.session := by
  unfold lateAccept; (try simp only); (repeat' split) <;> simp
@[simp] theorem lateAccept_alloc (c : Core) : (lateAccept c).alloc = c.alloc := by
  unfold lateAccept; (try simp only); (repeat' split) <;> simp
@[simp] theorem lateAccept_heater (c : Core) : (lateAccept c).heater = c.heater := by
  unfold lateAccept; (try simp only); (repeat' split) <;> simp
@[simp] theorem lateAccept_mon (c : Core) : (lateAccept c).mon = c.mon := by
  unfold lateAccept; (try simp only); (repeat' split) <;> simp
@[simp] theorem lateAccept_queue (c : Core) : (lateAccept c).queue = c.queue := by
  unfold lateAccept; (try simp only); (repeat' split) <;> simp
@[simp] theorem lateAccept_link (c : Core) : (lateAccept c).link = c.link := by
  unfold lateAccept; (try simp only); (repeat' split) <;> simp
@[simp] theorem lateAccept_sup (c : Core) : (lateAccept c).sup = c.sup := by
  unfold lateAccept; (try simp only); (repeat' split) <;> simp

@[simp] theorem enterIdle_meter (e : Env) (c : Core) : (enterIdle e c).meter = c.meter := by
  unfold enterIdle; (try simp only); (repeat' split) <;> simp
@[simp] theorem enterIdle_queue (e : Env) (c : Core) : (enterIdle e c).queue = c.queue := by
  unfold enterIdle; (try simp only); (repeat' split) <;> simp
@[simp] theorem enterIdle_sup (e : Env) (c : Core) : (enterIdle e c).sup = c.sup := by
  unfold enterIdle; (try simp only); (repeat' split) <;> simp

@[simp] theorem reviewRequest_auth (e : Env) (c : Core) : (reviewRequest e c).auth = c.auth := by
  unfold reviewRequest; (try simp only); (repeat' split) <;> simp
@[simp] theorem reviewRequest_meter (e : Env) (c : Core) : (reviewRequest e c).meter = c.meter := by
  unfold reviewRequest; (try simp only); (repeat' split) <;> simp
@[simp] theorem reviewRequest_queue (e : Env) (c : Core) : (reviewRequest e c).queue = c.queue := by
  unfold reviewRequest; (try simp only); (repeat' split) <;> simp
@[simp] theorem reviewRequest_link (e : Env) (c : Core) : (reviewRequest e c).link = c.link := by
  unfold reviewRequest; (try simp only); (repeat' split) <;> simp
@[simp] theorem reviewRequest_sup (e : Env) (c : Core) : (reviewRequest e c).sup = c.sup := by
  unfold reviewRequest; (try simp only); (repeat' split) <;> simp

@[simp] theorem expireRequest_auth (e : Env) (c : Core) : (expireRequest e c).auth = c.auth := by
  unfold expireRequest; (try simp only); (repeat' split) <;> simp
@[simp] theorem expireRequest_meter (e : Env) (c : Core) : (expireRequest e c).meter = c.meter := by
  unfold expireRequest; (try simp only); (repeat' split) <;> simp
@[simp] theorem expireRequest_queue (e : Env) (c : Core) : (expireRequest e c).queue = c.queue := by
  unfold expireRequest; (try simp only); (repeat' split) <;> simp
@[simp] theorem expireRequest_link (e : Env) (c : Core) : (expireRequest e c).link = c.link := by
  unfold expireRequest; (try simp only); (repeat' split) <;> simp
@[simp] theorem expireRequest_sup (e : Env) (c : Core) : (expireRequest e c).sup = c.sup := by
  unfold expireRequest; (try simp only); (repeat' split) <;> simp

@[simp] theorem closeRetained_auth (e : Env) (c : Core) : (closeRetained e c).auth = c.auth := by
  unfold closeRetained; (try simp only); (repeat' split) <;> simp
@[simp] theorem closeRetained_alloc (e : Env) (c : Core) : (closeRetained e c).alloc = c.alloc := by
  unfold closeRetained; (try simp only); (repeat' split) <;> simp
@[simp] theorem closeRetained_heater (e : Env) (c : Core) : (closeRetained e c).heater = c.heater := by
  unfold closeRetained; (try simp only); (repeat' split) <;> simp
@[simp] theorem closeRetained_mon (e : Env) (c : Core) : (closeRetained e c).mon = c.mon := by
  unfold closeRetained; (try simp only); (repeat' split) <;> simp
@[simp] theorem closeRetained_sup (e : Env) (c : Core) : (closeRetained e c).sup = c.sup := by
  unfold closeRetained; (try simp only); (repeat' split) <;> simp

@[simp] theorem endStarting_session (outcome : TestOutcome) (c : Core) : (endStarting outcome c).session = c.session := by
  unfold endStarting; (try simp only); (repeat' split) <;> simp
@[simp] theorem endStarting_auth (outcome : TestOutcome) (c : Core) : (endStarting outcome c).auth = c.auth := by
  unfold endStarting; (try simp only); (repeat' split) <;> simp
@[simp] theorem endStarting_heater (outcome : TestOutcome) (c : Core) : (endStarting outcome c).heater = c.heater := by
  unfold endStarting; (try simp only); (repeat' split) <;> simp
@[simp] theorem endStarting_mon (outcome : TestOutcome) (c : Core) : (endStarting outcome c).mon = c.mon := by
  unfold endStarting; (try simp only); (repeat' split) <;> simp
@[simp] theorem endStarting_queue (outcome : TestOutcome) (c : Core) : (endStarting outcome c).queue = c.queue := by
  unfold endStarting; (try simp only); (repeat' split) <;> simp
@[simp] theorem endStarting_link (outcome : TestOutcome) (c : Core) : (endStarting outcome c).link = c.link := by
  unfold endStarting; (try simp only); (repeat' split) <;> simp

@[simp] theorem quietOpen_session (c : Core) : (quietOpen c).session = c.session := by
  unfold quietOpen; (try simp only); (repeat' split) <;> simp
@[simp] theorem quietOpen_auth (c : Core) : (quietOpen c).auth = c.auth := by
  unfold quietOpen; (try simp only); (repeat' split) <;> simp
@[simp] theorem quietOpen_alloc (c : Core) : (quietOpen c).alloc = c.alloc := by
  unfold quietOpen; (try simp only); (repeat' split) <;> simp
@[simp] theorem quietOpen_heater (c : Core) : (quietOpen c).heater = c.heater := by
  unfold quietOpen; (try simp only); (repeat' split) <;> simp
@[simp] theorem quietOpen_meter (c : Core) : (quietOpen c).meter = c.meter := by
  unfold quietOpen; (try simp only); (repeat' split) <;> simp
@[simp] theorem quietOpen_queue (c : Core) : (quietOpen c).queue = c.queue := by
  unfold quietOpen; (try simp only); (repeat' split) <;> simp
@[simp] theorem quietOpen_link (c : Core) : (quietOpen c).link = c.link := by
  unfold quietOpen; (try simp only); (repeat' split) <;> simp
@[simp] theorem quietOpen_sup (c : Core) : (quietOpen c).sup = c.sup := by
  unfold quietOpen; (try simp only); (repeat' split) <;> simp

@[simp] theorem allocationDue_auth (e : Env) (c : Core) : (allocationDue e c).auth = c.auth := by
  unfold allocationDue; (try simp only); (repeat' split) <;> simp
@[simp] theorem allocationDue_meter (e : Env) (c : Core) : (allocationDue e c).meter = c.meter := by
  unfold allocationDue; (try simp only); (repeat' split) <;> simp
@[simp] theorem allocationDue_queue (e : Env) (c : Core) : (allocationDue e c).queue = c.queue := by
  unfold allocationDue; (try simp only); (repeat' split) <;> simp
@[simp] theorem allocationDue_link (e : Env) (c : Core) : (allocationDue e c).link = c.link := by
  unfold allocationDue; (try simp only); (repeat' split) <;> simp
@[simp] theorem allocationDue_sup (e : Env) (c : Core) : (allocationDue e c).sup = c.sup := by
  unfold allocationDue; (try simp only); (repeat' split) <;> simp

@[simp] theorem slotDue_session (e : Env) (c : Core) : (slotDue e c).session = c.session := by
  unfold slotDue; (try simp only); (repeat' split) <;> simp
@[simp] theorem slotDue_auth (e : Env) (c : Core) : (slotDue e c).auth = c.auth := by
  unfold slotDue; (try simp only); (repeat' split) <;> simp
@[simp] theorem slotDue_alloc (e : Env) (c : Core) : (slotDue e c).alloc = c.alloc := by
  unfold slotDue; (try simp only); (repeat' split) <;> simp
@[simp] theorem slotDue_mon (e : Env) (c : Core) : (slotDue e c).mon = c.mon := by
  unfold slotDue; (try simp only); (repeat' split) <;> simp
@[simp] theorem slotDue_meter (e : Env) (c : Core) : (slotDue e c).meter = c.meter := by
  unfold slotDue; (try simp only); (repeat' split) <;> simp
@[simp] theorem slotDue_queue (e : Env) (c : Core) : (slotDue e c).queue = c.queue := by
  unfold slotDue; (try simp only); (repeat' split) <;> simp
@[simp] theorem slotDue_link (e : Env) (c : Core) : (slotDue e c).link = c.link := by
  unfold slotDue; (try simp only); (repeat' split) <;> simp
@[simp] theorem slotDue_sup (e : Env) (c : Core) : (slotDue e c).sup = c.sup := by
  unfold slotDue; (try simp only); (repeat' split) <;> simp

@[simp] theorem meteringDue_auth (e : Env) (c : Core) : (meteringDue e c).auth = c.auth := by
  unfold meteringDue; (try simp only); (repeat' split) <;> simp
@[simp] theorem meteringDue_sup (e : Env) (c : Core) : (meteringDue e c).sup = c.sup := by
  unfold meteringDue; (try simp only); (repeat' split) <;> simp

@[simp] theorem tick_session (c : Core) : (tick c).session = c.session := by
  unfold tick; (try simp only); (repeat' split) <;> simp
@[simp] theorem tick_auth (c : Core) : (tick c).auth = c.auth := by
  unfold tick; (try simp only); (repeat' split) <;> simp
@[simp] theorem tick_alloc (c : Core) : (tick c).alloc = c.alloc := by
  unfold tick; (try simp only); (repeat' split) <;> simp
@[simp] theorem tick_heater (c : Core) : (tick c).heater = c.heater := by
  unfold tick; (try simp only); (repeat' split) <;> simp
@[simp] theorem tick_mon (c : Core) : (tick c).mon = c.mon := by
  unfold tick; (try simp only); (repeat' split) <;> simp
@[simp] theorem tick_queue (c : Core) : (tick c).queue = c.queue := by
  unfold tick; (try simp only); (repeat' split) <;> simp
@[simp] theorem tick_link (c : Core) : (tick c).link = c.link := by
  unfold tick; (try simp only); (repeat' split) <;> simp
@[simp] theorem tick_sup (c : Core) : (tick c).sup = c.sup := by
  unfold tick; (try simp only); (repeat' split) <;> simp

@[simp] theorem messageArrives_session (k : PostKind) (c : Core) : (messageArrives k c).session = c.session := by
  unfold messageArrives; (try simp only); (repeat' split) <;> simp
@[simp] theorem messageArrives_auth (k : PostKind) (c : Core) : (messageArrives k c).auth = c.auth := by
  unfold messageArrives; (try simp only); (repeat' split) <;> simp
@[simp] theorem messageArrives_alloc (k : PostKind) (c : Core) : (messageArrives k c).alloc = c.alloc := by
  unfold messageArrives; (try simp only); (repeat' split) <;> simp
@[simp] theorem messageArrives_heater (k : PostKind) (c : Core) : (messageArrives k c).heater = c.heater := by
  unfold messageArrives; (try simp only); (repeat' split) <;> simp
@[simp] theorem messageArrives_mon (k : PostKind) (c : Core) : (messageArrives k c).mon = c.mon := by
  unfold messageArrives; (try simp only); (repeat' split) <;> simp
@[simp] theorem messageArrives_meter (k : PostKind) (c : Core) : (messageArrives k c).meter = c.meter := by
  unfold messageArrives; (try simp only); (repeat' split) <;> simp
@[simp] theorem messageArrives_queue (k : PostKind) (c : Core) : (messageArrives k c).queue = c.queue := by
  unfold messageArrives; (try simp only); (repeat' split) <;> simp
@[simp] theorem messageArrives_sup (k : PostKind) (c : Core) : (messageArrives k c).sup = c.sup := by
  unfold messageArrives; (try simp only); (repeat' split) <;> simp

@[simp] theorem aliveTimeout_session (c : Core) : (aliveTimeout c).session = c.session := by
  unfold aliveTimeout; (try simp only); (repeat' split) <;> simp
@[simp] theorem aliveTimeout_auth (c : Core) : (aliveTimeout c).auth = c.auth := by
  unfold aliveTimeout; (try simp only); (repeat' split) <;> simp
@[simp] theorem aliveTimeout_alloc (c : Core) : (aliveTimeout c).alloc = c.alloc := by
  unfold aliveTimeout; (try simp only); (repeat' split) <;> simp
@[simp] theorem aliveTimeout_heater (c : Core) : (aliveTimeout c).heater = c.heater := by
  unfold aliveTimeout; (try simp only); (repeat' split) <;> simp
@[simp] theorem aliveTimeout_mon (c : Core) : (aliveTimeout c).mon = c.mon := by
  unfold aliveTimeout; (try simp only); (repeat' split) <;> simp
@[simp] theorem aliveTimeout_meter (c : Core) : (aliveTimeout c).meter = c.meter := by
  unfold aliveTimeout; (try simp only); (repeat' split) <;> simp
@[simp] theorem aliveTimeout_queue (c : Core) : (aliveTimeout c).queue = c.queue := by
  unfold aliveTimeout; (try simp only); (repeat' split) <;> simp
@[simp] theorem aliveTimeout_sup (c : Core) : (aliveTimeout c).sup = c.sup := by
  unfold aliveTimeout; (try simp only); (repeat' split) <;> simp

@[simp] theorem postLimitTimeout_session (c : Core) : (postLimitTimeout c).session = c.session := by
  unfold postLimitTimeout; (try simp only); (repeat' split) <;> simp
@[simp] theorem postLimitTimeout_auth (c : Core) : (postLimitTimeout c).auth = c.auth := by
  unfold postLimitTimeout; (try simp only); (repeat' split) <;> simp
@[simp] theorem postLimitTimeout_alloc (c : Core) : (postLimitTimeout c).alloc = c.alloc := by
  unfold postLimitTimeout; (try simp only); (repeat' split) <;> simp
@[simp] theorem postLimitTimeout_heater (c : Core) : (postLimitTimeout c).heater = c.heater := by
  unfold postLimitTimeout; (try simp only); (repeat' split) <;> simp
@[simp] theorem postLimitTimeout_mon (c : Core) : (postLimitTimeout c).mon = c.mon := by
  unfold postLimitTimeout; (try simp only); (repeat' split) <;> simp
@[simp] theorem postLimitTimeout_meter (c : Core) : (postLimitTimeout c).meter = c.meter := by
  unfold postLimitTimeout; (try simp only); (repeat' split) <;> simp
@[simp] theorem postLimitTimeout_queue (c : Core) : (postLimitTimeout c).queue = c.queue := by
  unfold postLimitTimeout; (try simp only); (repeat' split) <;> simp
@[simp] theorem postLimitTimeout_sup (c : Core) : (postLimitTimeout c).sup = c.sup := by
  unfold postLimitTimeout; (try simp only); (repeat' split) <;> simp

@[simp] theorem statusDue_session (e : Env) (c : Core) : (statusDue e c).session = c.session := by
  unfold statusDue; (try simp only); (repeat' split) <;> simp
@[simp] theorem statusDue_auth (e : Env) (c : Core) : (statusDue e c).auth = c.auth := by
  unfold statusDue; (try simp only); (repeat' split) <;> simp
@[simp] theorem statusDue_alloc (e : Env) (c : Core) : (statusDue e c).alloc = c.alloc := by
  unfold statusDue; (try simp only); (repeat' split) <;> simp
@[simp] theorem statusDue_heater (e : Env) (c : Core) : (statusDue e c).heater = c.heater := by
  unfold statusDue; (try simp only); (repeat' split) <;> simp
@[simp] theorem statusDue_mon (e : Env) (c : Core) : (statusDue e c).mon = c.mon := by
  unfold statusDue; (try simp only); (repeat' split) <;> simp
@[simp] theorem statusDue_meter (e : Env) (c : Core) : (statusDue e c).meter = c.meter := by
  unfold statusDue; (try simp only); (repeat' split) <;> simp
@[simp] theorem statusDue_queue (e : Env) (c : Core) : (statusDue e c).queue = c.queue := by
  unfold statusDue; (try simp only); (repeat' split) <;> simp
@[simp] theorem statusDue_sup (e : Env) (c : Core) : (statusDue e c).sup = c.sup := by
  unfold statusDue; (try simp only); (repeat' split) <;> simp

@[simp] theorem messageTimeout_session (k : TxKind) (which : TxWhich) (c : Core) : (messageTimeout k which c).session = c.session := by
  unfold messageTimeout; (try simp only); (repeat' split) <;> simp
@[simp] theorem messageTimeout_auth (k : TxKind) (which : TxWhich) (c : Core) : (messageTimeout k which c).auth = c.auth := by
  unfold messageTimeout; (try simp only); (repeat' split) <;> simp
@[simp] theorem messageTimeout_alloc (k : TxKind) (which : TxWhich) (c : Core) : (messageTimeout k which c).alloc = c.alloc := by
  unfold messageTimeout; (try simp only); (repeat' split) <;> simp
@[simp] theorem messageTimeout_heater (k : TxKind) (which : TxWhich) (c : Core) : (messageTimeout k which c).heater = c.heater := by
  unfold messageTimeout; (try simp only); (repeat' split) <;> simp
@[simp] theorem messageTimeout_mon (k : TxKind) (which : TxWhich) (c : Core) : (messageTimeout k which c).mon = c.mon := by
  unfold messageTimeout; (try simp only); (repeat' split) <;> simp
@[simp] theorem messageTimeout_meter (k : TxKind) (which : TxWhich) (c : Core) : (messageTimeout k which c).meter = c.meter := by
  unfold messageTimeout; (try simp only); (repeat' split) <;> simp
@[simp] theorem messageTimeout_queue (k : TxKind) (which : TxWhich) (c : Core) : (messageTimeout k which c).queue = c.queue := by
  unfold messageTimeout; (try simp only); (repeat' split) <;> simp
@[simp] theorem messageTimeout_sup (k : TxKind) (which : TxWhich) (c : Core) : (messageTimeout k which c).sup = c.sup := by
  unfold messageTimeout; (try simp only); (repeat' split) <;> simp

@[simp] theorem resetPin_session (c : Core) : (resetPin c).session = c.session := by
  unfold resetPin; (try simp only); (repeat' split) <;> simp
@[simp] theorem resetPin_auth (c : Core) : (resetPin c).auth = c.auth := by
  unfold resetPin; (try simp only); (repeat' split) <;> simp
@[simp] theorem resetPin_alloc (c : Core) : (resetPin c).alloc = c.alloc := by
  unfold resetPin; (try simp only); (repeat' split) <;> simp
@[simp] theorem resetPin_heater (c : Core) : (resetPin c).heater = c.heater := by
  unfold resetPin; (try simp only); (repeat' split) <;> simp
@[simp] theorem resetPin_mon (c : Core) : (resetPin c).mon = c.mon := by
  unfold resetPin; (try simp only); (repeat' split) <;> simp
@[simp] theorem resetPin_meter (c : Core) : (resetPin c).meter = c.meter := by
  unfold resetPin; (try simp only); (repeat' split) <;> simp
@[simp] theorem resetPin_queue (c : Core) : (resetPin c).queue = c.queue := by
  unfold resetPin; (try simp only); (repeat' split) <;> simp
@[simp] theorem resetPin_link (c : Core) : (resetPin c).link = c.link := by
  unfold resetPin; (try simp only); (repeat' split) <;> simp

@[simp] theorem loseRetention_session (c : Core) : (loseRetention c).session = c.session := by
  unfold loseRetention; (try simp only); (repeat' split) <;> simp
@[simp] theorem loseRetention_auth (c : Core) : (loseRetention c).auth = c.auth := by
  unfold loseRetention; (try simp only); (repeat' split) <;> simp
@[simp] theorem loseRetention_alloc (c : Core) : (loseRetention c).alloc = c.alloc := by
  unfold loseRetention; (try simp only); (repeat' split) <;> simp
@[simp] theorem loseRetention_heater (c : Core) : (loseRetention c).heater = c.heater := by
  unfold loseRetention; (try simp only); (repeat' split) <;> simp
@[simp] theorem loseRetention_mon (c : Core) : (loseRetention c).mon = c.mon := by
  unfold loseRetention; (try simp only); (repeat' split) <;> simp
@[simp] theorem loseRetention_meter (c : Core) : (loseRetention c).meter = c.meter := by
  unfold loseRetention; (try simp only); (repeat' split) <;> simp
@[simp] theorem loseRetention_queue (c : Core) : (loseRetention c).queue = c.queue := by
  unfold loseRetention; (try simp only); (repeat' split) <;> simp
@[simp] theorem loseRetention_link (c : Core) : (loseRetention c).link = c.link := by
  unfold loseRetention; (try simp only); (repeat' split) <;> simp

end Sys2Proof.Machine
end

