-- ==== Sys2Proof/Laws/Layout.lean ====
section
/-! SUPPORT. The lengths of the fields and layouts of chapter 12. -/

namespace Sys2Proof.Machine

/-! ### Fields -/

@[simp] theorem le_length (n v : Nat) : (le n v).length = n := by
  induction n generalizing v with
  | zero => rfl
  | succ n ih => simp [le, ih]

@[simp] theorem field_length (n v : Nat) : (field n v).length = n := by unfold field; split <;> simp

@[simp] theorem signedField_length (n : Nat) (v : Int) : (signedField n v).length = n := by
  unfold signedField; split <;> simp

@[simp] theorem unstated_length (c : Core) (place n : Nat) : (unstated c place n).length = n := by
  induction n generalizing place with
  | zero => rfl
  | succ n ih => simp [unstated, ih]

@[simp] theorem byteOrFF_length (v : Option Nat) : (byteOrFF v).length = 1 := by simp [byteOrFF]

@[simp] theorem boolField_length (b : Bool) : (boolField b).length = 1 := rfl

@[simp] theorem halfOr_length (absent : Nat) (v : Option Nat) : (halfOr absent v).length = 2 := by
  simp [halfOr]

@[simp] theorem signedOr8000_length (v : Option Int) : (signedOr8000 v).length = 2 := by
  unfold signedOr8000; split <;> simp

@[simp] theorem flagsByte_length (l : List Bool) : (flagsByte l).length = 1 := rfl

/-! ### Groups of the status record (section 12.4) -/

@[simp] theorem statusCore_length (e : Env) (c : Core) : (statusCore e c).length = 39 := by
  unfold statusCore sessionFields authFields requestFields
  simp
  split <;> simp

theorem allocGroup_length (r : AllocRecord) : (allocGroup r).length = 37 := by simp [allocGroup]

theorem heaterGroup_length (h : Heater) : (heaterGroup h).length = 16 := by
  simp [heaterGroup, Quad.toList]

theorem monitorGroup_length (m : Monitor) : (monitorGroup m).length = 3 := by simp [monitorGroup]

theorem meterGroup_length (e : Env) (c : Core) : (meterGroup e c).length = 36 := by
  unfold meterGroup
  cases c.meter.staging <;> cases c.meter.openRec <;> simp

theorem queueGroup_length (c : Core) : (queueGroup c).length = 5 := by
  unfold queueGroup
  cases c.queue.oldest <;> simp

theorem linkGroup_length (e : Env) (l : Link) : (linkGroup e l).length = 15 := by
  simp [linkGroup, slotFields]

theorem zoneField_length (c : Core) (place : Nat) (z : Zone) : (zoneField c place z).length = 2 := by
  unfold zoneField; cases z.value <;> simp

theorem setFields_length (p : MeasurementSet) : (setFields p).length = 28 := by simp [setFields]

theorem measureGroup_length (c : Core) (m : Mfe) : (measureGroup c m).length = 52 := by
  unfold measureGroup
  cases m.published <;> simp [zoneField_length, setFields_length]

theorem supplyAndDetails_length (c : Core) : (supplyAndDetails c).length = 5 := by
  simp [supplyAndDetails]

/-- The status record has 208 bytes (R177). -/
theorem statusRecord_length (e : Env) (c : Core) : (statusRecord e c).length = 208 := by
  simp only [statusRecord, List.length_append, statusCore_length, allocGroup_length,
    heaterGroup_length, monitorGroup_length, meterGroup_length, queueGroup_length, linkGroup_length,
    measureGroup_length, supplyAndDetails_length]

/-- The response to READ-STATUS is the status record and the code of the reset kind (R184, log 44). -/
theorem statusContent_eq (e : Env) (c : Core) :
    statusContent e c = statusRecord e c ++ [BitVec.ofNat 8 c.sup.kind.code] := by
  unfold statusContent
  cases c.sup.kind <;> rfl

theorem statusContent_length (e : Env) (c : Core) : (statusContent e c).length = 209 := by
  simp [statusContent_eq, statusRecord_length]

/-! ### Responses (section 12.3) -/

theorem resultBlock_length (c : Core) (place : Nat) (r : Option CycleResult) :
    (resultBlock c place r).length = 13 := by
  cases r with
  | none => rfl
  | some r =>
    obtain ⟨_, _, _, vBus, thresholds⟩ := r
    cases vBus <;> cases thresholds <;> simp [resultBlock]

theorem insulationContent_length (e : Env) (c : Core) : (insulationContent e c).length = 44 := by
  simp [insulationContent, resultBlock_length]

theorem configFields_length (g : ConfigRecord) : (configFields g).length = 42 := by
  unfold configFields
  simp only [List.length_append, field_length, signedField_length, le_length]

theorem tableBytes_length (l : List TempRow) : (l.flatMap TempRow.bytes).length = 4 * l.length := by
  induction l with
  | nil => rfl
  | cons a l ih => simp [ih, TempRow.bytes]; omega

theorem identifyContent_length (s : Supply) : (identifyContent s).length = 7 := by
  simp [identifyContent]

end Sys2Proof.Machine
end

