-- ==== Sys2Proof/Laws/Ops.lean ====
section
/-! SUPPORT. What the shared operations can do, said once: every lemma here names the cases of one operation, so
that a proof cites it and does not unfold the operation. -/

namespace Sys2Proof.Machine

/-! ### Answers and events -/

/-- The lines follow the blocks, and READY falls while a reset is held. -/
theorem State.settle_eq (s : State) :
    s.settle = { s with lines := linesOf s.core
                        vport := { s.vport with ready := s.vport.ready && s.core.sup.held.isNone } } := rfl


/-- Settling twice is settling once. -/
theorem State.settle_settle (s : State) : s.settle.settle = s.settle := by
  simp only [State.settle_eq, Bool.and_assoc, Bool.and_self]

/-- An event of the blocks in a part that is up. -/
theorem State.event_up {s : State} (f : Env → Core → Core) (h : s.core.up = true) :
    s.event f = s.run f := by simp [State.event, h]

/-- An event of the blocks in a part that is held in reset or asleep. -/
theorem State.event_down {s : State} (f : Env → Core → Core) (h : s.core.up = false) :
    s.event f = s := by simp [State.event, h]

/-- The next state of an event: the blocks after it, and what follows them. -/
theorem State.event_done {s : State} (f : Env → Core → Core) (h : s.core.up = true) :
    (s.event f).done = .next (afterBlocks s (f s.env s.core)) := by
  rw [State.event_up f h]; rfl

/-- A part that is ACTIVE and not held in reset is up. -/
theorem Core.up_of_active {c : Core} (hh : c.sup.held = none) (hp : c.sup.power = .active) :
    c.up = true := by simp [Core.up, hh, hp]

/-! ### The end of every session event -/

/-- Outside ATTACHED and CLOSED nothing follows an event (R24, R40). -/
theorem conclude_other {e : Env} {c : Core} (ha : c.session.state ≠ .attached)
    (hc : c.session.state ≠ .closed) : conclude e c = c := by
  simp [conclude, evaluateStart, leaveClosed, ha, hc]

/-- CLOSED is kept while the record's close is pending, or without detachment and release (R40). -/
theorem conclude_closed {e : Env} {c : Core} (hc : c.session.state = .closed)
    (h : c.session.closePending = true ∨ (e.mfe.detached = false ∧ c.session.releaseSeen = false)) :
    conclude e c = c := by
  rcases h with h | ⟨h, h'⟩ <;> simp [conclude, evaluateStart, leaveClosed, *]

/-- A mask of no more places than bits is empty only if no member is in it. -/
theorem maskOf_eq_zero {n : Nat} {l : List Bool} (h : l.length ≤ n) (hz : maskOf n l = 0) :
    ∀ b ∈ l, b = false := by
  have hlt (l : List Bool) : l.foldr (fun b acc => b.toNat + 2 * acc) 0 < 2 ^ l.length := by
    induction l with
    | nil => simp
    | cons b l ih =>
      have := Bool.toNat_lt b
      simp only [List.foldr_cons, List.length_cons, Nat.pow_succ]
      omega
  have hval : l.foldr (fun b acc => b.toNat + 2 * acc) 0 = 0 := by
    have h1 : (maskOf n l).toNat = 0 := by rw [hz]; rfl
    rw [maskOf, BitVec.toNat_ofNat, Nat.mod_eq_of_lt] at h1
    · exact h1
    · exact Nat.lt_of_lt_of_le (hlt l) (Nat.pow_le_pow_right (by decide) h)
  clear hz h
  induction l with
  | nil => simp
  | cons b l ih =>
    simp only [List.foldr_cons] at hval
    intro x hx
    rcases List.mem_cons.1 hx with rfl | hx
    · cases x
      · rfl
      · simp at hval
    · exact ih (by omega) x hx

/-- Without a vehicle charge request no session leaves ATTACHED (R24). -/
theorem missingStart_request {e : Env} {c : Core} (h : c.session.request = none) :
    missingStart e c ≠ 0 := fun hz => by
  have := maskOf_eq_zero (by simp) hz true (by simp [h])
  simp at this

/-- No start condition moves a session at rest. -/
theorem conclude_rests {e : Env} {c : Core} (h : c.session.Rests) : conclude e c = c := by
  rcases h with h | ⟨h, hr⟩ | ⟨h, hp⟩
  · exact conclude_other (by simp [h]) (by simp [h])
  · have hm : (missingStart e c == 0) = false := beq_eq_false_iff_ne.2 (missingStart_request hr)
    simp only [conclude, evaluateStart, leaveClosed, hm, h, Bool.and_false, Bool.false_eq_true,
      if_false]
    rfl
  · exact conclude_closed h (.inl hp)

/-! ### Disturbances and falls of the command line (R83, R99, R109) -/

/-- A disturbance marks the open window and does nothing else. -/
theorem disturb_eq (c : Core) :
    disturb c = { c with mon := { c.mon with mark := c.mon.mark || c.mon.window } } := by
  unfold disturb
  cases c with | mk _ _ _ _ m => cases m with | mk => split <;> simp_all [Core.onMon]

/-- A report of a fall is a disturbance or nothing. -/
theorem reportFall_cases (before : Nat) (c : Core) :
    reportFall before c = c ∨ reportFall before c = disturb c := by
  unfold reportFall; split <;> simp

/-! ### The vehicle port (R170, R172, R189) -/

theorem vehicleRequest_held {s : State} (k q : Byte) (a : DeferredAction) (own : Owner)
    (c : List Byte) (h : s.core.sup.held.isSome = true) : vehicleRequest k q a own c s = s := by
  simp [vehicleRequest, h]

theorem vehicleRequest_asleep {s : State} (k q : Byte) (a : DeferredAction) (own : Owner)
    (c : List Byte) (h : s.asleep = true) :
    vehicleRequest k q a own c s = shiftBusy (wakeUp (wakeSet false false true false) s) := by
  have hh : s.core.sup.held.isSome = false := by
    simp only [State.asleep, Bool.and_eq_true] at h
    simpa using h.1
  simp [vehicleRequest, h, hh]

theorem vehicleRequest_busy {s : State} (k q : Byte) (a : DeferredAction) (own : Owner)
    (c : List Byte) (hu : s.core.up = true) (h : s.vport.ready = false) :
    vehicleRequest k q a own c s = shiftBusy s := by
  simp only [Core.up, Bool.and_eq_true, bne_iff_ne] at hu
  simp_all [vehicleRequest, State.asleep]

theorem vehicleRequest_deferred {s : State} (k q : Byte) (a : DeferredAction) (own : Owner)
    (c : List Byte) (hu : s.core.up = true) (hr : s.vport.ready = true)
    (h : s.vport.deferred ≠ .none) : vehicleRequest k q a own c s = releaseDeferred s := by
  simp only [Core.up, Bool.and_eq_true, bne_iff_ne] at hu
  simp_all [vehicleRequest, State.asleep]

theorem vehicleRequest_taken {s : State} (k q : Byte) (a : DeferredAction) (own : Owner)
    (c : List Byte) (hu : s.core.up = true) (hr : s.vport.ready = true)
    (h : s.vport.deferred = .none) :
    vehicleRequest k q a own c s = process k q a (own c (shiftHeld s)) := by
  simp only [Core.up, Bool.and_eq_true, bne_iff_ne] at hu
  simp_all [vehicleRequest, State.asleep]

/-- The dispatch of a part that is not in STARTING hands the request to its owner (R177). -/
theorem dispatch_owner {own : Owner} {c : List Byte} {s : State} (h : s.core.sup.power ≠ .starting) :
    dispatch own c s = own c s := by simp [dispatch, h]

/-- In STARTING the dispatch answers (R177). -/
theorem dispatch_starting {own : Owner} {c : List Byte} {s : State}
    (h : s.core.sup.power = .starting) : dispatch own c s = refusedWith .notReady s := by
  simp [dispatch, h]

@[simp] theorem shiftHeld_env (s : State) : (shiftHeld s).env = s.env := rfl
@[simp] theorem shiftHeld_core (s : State) : (shiftHeld s).core = s.core := rfl
@[simp] theorem shiftHeld_fport (s : State) : (shiftHeld s).fport = s.fport := rfl
@[simp] theorem shiftHeld_pending (s : State) : (shiftHeld s).pending = s.pending := rfl

/-! ### The fleet port (R173 to R176) -/

theorem fleetRequest_held {s : State} (k q : Byte) (own : Owner) (c : List Byte)
    (h : s.core.sup.held.isSome = true) : fleetRequest k q own c s = s := by
  simp [fleetRequest, h]

theorem wakeByFleet_awake {s : State} (h : s.asleep = false) : wakeByFleet s = s := by
  simp [wakeByFleet, h]

theorem asleep_of_up {s : State} (hu : s.core.up = true) : s.asleep = false := by
  simp only [Core.up, Bool.and_eq_true, bne_iff_ne] at hu
  simp [State.asleep, hu.2]

theorem held_of_up {s : State} (hu : s.core.up = true) : s.core.sup.held = none := by
  simp only [Core.up, Bool.and_eq_true] at hu
  simpa using hu.1

/-- No frame is taken while a request is outstanding (R176). -/
theorem takeFrames_outstanding (n : Nat) {s : State} (h : s.fport.outstanding.isSome = true) :
    takeFrames n s = s := by
  cases n <;> simp [takeFrames, h]

/-- No frame is taken from a FIFO without a complete frame (R176). -/
theorem takeFrames_none (n : Nat) {s : State} (h : headFrame s.fport.fifo = none) :
    takeFrames n s = s := by
  cases n <;> simp [takeFrames, h]

/-- What stays of a FIFO is no longer than it was (R175). -/
theorem completePart_length (l : List Byte) : (completePart l).length ≤ l.length := by
  unfold completePart
  split
  · simp
  · have := (List.dropWhile_sublist (fun b : Byte => decide (b ≠ flagByte)) (l := l.reverse)).length_le
    simpa using this

/-- A frame that fits is taken at once by a port that is free for it (R174 to R176). -/
theorem takesAtOnce_of_free {p : FleetPort} {body : List Byte} (h : p.Free)
    (hf : (frameOf body).length ≤ 64) : p.takesAtOnce body = true := by
  obtain ⟨ho, hq⟩ := h
  rcases hq with hq | hq <;> simp [FleetPort.takesAtOnce, FleetPort.quiet, flagByte, ho, hq, hf]

theorem takesAtOnce_outstanding {p : FleetPort} (body : List Byte)
    (h : p.outstanding.isSome = true) : p.takesAtOnce body = false := by
  cases ho : p.outstanding <;> simp_all [FleetPort.takesAtOnce]

theorem takesAtOnce_long {p : FleetPort} {body : List Byte} (h : 64 < (frameOf body).length) :
    p.takesAtOnce body = false := by
  simp [FleetPort.takesAtOnce, h]

/-- Receiving a byte changes the FIFO and the receive state alone. -/
@[simp] theorem receiveByte_outstanding (b : Byte) (p : FleetPort) :
    (receiveByte b p).outstanding = p.outstanding := by
  unfold receiveByte storeByte dropPartial
  repeat' split
  all_goals rfl

@[simp] theorem receiveByte_paused (b : Byte) (p : FleetPort) :
    (receiveByte b p).paused = p.paused := by
  unfold receiveByte storeByte dropPartial
  repeat' split
  all_goals rfl

@[simp] theorem receiveByte_transmit (b : Byte) (p : FleetPort) :
    (receiveByte b p).transmit = p.transmit := by
  unfold receiveByte storeByte dropPartial
  repeat' split
  all_goals rfl

/-- The FIFO keeps its bound whatever byte arrives (R174, R175). -/
theorem receiveByte_fits (b : Byte) {p : FleetPort} (h : p.Fits) : (receiveByte b p).Fits := by
  have hc := completePart_length p.fifo
  obtain ⟨h1, h2, h3⟩ := h
  refine ⟨?_, by simpa using h2, by simpa using h3⟩
  unfold receiveByte storeByte dropPartial
  repeat' split
  all_goals try simp
  all_goals omega

theorem receiveBytes_fits (l : List Byte) {p : FleetPort} (h : p.Fits) : (receiveBytes l p).Fits := by
  induction l generalizing p with
  | nil => exact h
  | cons b l ih => exact ih (receiveByte_fits b h)

/-- While a request is outstanding the bytes of a frame only go through the receiver (R176). -/
theorem arrive_outstanding (l : List Byte) {s : State} (h : s.fport.outstanding.isSome = true) :
    arrive l s = s.onFport (receiveBytes l) := by
  induction l generalizing s with
  | nil => rfl
  | cons b l ih =>
    have hb : takeByte s b = s.onFport (receiveByte b) :=
      takeFrames_outstanding _ (by simpa using h)
    show arrive l (takeByte s b) = _
    rw [hb, ih (by simpa using h)]
    rfl

theorem fleetRequest_waits {s : State} (k q : Byte) (own : Owner) (c : List Byte)
    (hu : s.core.up = true) (h : s.fport.outstanding.isSome = true) :
    fleetRequest k q own c s = s.onFport (receiveBytes (frameOf (requestBytes k q c))) := by
  simp [fleetRequest, held_of_up hu, wakeByFleet_awake (asleep_of_up hu),
    takesAtOnce_outstanding _ h, arrive_outstanding _ h]

theorem fleetRequest_taken {s : State} (k q : Byte) (own : Owner) (c : List Byte)
    (hu : s.core.up = true) (h : s.fport.Free) (hf : FrameFits k q c) :
    fleetRequest k q own c s = respondFleet { kind := k, seq := q, content := c }
      (own c (s.onFport closingFlag)) := by
  simp [fleetRequest, held_of_up hu, wakeByFleet_awake (asleep_of_up hu),
    takesAtOnce_of_free h hf]

/-- Escaping at most doubles the length of a frame's inside (R174). -/
theorem escaped_length (b : Byte) : (escaped b).length ≤ 2 := by
  unfold escaped; split <;> simp

theorem flatMap_escaped_length (l : List Byte) : (l.flatMap escaped).length ≤ 2 * l.length := by
  induction l with
  | nil => simp
  | cons b l ih =>
    have := escaped_length b
    simp only [List.flatMap_cons, List.length_append, List.length_cons]
    omega

/-- A content of up to 25 bytes fits whatever must be escaped; the longest request that the fleet port knows
has 12 (R175). -/
theorem frameFits_of_short {c : List Byte} (k q : Byte) (h : c.length ≤ 25) : FrameFits k q c := by
  have hl := flatMap_escaped_length
    (requestBytes k q c ++ le 2 (frameCheck (requestBytes k q c)).toNat)
  simp only [List.length_append, le_length] at hl
  have hr : (requestBytes k q c).length = 4 + c.length := by
    simp [requestBytes, le_length]; omega
  simp only [FrameFits, frameOf, List.length_cons, List.length_append, List.length_nil]
  omega

/-! ### The fleet transmitter (R173) -/

/-- The opening flag makes every frame nonempty. -/
theorem frameOf_length_pos (body : List Byte) : 1 ≤ (frameOf body).length := by simp [frameOf]

/-- The response to every other request stays as it was formed (R177). -/
@[simp] theorem Response.refreshed_other {p : Port} {u : Notices} {r : Response} (h : r.acknowledges = false) :
    r.refreshed p u = r := by simp [Response.refreshed, h]

/-- The response to an ACK-NOTICES keeps type, sequence number and status, and shows the set as it stands (R180). -/
theorem Response.refreshed_ack {p : Port} {u : Notices} {r : Response} (h : r.acknowledges = true) :
    r.refreshed p u = { r with pending := u.pendingOf p, content := ackContent p u } := by
  simp [Response.refreshed, h]

/-- A response without a moment to wait for has its form. -/
@[simp] theorem TxProgress.form_none {u : Notices} {t : TxProgress} (h : t.forming = none) : t.form u = t := by
  simp [TxProgress.form, h]

/-- The next byte stays within the response when it takes its form. -/
theorem TxProgress.form_le (u : Notices) {t : TxProgress} (h : t.next ≤ t.bytes.length) :
    (t.form u).next ≤ (t.form u).bytes.length := by
  unfold TxProgress.form
  split
  · simp only
    split
    · have := frameOf_length_pos (responseBytes (Response.refreshed .fleet u ‹_›))
      omega
    · exact h
  · exact h

/-- The next byte stays within the response. -/
theorem TxProgress.nextByte_le {t : TxProgress} (h : t.next ≤ t.bytes.length) :
    t.nextByte.next ≤ t.nextByte.bytes.length := by
  unfold TxProgress.nextByte
  split
  · simp only; omega
  · exact h

theorem TxProgress.advance_le (paused : Bool) {t : TxProgress} (h : t.next ≤ t.bytes.length) :
    (t.advance paused).next ≤ (t.advance paused).bytes.length := by
  unfold TxProgress.advance
  split
  · exact h
  · split
    · exact h
    · exact TxProgress.nextByte_le h

/-- What does not touch the FIFO and keeps or replaces the response by a part of itself keeps the port's
bounds. -/
theorem FleetPort.characterTime_fits (u : Notices) {p : FleetPort} (h : p.Fits) :
    (p.characterTime u).Fits := by
  obtain ⟨h1, h2, h3⟩ := h
  refine ⟨h1, by simpa [FleetPort.characterTime] using h2, fun x hx => ?_⟩
  simp only [FleetPort.characterTime, Option.map_eq_some_iff] at hx
  obtain ⟨t, ht, rfl⟩ := hx
  exact TxProgress.advance_le _ (TxProgress.form_le u (h3 t ht))

theorem FleetPort.setFlow_fits (pause : Bool) {p : FleetPort} (h : p.Fits) : (p.setFlow pause).Fits := by
  obtain ⟨h1, h2, h3⟩ := h
  refine ⟨h1, by simpa [FleetPort.setFlow] using h2, fun x hx => ?_⟩
  simp only [FleetPort.setFlow, Option.map_eq_some_iff] at hx
  obtain ⟨t, ht, rfl⟩ := hx
  split
  · exact h3 t ht
  · exact TxProgress.nextByte_le (h3 t ht)

/-- A character time leaves all but the transmitter as it is. -/
@[simp] theorem State.characterTime_core (s : State) : s.characterTime.core = s.core := by
  unfold State.characterTime; split <;> rfl
@[simp] theorem State.characterTime_env (s : State) : s.characterTime.env = s.env := by
  unfold State.characterTime; split <;> rfl
@[simp] theorem State.characterTime_vport (s : State) : s.characterTime.vport = s.vport := by
  unfold State.characterTime; split <;> rfl
@[simp] theorem State.characterTime_lines (s : State) : s.characterTime.lines = s.lines := by
  unfold State.characterTime; split <;> rfl
@[simp] theorem State.characterTime_pending (s : State) : s.characterTime.pending = s.pending := by
  unfold State.characterTime; split <;> rfl
theorem State.characterTime_fits {s : State} (h : s.fport.Fits) : s.characterTime.fport.Fits := by
  unfold State.characterTime
  split
  · exact FleetPort.characterTime_fits _ h
  · exact h

/-- A part that sends no response idles (log 1). -/
theorem State.characterTime_idle {s : State} (h : s.fport.transmit = none) : s.characterTime = s := by
  unfold State.characterTime FleetPort.characterTime State.onFport
  split <;> simp [h]
  rw [← h]

/-! ### The export queue (R146, R148) -/

/-- A record placed where there is room keeps the queue's bounds. -/
theorem ExportQueue.place_fits (r : BillingRecord) {q : ExportQueue} (h : q.Fits)
    (_ : q.room = true) : (q.place r).Fits := by
  obtain ⟨h8, hheld⟩ := h
  unfold ExportQueue.place ExportQueue.Fits
  split
  · refine ⟨by simp; omega, fun hs => ?_⟩
    have := hheld hs
    omega
  · exact ⟨h8, fun _ => by simp at *; omega⟩

/-- A release keeps the queue's bounds. -/
theorem ExportQueue.release_fits {q : ExportQueue} (h : q.Fits) : q.release.Fits := by
  obtain ⟨h8, hheld⟩ := h
  unfold ExportQueue.release ExportQueue.Fits
  cases hq : q.queue with
  | nil => simp
  | cons r rest =>
    refine ⟨?_, by simp⟩
    cases hh : q.held <;> simp_all <;> omega

/-! ### The allocator (R75 to R81) -/

/-- The two shares together stay within P_out (R75, R76). -/
theorem shareOut_le (preheat : Bool) (chgReq heatReq reserve pOut : Nat) :
    (shareOut preheat chgReq heatReq reserve pOut).1
      + (shareOut preheat chgReq heatReq reserve pOut).2 ≤ pOut := by
  cases preheat <;> simp [shareOut, firstShare] <;> omega

/-- Rounding never raises a value (R77). -/
theorem tens_le (v : Nat) : tens v ≤ v := by unfold tens; omega

/-- A limit-only record commands nothing. -/
theorem limitRecord_fits (e : Env) (c : Core) : (limitRecord e c).Fits := by
  simp [limitRecord, AllocRecord.Fits, AllocRecord.zero]

/-- The ramp stays within the target, and a pending increase is the target (R78, R79). -/
theorem rampStep_le (window : Bool) (target base : Nat) :
    (rampStep window target base).1 ≤ target
      ∧ ∀ p, (rampStep window target base).2 = some p → p = target := by
  unfold rampStep
  split <;> simp <;> omega

theorem rampTarget_le (immediate : Bool) (alloc base : Nat) : rampTarget immediate alloc base ≤ alloc := by
  unfold rampTarget; split <;> omega

/-- A full record keeps the command within P_out. -/
theorem fullRecord_fits (immediate : Bool) (e : Env) (c : Core) : (fullRecord immediate e c).Fits := by
  have hs := shareOut_le (c.session.state == .preheat) (chargeDemand e c.session) (heatDemand e c)
    e.cfg.reserve (limitRecord e c).pOut
  have h1 := tens_le (shareOut (c.session.state == .preheat) (chargeDemand e c.session)
    (heatDemand e c) e.cfg.reserve (limitRecord e c).pOut).1
  have h2 := tens_le (shareOut (c.session.state == .preheat) (chargeDemand e c.session)
    (heatDemand e c) e.cfg.reserve (limitRecord e c).pOut).2
  have hr := rampStep_le c.mon.window (rampTarget immediate (tens (shareOut
    (c.session.state == .preheat) (chargeDemand e c.session) (heatDemand e c) e.cfg.reserve
    (limitRecord e c).pOut).1) (rampBase c.alloc.record)) (rampBase c.alloc.record)
  have ht := rampTarget_le immediate (tens (shareOut (c.session.state == .preheat)
    (chargeDemand e c.session) (heatDemand e c) e.cfg.reserve (limitRecord e c).pOut).1)
    (rampBase c.alloc.record)
  refine ⟨?_, ?_, ?_, fun p hp => ?_⟩
  · simp only [fullRecord]
    split <;> omega
  · simp only [fullRecord]; omega
  · simp only [fullRecord]; omega
  · simp only [fullRecord] at hp ⊢
    have := hr.2 p hp
    omega

/-- Every allocation keeps the command within P_out (R81). -/
theorem nextRecord_fits (immediate : Bool) (e : Env) (c : Core) : (nextRecord immediate e c).Fits := by
  unfold nextRecord
  split
  · exact fullRecord_fits ..
  · exact fullRecord_fits ..
  · exact limitRecord_fits ..
  · exact limitRecord_fits ..
  all_goals simp [AllocRecord.Fits, AllocRecord.zero]

/-- A zero allocation in the states that carry no power (R62). -/
theorem nextRecord_zero {immediate : Bool} {e : Env} {c : Core}
    (h : c.session.state = .idle ∨ c.session.state = .attached ∨ c.session.state = .stopping
      ∨ c.session.state = .closed) : nextRecord immediate e c = AllocRecord.zero := by
  rcases h with h | h | h | h <;> simp [nextRecord, h]

end Sys2Proof.Machine
end

