-- ==== Sys2Proof/Laws/Ports.lean ====
section
/-! SUPPORT. What a request does on its port when it is taken, and what the small operand forms read. -/

namespace Sys2Proof.Machine

/-! ### Every command answers a next state, with the lines of its blocks -/

theorem exec_answers (i : Instr) (s : State) : ∃ u : State, exec i s = .next u.settle := by
  cases i <;> simp only [exec] <;> first
    | exact ⟨_, rfl⟩
    | (rename_i p _ _; cases p <;> exact ⟨_, rfl⟩)
    | (rename_i p _; cases p <;> exact ⟨_, rfl⟩)

/-! ### The window close -/

@[simp] theorem State.windowEnv_cfg (s : State) (w : WindowSamples) : (s.windowEnv w).cfg = s.env.cfg := rfl
@[simp] theorem State.windowEnv_table (s : State) (w : WindowSamples) : (s.windowEnv w).table = s.env.table := rfl
@[simp] theorem State.windowEnv_mfe (s : State) (w : WindowSamples) : (s.windowEnv w).mfe = s.windowMfe w := rfl
@[simp] theorem State.windowMfe_published (s : State) (w : WindowSamples) :
    (s.windowMfe w).published = some (measure w) := rfl

/-- A window that brings its set alone: the session, the heater and the supply monitor take it, and nothing else
acts (R1). -/
theorem exec_windowClose {w : WindowSamples} {s : State} (first : Bool) (h : BringsTheSet w s) :
    exec (.measurementWindowClose w first) s = .next (State.settle
      { s with
        env := s.windowEnv w
        core := conclude (s.windowEnv w)
          (deliverSet (s.core.session.state == .stopping) (s.windowEnv w)
            (postSensorFault (newlyInvalid s.env.mfe.zones (s.windowMfe w).zones) s.core)) }) := by
  obtain ⟨h1, h2, h3, h4, h5⟩ := h
  have hu := Core.up_of_active h1 h2
  have h4' : (closeMeasurement s.env.cfg w s.env.mfe).aux.active = s.env.mfe.aux.active := h4
  have h5' : windowEvent (closeMeasurement s.env.cfg w s.env.mfe).fault = false := h5
  simp only [exec, execMeasurementWindowClose, State.windowClose, hu, h3, Bool.and_self, if_true,
    State.done, State.onMfe, State.run, State.onCore, windowDeliveries, reviewAux, h4', windowFault,
    h5', Bool.false_eq_true, if_false, ite_self]
  rfl

/-! ### The vehicle port -/

/-- A request that is taken goes to its owner with the held response consumed. -/
theorem vehicleRequest_answer {s : State} (k q : Byte) (a : DeferredAction) (own : Owner)
    (c : List Byte) (h : VehicleTakes s) :
    (vehicleRequest k q a own c s).done = .next (process k q a (own c (shiftHeld s))).settle := by
  rw [vehicleRequest_taken _ _ _ _ _ (Core.up_of_active h.1 h.2.1) h.2.2.1 h.2.2.2]; rfl

theorem dispatch_vehicle {s : State} (own : Owner) (c : List Byte) (h : VehicleTakes s) :
    dispatch own c (shiftHeld s) = own c (shiftHeld s) := dispatch_owner (by simp [h.2.1])

/-- An owner that changes the blocks alone. -/
theorem process_settle {s : State} (h : VehicleTakes s) (c : Core) (k q : Byte) (status : Status)
    (content : List Byte) (a : DeferredAction) :
    (process k q a { state := (shiftHeld s).onCore fun _ => c, status, content }).settle
      = afterVehicle s c k q status content (if status = .ok then a else .none) := by
  simp [process, State.settle_eq, afterVehicle, vportAfter, respond, responseTo, State.onCore,
    shiftHeld, State.onVport, h.2.2.2]

/-- An owner that changes nothing. -/
theorem process_settle_same {s : State} (h : VehicleTakes s) (k q : Byte) (status : Status)
    (content : List Byte) (a : DeferredAction) :
    (process k q a { state := shiftHeld s, status, content }).settle
      = afterVehicle s s.core k q status content (if status = .ok then a else .none) :=
  process_settle h s.core k q status content a

/-! ### The fleet port -/

theorem fleetRequest_answer {s : State} (k q : Byte) (own : Owner) (c : List Byte)
    (h : FleetTakes s) (hf : FrameFits k q c) :
    (fleetRequest k q own c s).done
      = .next (respondFleet { kind := k, seq := q, content := c }
          (own c (s.onFport closingFlag))).settle := by
  rw [fleetRequest_taken _ _ _ _ (Core.up_of_active h.1 h.2.1) h.2.2 hf]; rfl

theorem dispatch_fleet {s : State} (own : Owner) (c : List Byte) (h : FleetTakes s) :
    dispatch own c (s.onFport closingFlag) = own c (s.onFport closingFlag) :=
  dispatch_owner (by show s.core.sup.power ≠ _; simp [h.2.1])

/-- An owner that changes the blocks alone. -/
theorem respondFleet_settle (s : State) (c : Core) (k q : Byte) (request : List Byte)
    (status : Status) (content : List Byte) :
    (respondFleet { kind := k, seq := q, content := request }
        { state := (s.onFport closingFlag).onCore fun _ => c, status, content }).settle
      = afterFleet s c request content k q status := by
  simp [respondFleet, State.settle_eq, afterFleet, fportAfter, respond, responseTo, State.onCore,
    closingFlag, State.onFport, flagByte, TxProgress.start, Response.acknowledges]
  exact ⟨rfl, by congr⟩

/-- An owner that changes nothing. -/
theorem respondFleet_settle_same (s : State) (k q : Byte) (request : List Byte) (status : Status)
    (content : List Byte) :
    (respondFleet { kind := k, seq := q, content := request }
        { state := s.onFport closingFlag, status, content }).settle
      = afterFleet s s.core request content k q status :=
  respondFleet_settle s s.core k q request status content

/-! ### Operand forms -/

/-- Two bytes carry the 2-byte word they were made of. -/
theorem leVal_le2 (w : Half) : leVal (le 2 w.toNat) = w.toNat := by
  have := w.isLt
  simp [le, leVal]
  omega

/-- Four bytes carry the 4-byte word they were made of. -/
theorem leVal_le4 (w : Word) : leVal (le 4 w.toNat) = w.toNat := by
  have := w.isLt
  simp [le, leVal]
  omega

theorem maskOperand_le (w : Half) : maskOperand (le 2 w.toNat) = some w := by
  show some (BitVec.ofNat 16 (leVal (le 2 w.toNat))) = some w
  rw [leVal_le2, BitVec.ofNat_toNat, BitVec.setWidth_eq]

theorem maskOperand_length {c : List Byte} (h : c.length ≠ 2) : maskOperand c = none := by
  match c, h with
  | [], _ => rfl
  | [_], _ => rfl
  | [_, _], h => simp at h
  | _ :: _ :: _ :: _, _ => rfl

theorem tagOfBytes_bytes (t : Tag) : Tag.ofBytes t.bytes = some t := rfl

theorem tagOfBytes_length {l : List Byte} {t : Tag} (h : Tag.ofBytes l = some t) : l.length = 8 := by
  unfold Tag.ofBytes at h
  split at h <;> simp_all

theorem allowOperand_length {c : List Byte} (h : c.length ≠ 8) (h' : c.length ≠ 12) :
    allowOperand c = none := by
  unfold allowOperand
  split
  · rename_i h8 hd
    have := tagOfBytes_length h8
    have := congrArg List.length hd
    simp at *; omega
  · rename_i h8 hd
    have := tagOfBytes_length h8
    have := congrArg List.length hd
    simp at *; omega
  · rfl

theorem allowOperand_tag (t : Tag) : allowOperand t.bytes = some { tag := t, expiry := none } := rfl

theorem allowOperand_expiry (t : Tag) (x : Word) :
    allowOperand (t.bytes ++ le 4 x.toNat) = some { tag := t, expiry := some x } := by
  show some ({ tag := t, expiry := some (BitVec.ofNat 32 (leVal (le 4 x.toNat))) } : AllowEntry) = _
  rw [leVal_le4, BitVec.ofNat_toNat, BitVec.setWidth_eq]

end Sys2Proof.Machine
end

