-- ==== Sys2Proof/Laws/Bytes.lean ====
section
/-! SUPPORT. What the bytes of a frame do to the fleet port, one after the other (R174, R175). -/

namespace Sys2Proof.Machine

/-- An escaped byte holds no flag (R174). -/
theorem escaped_noFlag (b : Byte) : ∀ x ∈ escaped b, x ≠ flagByte := by
  intro x hx
  unfold escaped at hx
  split at hx
  · rename_i h
    simp [flagByte, escapeByte, xonByte, xoffByte] at *
    rcases hx with rfl | rfl
    · decide
    · rcases h with rfl | rfl | rfl | rfl <;> decide
  · rename_i h
    simp at hx; subst hx
    intro he; exact h (Or.inl he)

/-- Bytes without a flag hold no start of a frame. -/
theorem dropWhile_noFlag {l : List Byte} (h : ∀ x ∈ l, x ≠ flagByte) :
    l.dropWhile (· ≠ flagByte) = [] := by
  induction l with
  | nil => rfl
  | cons b l ih =>
    rw [List.dropWhile_cons_of_pos (by simpa using h b (by simp))]
    exact ih fun x hx => h x (by simp [hx])

/-- A partial frame is no complete one (R174). -/
theorem headFrame_open {l : List Byte} (h : ∀ x ∈ l, x ≠ flagByte) : headFrame (flagByte :: l) = none := by
  have : ¬ flagByte ∈ l := fun hm => h _ hm rfl
  simp [headFrame, this]

/-- Bytes without a flag hold no frame. -/
theorem headFrame_noFlag {l : List Byte} (h : ∀ x ∈ l, x ≠ flagByte) : headFrame l = none := by
  simp only [headFrame, dropWhile_noFlag h]

/-- A byte that completes no frame is received, and nothing else happens. -/
theorem takeByte_none {s : State} {b : Byte} (h : headFrame (receiveByte b s.fport).fifo = none) :
    takeByte s b = s.onFport (receiveByte b) := takeFrames_none _ (by simpa using h)

/-- Bytes of a frame that is not yet over stay in the FIFO while it has room (R174). -/
theorem arrive_inside {l pre : List Byte} {s : State} (hl : ∀ x ∈ l, x ≠ flagByte)
    (hp : ∀ x ∈ pre, x ≠ flagByte) (hf : s.fport.fifo = flagByte :: pre) (hr : s.fport.rx = .inFrame)
    (hn : pre.length + 1 + l.length ≤ 64) :
    arrive l s = s.onFport fun p => { p with fifo := flagByte :: (pre ++ l), rx := .inFrame } := by
  induction l generalizing s pre with
  | nil => simp [arrive, State.onFport, hf.symm, hr.symm]
  | cons b l ih =>
    have hb := hl b (by simp)
    have hlt : s.fport.fifo.length < 64 := by simp [hf] at *; omega
    have h1 : receiveByte b s.fport = { s.fport with fifo := flagByte :: (pre ++ [b]), rx := .inFrame } := by
      simp only [receiveByte, hr, storeByte]
      rw [if_pos hlt]
      simp [hf]
    have hnf : ∀ x ∈ pre ++ [b], x ≠ flagByte := by
      intro x hx; rcases List.mem_append.1 hx with h | h
      · exact hp x h
      · simp at h; subst h; exact hb
    have h2 : takeByte s b = s.onFport fun p => { p with fifo := flagByte :: (pre ++ [b]), rx := .inFrame } := by
      rw [takeByte_none (by rw [h1]; exact headFrame_open hnf)]
      simp only [State.onFport, h1]
    show arrive l (takeByte s b) = _
    rw [h2, ih (s := s.onFport fun p => { p with fifo := flagByte :: (pre ++ [b]), rx := .inFrame })
      (pre := pre ++ [b]) (fun x hx => hl x (by simp [hx])) hnf rfl rfl (by simp at *; omega)]
    simp [State.onFport]

/-- In DISCARD every byte but a flag is dropped (R175). -/
theorem arrive_discard {l : List Byte} {s : State} (hl : ∀ x ∈ l, x ≠ flagByte)
    (hf : s.fport.fifo = []) (hr : s.fport.rx = .discard) : arrive l s = s := by
  induction l with
  | nil => rfl
  | cons b l ih =>
    have hb := hl b (by simp)
    have h1 : receiveByte b s.fport = s.fport := by simp [receiveByte, hr, hb]
    have h2 : takeByte s b = s := by
      rw [takeByte_none (by rw [h1, hf]; rfl)]
      simp only [State.onFport, h1]
    show arrive l (takeByte s b) = _
    rw [h2]; exact ih (fun x hx => hl x (by simp [hx]))

/-- A drop leaves nothing of a FIFO without a complete frame (log 23). -/
theorem completePart_open {l : List Byte} (h : ∀ x ∈ l, x ≠ flagByte) : completePart (flagByte :: l) = [] := by
  have : l.count flagByte = 0 := List.count_eq_zero.2 (fun hm => h _ hm rfl)
  simp [completePart, this]

/-- The 65th byte of a partial frame drops it, and the receiver discards (R175). -/
theorem takeByte_overflow {s : State} {pre : List Byte} (b : Byte) (hp : ∀ x ∈ pre, x ≠ flagByte)
    (hf : s.fport.fifo = flagByte :: pre) (hr : s.fport.rx = .inFrame) (hn : pre.length + 1 = 64) :
    takeByte s b = s.onFport fun p => { p with fifo := [], rx := .discard } := by
  have h1 : receiveByte b s.fport = { s.fport with fifo := [], rx := .discard } := by
    simp [receiveByte, hr, storeByte, hf, hn, dropPartial, completePart_open hp]
  rw [takeByte_none (by rw [h1]; rfl)]
  simp only [State.onFport, h1]

/-- A flag at a quiet port opens a frame, whatever the receive state (R174, R175). -/
theorem takeByte_flag {s : State} (ho : s.fport.outstanding = none)
    (hq : s.fport.fifo = [] ∨ s.fport.fifo = [flagByte]) :
    takeByte s flagByte = s.onFport fun p => { p with fifo := [flagByte], rx := .inFrame } := by
  have key : ∀ rx, s.fport.rx = rx →
      takeByte s flagByte = s.onFport fun p => { p with fifo := [flagByte], rx := .inFrame } := by
    intro rx hx
    rcases hq with hq | hq
    · have h1 : receiveByte flagByte s.fport = { s.fport with fifo := [flagByte], rx := .inFrame } := by
        cases rx <;> simp [receiveByte, hx, storeByte, hq]
      rw [takeByte_none (by rw [h1]; rfl)]
      simp only [State.onFport, h1]
    · have h1 : receiveByte flagByte s.fport = { s.fport with fifo := [flagByte, flagByte], rx := .inFrame } := by
        cases rx <;> simp [receiveByte, hx, storeByte, hq]
      unfold takeByte takeFleet
      simp only [State.onFport, h1]
      simp only [List.length_cons, List.length_nil, takeFrames, ho, Option.isSome_none, Bool.false_eq_true, if_false]
      simp [headFrame, frameBody, unescape, State.onFport]
  exact key _ rfl

/-- Bytes arrive in order. -/
theorem arrive_append (a b : List Byte) (s : State) : arrive (a ++ b) s = arrive b (arrive a s) :=
  List.foldl_append

/-- A frame of more than 62 bytes between its flags is never received: the FIFO overflows within it, and only a
closing flag that is not the overflowing byte itself opens a new frame (R174, R175). -/
theorem arrive_long {inner : List Byte} {s : State} (hi : ∀ x ∈ inner, x ≠ flagByte)
    (ho : s.fport.outstanding = none) (hq : s.fport.fifo = [] ∨ s.fport.fifo = [flagByte])
    (hl : 64 < inner.length + 2) :
    arrive (flagByte :: (inner ++ [flagByte])) s = s.onFport fun p =>
      { p with
        fifo := if inner.length + 2 = 65 then [] else [flagByte]
        rx := if inner.length + 2 = 65 then .discard else .inFrame } := by
  show arrive _ (takeByte s flagByte) = _
  rw [takeByte_flag ho hq]
  have hsplit : inner = inner.take 63 ++ inner.drop 63 := (List.take_append_drop 63 inner).symm
  have ht : (inner.take 63).length = 63 := by simp; omega
  have h1 := arrive_inside (l := inner.take 63) (pre := [])
    (s := s.onFport fun p => { p with fifo := [flagByte], rx := .inFrame })
    (fun x hx => hi x (List.mem_of_mem_take hx)) (by simp) rfl rfl (by simp [ht])
  have hnt : ∀ x ∈ inner.take 63, x ≠ flagByte := fun x hx => hi x (List.mem_of_mem_take hx)
  rw [hsplit, List.append_assoc, arrive_append, h1]
  cases hd : inner.drop 63 with
  | nil =>
    have hlen : inner.length = 63 := by have := congrArg List.length hd; simp at this; omega
    show takeByte _ flagByte = _
    rw [takeByte_overflow (pre := inner.take 63) flagByte hnt rfl rfl (by simp [ht])]
    simp [State.onFport, ht]
  | cons b rest =>
    have hb : ∀ x ∈ b :: rest, x ≠ flagByte := by rw [← hd]; exact fun x hx => hi x (List.mem_of_mem_drop hx)
    have hlen : inner.length = 64 + rest.length := by have := congrArg List.length hd; simp at this; omega
    rw [List.cons_append]
    show arrive (rest ++ [flagByte]) (takeByte _ b) = _
    rw [takeByte_overflow (pre := inner.take 63) b hnt rfl rfl (by simp [ht]), arrive_append,
      arrive_discard (l := rest) (fun x hx => hb x (by simp [hx])) rfl rfl]
    show takeByte _ flagByte = _
    rw [takeByte_flag (by exact ho) (Or.inl rfl)]
    have : ¬ (inner.length + 2 = 65) := by omega
    simp [State.onFport]
    omega

end Sys2Proof.Machine
end

