-- ==== Sys2Proof/Tests/Slice0.lean ====
section
/-! SUPPORT. Tests: ill-formed commands, one small step for each command with the value the manual gives, and a
witness for the hypotheses of every statement. -/

namespace Sys2Proof.Tests

set_option Elab.async false

open Sys2Proof Sys2Proof.Machine

/-! ### States the tests start from -/

/-- What a command answers, read through `f`. -/
def after {α : Type} (i : Instr) (s : State) (f : State → α) : Option α :=
  match exec i s with
  | .next t => some (f t)
  | .fault _ => none
  | .refused _ => none

/-- ACTIVE after a start-up self-test that passed, in IDLE, nothing measured. -/
def awake : State :=
  { State.reset with
    core :=
      { Core.reset with
        sup := { Supply.reset with power := .active, selfTest := some .passed }
        mon := { Monitor.reset with state := .off, kind := none, timer := none }
        alloc := { Alloc.reset with timer := some 100 }
        meter := { Meter.reset with timer := some 100 } } }

/-- The blocks of `awake`, changed. -/
def blocks (f : Core → Core) : State := awake.onCore f

/-- A part in SLEEP. -/
def sleeping : State := blocks fun c => c.onSup fun p => { p with power := .sleep }

/-- A part held in reset by its pin. -/
def held : State := blocks (takeReset .pin)

/-- The values of a window: 231.0 V and 2.0 A on each phase, V_bus 380.0 V. -/
def sample : MeasurementSet where
  l1 := { volts := 2310, amps := 20, power := 462 }
  l2 := { volts := 2310, amps := 20, power := 462 }
  l3 := { volts := 2310, amps := 20, power := 462 }
  pIn := 1386
  vIn := 2310
  vBus := 3800
  vBusValid := true
  iOut := 20
  iHeat := 5
  vSupMean := 120
  vSupMin := 118

/-- All zones VALID at 12.0 degrees. -/
def warm : Quad Zone := quadAll { validity := .valid, recovery := 0, value := some 120 }

/-- A front end with a cable of 32 A, a loaded pilot, the offer of a duty of 325 permille, warm zones. -/
def plugged (m : Mfe) : Mfe :=
  { m with
    published := some sample
    zones := warm
    tMin := some 120
    pilotLevel := some .loaded
    cable := some .a32
    unit := .locked
    run := [325, 325, 325]
    accepted := some 325
    offer := 220
    offerValid := true
    lastRising := some 0
    staticTimer := some 5 }

/-- A request for charge and heat with live pack, 40.0 A up to 400.0 V. -/
def wish : ChargeRequest :=
  { chargeEnable := true, heatEnable := true, hvLive := true, iReq := 400, vTarget := 4000 }

def tag1 : Tag := ⟨1, 2, 3, 4, 5, 6, 7, 8⟩
def tag2 : Tag := ⟨8, 7, 6, 5, 4, 3, 2, 1⟩

/-- A session in a state, with a contactor state and a request. -/
def inState (st : SessionState) (k : Contactor) : State :=
  (awake.onMfe plugged).onCore fun c =>
    { c with
      session :=
        { c.session with
          state := st, contactor := k, number := 7, request := some wish, requestTimer := some 1000 }
      auth := { c.auth with sessionTag := some tag1, state := .online, mode := some .online } }

/-- The auxiliary contact is settled active, as with a closed contactor. -/
def auxOn (s : State) : State := s.onMfe fun m => { m with aux := { m.aux with level := .high } }

/-- A running record with some lines. -/
def record (lines : List Line) : BillingRecord where
  number := 7
  continuation := 0
  tag := some tag1
  mode := some .online
  startTime := 0
  endTime := none
  endReason := none
  faultsSeen := 0
  timeStep := false
  timeInvalid := false
  scheduleChanged := false
  lateAccept := false
  folded := false
  lines
  totalMwh := 0
  totalCost := 0

def opened (lines : List Line) : OpenRecord := { record := record lines, closeRequested := false }

/-- CHARGING with the contactor closed, the heater ARMED and a record open. -/
def charging : State :=
  (auxOn (inState .charging .closed)).onCore fun c =>
    { c with
      heater := { c.heater with run := .armed, target := some 150 }
      meter := { c.meter with openRec := some (opened []) } }

/-- The same in PAUSED, with the pause timer and its cause. -/
def paused : State :=
  (auxOn (inState .paused .closed)).onCore fun c =>
    c.onSession fun s => { s with pauseCauses := 1, pauseTimer := some 600000 }

/-- STOPPING after a STOP request, in the current wait. -/
def stopping : State :=
  (auxOn (inState .stopping .closed)).onCore fun c =>
    c.onSession fun s => { s with endReason := some .vehicleStop, waitTimer := some 500 }

/-- STOPPING with the drive withdrawn and the contact still closed. -/
def opening : State :=
  (auxOn (inState .stopping .opening)).onCore fun c =>
    c.onSession fun s => { s with endReason := some .vehicleStop, confirmTimer := some 100 }

/-- AUTHORIZING with the contactor closing. -/
def closing : State :=
  (inState .authorizing .closing).onCore fun c =>
    c.onSession fun s => { s with confirmTimer := some 100, authGranted := true, selfTestPassed := true }

/-- ATTACHED with every start condition but the tag. -/
def attached : State :=
  (inState .attached .opened).onCore fun c =>
    { c with auth := Auth.reset, link := { c.link with state := .alive, aliveTimer := some 5000 } }

/-- AUTHORIZING, waiting for the post. -/
def waiting : State :=
  (inState .authorizing .opened).onCore fun c =>
    c.onAuth fun a =>
      { a with
        state := .waiting, mode := none
        request := some { number := 7, sendTime := 0, timer := some 10000 } }

/-- A RUNNING frame in its first slot: two entries, the second for zone 1, an allocation of 1,370 W. -/
def heating : State :=
  charging.onCore fun c =>
    c.onHeater fun h =>
      { h with
        run := .running, inhibited := quadAll false, slots := [.z0, .z1], frameS := 2
        position := some 0, started := 1, lastHanded := 1370, held := 1370
        energized := some .z0, slotTimer := some 50 }

/-- MONITORING in an open quiet window. -/
def listening : State :=
  charging.onCore fun c =>
    c.onMon fun m =>
      { m with state := .monitoring, kind := none, window := true, timer := some 1000 }

/-- The start-up self-test in STARTING, with its quiet window open. -/
def testing : State := State.reset.onCore fun c => c.onMon fun m => { m with window := true }

/-- A message in a transmit slot. -/
def message (next : Nat) (timer : Timer) : TxMessage :=
  { ident := 0x440, content := le 10 0, next, timer }

def slotOf (st : SlotState) (m : TxMessage) : TxSlot :=
  { state := st, message := some m, replaced := false, successor := none }

/-- The AUTH-REQUEST slot holds a message. -/
def sending (s : TxSlot) : State := charging.onCore fun c => c.onLink fun l => { l with authRequest := s }

def closedRecord (n : Half) : BillingRecord := { record [] with number := n, endTime := some 9 }

/-- The export queue holds records. -/
def queued (l : List BillingRecord) (h : Option BillingRecord) : State :=
  blocks fun c => { c with queue := { queue := l, held := h } }

/-- The allow-list holds entries. -/
def listed (l : List AllowEntry) : State := blocks fun c => c.onAuth fun a => { a with allowList := l }

/-- One window of equal samples. -/
def window (volt amp bus prox supply : Int) (zone : ZoneSample) (pilot : Int) : WindowSamples where
  l1 := { voltage := Vector.replicate 100 volt, current := Vector.replicate 100 amp }
  l2 := { voltage := Vector.replicate 100 volt, current := Vector.replicate 100 amp }
  l3 := { voltage := Vector.replicate 100 volt, current := Vector.replicate 100 amp }
  bus := Vector.replicate 100 bus
  outCurrent := Vector.replicate 100 20
  heatCurrent := Vector.replicate 100 5
  zones := quadAll (Vector.replicate 100 zone)
  pilot := Vector.replicate 100 { level := pilot, high := true }
  proximity := Vector.replicate 100 prox
  supply := Vector.replicate 100 supply

/-- A window of a plugged and powered van. -/
def fair : WindowSamples := window 2310 20 3800 1000 120 (.temp 120) 600

/-! ### Ill-formed commands -/

theorem test_wf_content : Instr.wellFormed (.poll 0 (List.replicate 65536 0)) = false := by
  decide +kernel
theorem test_wf_frame :
    Instr.wellFormed (.receiveSegment
      { extended := false, remote := false, ident := 64, data := List.replicate 9 0 }) = false := by
  decide
theorem test_wf_unknown : Instr.wellFormed (.unknownRequest .vehicle [0x01, 9, 0, 0]) = false := by
  decide
theorem test_wf_unknown_fleet :
    Instr.wellFormed (.unknownRequest .fleet [0x40, 9, 0, 0]) = false := by decide
theorem test_wf_wake : Instr.wellFormed (.wake false false false none) = false := by decide
theorem test_wf_accepts : Instr.wellFormed (.unknownRequest .fleet [0x40, 9, 1, 0]) = true := by
  decide
theorem test_decode_none : decodeTableWord 16 0x1234 = none := by decide
theorem test_fetch_none : State.reset.withFetchWord 16 0x1234 = State.reset := by decide +kernel

/-! ### Numbers of the manual -/

/-- R2: phases at 2,310, 2,306 and 2,315 dV give V_in 2,310 dV. -/
theorem test_vin : meanActive [2310, 2306, 2315] = 2310 := by decide
/-- R12: the ends of the offer, and the duty of section 1.9. -/
theorem test_offer : [99, 100, 447, 850, 851].map offerOf = [0, 40, 317, 640, 0] := by decide
/-- R9: the edges of the bands of the pilot level. -/
theorem test_pilot_bands :
    [1050, 1049, 750, 749, 450, 449].map pilotBand
      = [.detached, .attached, .attached, .loaded, .loaded, .pilotError] := by decide
/-- R72: the rows of the default temperature table that section 4.5 lists. -/
theorem test_table :
    [-400, -101, -100, 35, 149, 150, 500, 600].map (fun t => tableCurrent t 0 defaultTable)
      = [0, 0, 0, 150, 500, 800, 400, 0] := by decide
/-- Section 6.12: the cycles of the worked measurement at 3,800 dV. -/
theorem test_resistance :
    [(12600, -11800), (24900, -24900), (6100, -6000), (1540, -1460), (1300, -1227), (-50, 50)].map
        (fun x => resistance (halfAmplitude x.1 x.2))
      = [.kohm 447, .aboveRange, .kohm 150, .kohm 30, .kohm 25, .kohm 0] := by decide
theorem test_thresholds : threshold 500 3800 = 190 ∧ threshold 100 3800 = 38 := by decide
theorem test_classes :
    [RIso.kohm 447, .kohm 150, .kohm 30, .aboveRange].map (fun r => classify r 190 38)
      = [.good, .marginal, .low, .good] := by decide
/-- Section 7.12: the costs of the six lines. -/
theorem test_costs :
    [(2100500, 180), (611111, 180), (7654321, 180), (18400000, 250), (1250000, 250), (2777, 250)].map
        (fun x => lineCost { version := 7, band := 0, cls := .charge, price := x.2, mwh := x.1, cost := none })
      = [378, 110, 1378, 4600, 313, 1] := by decide
/-- R193: the check of the bytes 1 to 9 in ASCII under this generator is 0x906E. -/
theorem test_check : frameCheck [0x31, 0x32, 0x33, 0x34, 0x35, 0x36, 0x37, 0x38, 0x39] = 0x906E := by
  decide +kernel
/-- R174: the escape of the flag. -/
theorem test_escape : escaped 0x7E = [0x7D, 0x5E] := by decide

/-- The zones of section 5.11. -/
def coldZones : Quad Zone :=
  { z0 := { validity := .valid, recovery := 0, value := some (-20) }
    z1 := { validity := .valid, recovery := 0, value := some 10 }
    z2 := { validity := .valid, recovery := 0, value := some 30 }
    z3 := { validity := .valid, recovery := 0, value := some 45 } }

/-- Section 5.11: the demands, and the 43 entries of the frame. -/
theorem test_demands : coldZones.map (zoneDemand (some 50) 8 false)
    = { z0 := 56, z1 := 32, z2 := 16, z3 := 4 } := by decide
theorem test_frame :
    [ZoneIx.z0, .z1, .z2, .z3].map
        (buildSlots coldZones { z0 := 56, z1 := 32, z2 := 16, z3 := 4 } 43).count
      = [13, 13, 13, 4] := by decide +kernel

/-! ### Measurement front end -/

theorem test_window_close :
    after (.measurementWindowClose fair true) awake
        (fun t => (t.core.session.state, (t.env.mfe.published.map (·.vIn)), t.env.mfe.tMin))
      = some (.attached, some 2310, some 120) := by decide +kernel
/-- Section 1.10: a window with OPEN samples holds the value and posts SENSOR-FAULT. -/
theorem test_window_sensor :
    after (.measurementWindowClose (window 2310 20 3800 1000 120 .openBand 600) true) charging
        (fun t => (t.env.mfe.zones.z0, t.core.notices.sensorZones))
      = some ({ validity := .invalid, recovery := 0, value := some 120 }, 0x0F) := by decide +kernel
/-- Section 1.9: the third period locks the unit. -/
theorem test_rising :
    after (.pilotRisingEdge 1002999)
        (awake.onMfe fun m =>
          { m with
            unit := .acquiring, run := [450, 451], lastRising := some 1002001, fallCount := 1
            fallCapture := some 1002448 })
        (fun t => (t.env.mfe.unit, t.env.mfe.accepted, t.env.mfe.offer))
      = some (.locked, some 447, 317) := by decide +kernel
theorem test_falling :
    after (.pilotFallingEdge 1000450) (awake.onMfe plugged)
        (fun t => (t.env.mfe.fallCapture, t.env.mfe.fallCount))
      = some (some 1000450, 1) := by decide +kernel
theorem test_static :
    after .staticTimerExpiry charging (fun t => (t.core.session.state, t.core.session.pauseCauses))
      = some (.paused, 3) := by decide +kernel
theorem test_settled :
    after (.digitalInputSettledChange .contactorAux .high) closing
        (fun t => (t.core.session.state, t.core.session.contactor))
      = some (.charging, .closed) := by decide +kernel

/-! ### Session -/

/-- R27, R36: the drive is withdrawn, and the open confirmation looks for a contact that arrives late. -/
theorem test_close_timeout :
    after .closeConfirmTimeout closing
        (fun t => (t.core.session.state, t.core.session.endReason, t.core.session.contactor))
      = some (.stopping, some .contactorFail, .opening) := by decide +kernel
theorem test_open_timeout :
    after .openConfirmTimeout opening
        (fun t => (t.core.session.weldLatch, t.core.session.faultsSeen, t.core.session.endReason))
      = some (true, 0x1000, some .vehicleStop) := by decide +kernel
/-- R36: a contact that never arrived leaves no WELD. -/
theorem test_open_timeout_inactive :
    after .openConfirmTimeout (opening.onMfe fun m => { m with aux := { m.aux with level := .low } })
        (fun t => (t.core.session.weldLatch, t.core.session.faultsSeen, t.core.session.state))
      = some (false, 0, .closed) := by decide +kernel
theorem test_current_wait :
    after .currentWaitTimerExpiry stopping (fun t => (t.core.session.contactor, t.lines.contactorDrive))
      = some (.opening, false) := by decide +kernel
theorem test_pause_timer :
    after .pauseTimerExpiry paused (fun t => (t.core.session.state, t.core.session.endReason))
      = some (.stopping, some .pauseTimeout) := by decide +kernel
theorem test_request_expiry :
    after .requestExpiry charging (fun t => (t.core.session.state, t.core.session.pauseCauses))
      = some (.paused, 0x14) := by decide +kernel

/-! ### Vehicle port -/

/-- The answer of the request in PROCESSING: type, status and the first bytes of its content. -/
def answer (n : Nat) (t : State) : Option (Byte × Status × List Byte) :=
  match t.vport.slot with
  | .processing r _ => some (r.kind, r.status, r.content.take n)
  | .empty | .answered => none

theorem test_poll : after (.poll 43 []) awake (answer 1) = some (some (0x01, .ok, [])) := by
  decide +kernel
theorem test_poll_content : after (.poll 43 [0]) awake (answer 1) = some (some (0x01, .badRequest, [])) := by
  decide +kernel
/-- Section 12.4: state CHARGING, session 7, no start block. -/
theorem test_read_status :
    after (.readStatus 40 []) charging (answer 5) = some (some (0x02, .ok, [4, 7, 0, 0, 0])) := by
  decide +kernel
/-- Section 10.5: an I_req of 1,200 dA is clamped to 1,000 dA. -/
theorem test_charge_request :
    after (.chargeRequest 41 [0x07, 0xB0, 0x04, 0xA0, 0x0F]) awake
        (fun t => (answer 1 t, t.core.session.iReq))
      = some (some (0x03, .clamped, []), 1000) := by decide +kernel
theorem test_stop :
    after (.stop 1 []) charging (fun t => (t.core.session.state, t.core.session.endReason))
      = some (.stopping, some .vehicleStop) := by decide +kernel
theorem test_stop_idle : after (.stop 1 []) awake (answer 1) = some (some (0x04, .refusedState, [])) := by
  decide +kernel
theorem test_clear_weld :
    after (.clearWeld 1 [1]) (blocks fun c => c.onSession fun s => { s with weldLatch := true })
        (fun t => (answer 1 t, t.core.session.weldLatch))
      = some (some (0x05, .ok, []), false) := by decide +kernel
theorem test_driver_tag :
    after (.setDriverTag 42 tag1.bytes) attached
        (fun t => (t.core.session.state, t.core.session.number, t.core.auth.state))
      = some (.authorizing, 8, .waiting) := by decide +kernel
theorem test_clear_insulation :
    after (.clearInsulationFault 1 []) (blocks fun c => c.onMon fun m => { m with result := .fault })
        (fun t => t.core.mon.result)
      = some .noResult := by decide +kernel
theorem test_read_insulation :
    after (.readInsulation 1 []) listening (answer 5)
      = some (some (0x08, .ok, [2, 0xFF, 0, 0xFF, 0xFF])) := by decide +kernel
/-- R182: phases of 2 are taken as 3, and the answer is CLAMPED. -/
theorem test_write_config :
    after (.writeConfig 1 [0x04, 0, 0, 0, 2, 0]) awake (fun t => (answer 1 t, t.env.cfg.phases))
      = some (some (0x09, .clamped, []), 3) := by decide +kernel
theorem test_write_config_trigger :
    after (.writeConfig 1 [0, 0, 0x04, 0, 5, 0]) awake (answer 1)
      = some (some (0x09, .badRequest, [])) := by decide +kernel
/-- Section 12.3: authorization required, permit temperature 0, 3 phases. -/
theorem test_read_config :
    after (.readConfig 1 []) awake (answer 6) = some (some (0x0A, .ok, [1, 0, 0, 0, 3, 0])) := by
  decide +kernel
theorem test_write_table :
    after (.writeTempTable 1 (List.replicate 32 0)) awake (answer 1)
      = some (some (0x0B, .badTable, [])) := by decide +kernel
theorem test_sleep : after (.sleep 1 []) awake (answer 1) = some (some (0x0C, .ok, [])) := by
  decide +kernel
/-- R188: a plugged pilot keeps the part awake. -/
theorem test_sleep_pending :
    after (.sleep 1 []) (awake.onMfe plugged) (answer 1) = some (some (0x0C, .wakePending, [1])) := by
  decide +kernel
theorem test_reset_request :
    after (.reset 1 []) awake (fun t => (answer 1 t, t.core.sup.held))
      = some (some (0x0D, .ok, []), none) := by decide +kernel
/-- R186: COLD reset, ACTIVE, self-test passed. -/
theorem test_identify :
    after (.identify .vehicle 1 []) awake
        (fun t => match t.vport.slot with
          | .processing r _ => r.content.drop 4
          | .empty | .answered => [])
      = some [0, 1, 0] := by decide +kernel
theorem test_enable :
    after (.enableNotices .vehicle 1 [0xFF, 0xFF]) awake (fun t => t.core.notices.vehicleEnable)
      = some 0x22FF := by decide +kernel
theorem test_ack :
    after (.ackNotices .fleet 1 [0x00, 0x20])
        (blocks fun c => c.onNotices fun u => { u with fleetPending := 0x2001, fleetWake := 2 })
        (fun t => (t.core.notices.fleetPending, t.core.notices.fleetWake))
      = some (1, 0) := by decide +kernel
theorem test_unknown :
    after (.unknownRequest .vehicle [0x55]) awake (answer 1)
      = some (some (0x55, .badRequest, [])) := by decide +kernel
/-- R169: the bytes beyond a POLL's own length are ignored. -/
theorem test_unknown_beyond :
    after (.unknownRequest .vehicle [0x01, 43, 0, 0, 0x5A, 0x5A]) awake (answer 1)
      = some (some (0x01, .ok, [])) := by decide +kernel
/-- R169: past its 7 bytes the response to a POLL is followed by filler bytes of 0. -/
theorem test_filler :
    [0, 1, 2, 6, 7, 8].map (shiftedByte { VehiclePort.reset with
        shiftedOut := some { kind := 1, seq := 43, status := .busy, pending := 0xFFFF, content := [] } })
      = [1, 43, BitVec.ofNat 8 Status.busy.code, 0, 0, 0] := by decide
theorem test_busy :
    after .busyTransaction (awake.onVport fun v => { v with ready := false })
        (fun t => t.vport.shiftedOut.map (·.status))
      = some (some .busy) := by decide +kernel
theorem test_release :
    after .deferredActionRelease (awake.onVport fun v => { v with deferred := .reset })
        (fun t => (t.core.sup.held, t.vport.ready))
      = some (some .command, false) := by decide +kernel
theorem test_answered :
    after .requestAnswered
        (awake.onVport fun v =>
          { v with
            slot := .processing { kind := 1, seq := 2, status := .ok, pending := 0, content := [] } .none
            ready := false })
        (fun t => (t.vport.slot, t.vport.held.map (·.seq), t.vport.ready))
      = some (.answered, some 2, true) := by decide +kernel

/-! ### Fleet port -/

/-- A response on its way. -/
def responding (paused : Bool) (x : TxProgress) : State :=
  awake.onFport fun p =>
    { p with
      outstanding := some { kind := 0x40, seq := 0, content := [] }, paused := paused
      transmit := some x }

/-- Type and sequence number of the outstanding request. -/
def outstanding (t : State) : Option (Byte × Byte) := t.fport.outstanding.map fun r => (r.kind, r.seq)

theorem test_read_oldest :
    after (.readOldestRecord 9 []) awake outstanding = some (some (0x40, 9)) := by decide +kernel
/-- R175: 4 bytes of header, 57 of content and a check of 2 are more than 62 bytes between the flags. -/
theorem test_read_oldest_long :
    after (.readOldestRecord 9 (List.replicate 57 0)) awake (fun t => (outstanding t, t.fport.rx))
      = some (none, .discard) := by decide +kernel
/-- Section 8.9: the second record does not go while it is not the oldest; the first does. -/
theorem test_release_other :
    after (.releaseRecord 1 [57, 0, 0]) (queued [closedRecord 56, closedRecord 57] none)
        (fun t => t.core.queue.queue.length)
      = some 2 := by decide +kernel
theorem test_release_oldest :
    after (.releaseRecord 1 [56, 0, 0]) (queued [closedRecord 56, closedRecord 57] none)
        (fun t => t.core.queue.queue.map (·.number))
      = some [57] := by decide +kernel
theorem test_read_open :
    after (.readOpenRecord 3 []) charging (fun t => (outstanding t, t.fport.transmit.isSome))
      = some (some (0x42, 3), true) := by decide +kernel
theorem test_set_time :
    after (.setTime 1 [1, 0, 0, 0]) awake (fun t => (t.core.meter.time, t.core.meter.source))
      = some (1, .fleet) := by decide +kernel
theorem test_set_time_owned :
    after (.setTime 1 [1, 0, 0, 0]) charging (fun t => t.core.meter.time) = some 0 := by
  decide +kernel
theorem test_spend_cap :
    after (.setSpendCap 1 [0x41, 0x42, 0x0F, 0]) awake (fun t => t.core.meter.spendCap)
      = some 1000000 := by decide +kernel
theorem test_allow_add :
    after (.allowAdd 1 (tag2.bytes ++ [5, 0, 0, 0])) (listed [{ tag := tag1, expiry := none }])
        (fun t => t.core.auth.allowList)
      = some [{ tag := tag1, expiry := none }, { tag := tag2, expiry := some 5 }] := by decide +kernel
theorem test_allow_remove :
    after (.allowRemove 1 tag1.bytes)
        (listed [{ tag := tag1, expiry := none }, { tag := tag2, expiry := none }])
        (fun t => t.core.auth.allowList)
      = some [{ tag := tag2, expiry := none }] := by decide +kernel
theorem test_allow_read :
    after (.allowRead 4 []) awake outstanding = some (some (0x47, 4)) := by decide +kernel
theorem test_xon :
    after .xon (awake.onFport fun p => { p with paused := true }) (fun t => t.fport.paused)
      = some false := by decide +kernel
/-- R173: a stopped transmitter resumes with its next byte. -/
theorem test_xon_resumes :
    after .xon (responding true { bytes := [0x7E, 1, 2], next := 1, sending := false, forming := none })
        (fun t => t.fport.transmit)
      = some (some { bytes := [0x7E, 1, 2], next := 2, sending := true, forming := none }) := by decide +kernel
theorem test_xoff : after .xoff awake (fun t => t.fport.paused) = some true := by decide +kernel
theorem test_framing :
    after .framingError (awake.onFport fun p => { p with fifo := [0x7E, 1], rx := .inFrame })
        (fun t => (t.fport.fifo, t.fport.rx))
      = some ([], .discard) := by decide +kernel
theorem test_byte :
    after (.fleetByteReceived 0x7E) awake (fun t => (t.fport.fifo, t.fport.rx))
      = some ([0x7E], .inFrame) := by decide +kernel
theorem test_byte_hunt :
    after (.fleetByteReceived 0x40) awake (fun t => (t.fport.fifo, t.fport.rx))
      = some ([], .hunt) := by decide +kernel
theorem test_response_sent :
    after .fleetResponseSent
        (awake.onFport fun p => { p with outstanding := some { kind := 0x40, seq := 0, content := [] } })
        outstanding
      = some none := by decide +kernel
/-- R173: in PAUSED no further byte begins, so the response does not end. -/
theorem test_response_paused :
    after .fleetResponseSent (responding true { bytes := [0x7E, 1, 0x7E], next := 2, sending := false, forming := none })
        outstanding
      = some (some (0x40, 0)) := by decide +kernel

/-! ### Allocator, heater, monitor, meter -/

/-- The inputs of section 4.9. -/
def steady : State :=
  ((charging.onMfe fun m => { m with offer := 320, accepted := some 450, tMin := some 35 }).onCore fun c =>
    { c with
      session := { c.session with request := some { wish with iReq := 300, vTarget := 4100 } }
      heater := { c.heater with demand := 64 }
      mon := { c.mon with result := .ok }
      alloc := { c.alloc with record := { c.alloc.record with pChgCmd := 5700, rampValid := true } }
      link := { c.link with postLimit := some 1100, postValid := true, heard := true }
      meter := { c.meter with spendCap := 2500, schedule := .posted 7 [{ start := 0, price := 250 }] } })

/-- Section 4.9: limits and demands. -/
theorem test_allocation :
    after .allocationTimerExpiry steady
        (fun t => (t.core.alloc.record.pPilot, t.core.alloc.record.pSpend, t.core.alloc.record.binding,
          t.core.alloc.record.pOut, t.core.alloc.record.command, t.lines.commandDuty))
      = some (22176, some 10000, .spend, 9400, 7700, 350) := by decide +kernel
/-- Section 4.10: an increase while the quiet window is open is held. -/
theorem test_allocation_window :
    after .allocationTimerExpiry
        (steady.onCore fun c =>
          { c with
            alloc := { c.alloc with record := { c.alloc.record with pChgCmd := 2000 } }
            mon := { c.mon with window := true } })
        (fun t => (t.core.alloc.record.pChgCmd, t.core.alloc.record.pendingIncrease))
      = some (2000, some 3000) := by decide +kernel
theorem test_slot :
    after .slotTimerExpiry heating (fun t => (t.core.heater.position, t.core.heater.energized))
      = some (some 1, some .z1) := by decide +kernel
theorem test_slot_window :
    after .slotTimerExpiry (heating.onCore fun c => c.onMon fun m => { m with window := true })
        (fun t => (t.core.heater.position, t.core.heater.deferred))
      = some (some 0, true) := by decide +kernel
theorem test_quiet_open :
    after .quietWindowOpen
        (listening.onCore fun c => c.onMon fun m => { m with window := false, mark := true })
        (fun t => (t.core.mon.window, t.core.mon.mark))
      = some (true, false) := by decide +kernel
/-- Section 6.12: the cycle of 12,600 and -11,800 mV. -/
theorem test_half_period :
    after (.halfPeriodTimerExpiry [-11800])
        (listening.onCore fun c => c.onMon fun m => { m with polarity := .negative, vPos := some 12600 })
        (fun t => (t.core.mon.last.map (·.rIso), t.core.mon.result, t.core.mon.good))
      = some (some (.kohm 447), .ok, 1) := by decide +kernel
/-- R109: a marked half-period is repeated. -/
theorem test_half_period_marked :
    after (.halfPeriodTimerExpiry [12600])
        (listening.onCore fun c => c.onMon fun m => { m with mark := true })
        (fun t => (t.core.mon.polarity, t.core.mon.discards))
      = some (.positive, 1) := by decide +kernel
/-- Section 7.10: the interval of the worked expiry. -/
theorem test_metering :
    after .meteringTimerExpiry
        ((charging.onMfe fun m =>
            { m with published := some { sample with pIn := 10000, iHeat := 52, iOut := 247 } }))
        (fun t => (t.core.meter.openRec.map fun o => o.record.lines.map fun l => l.mwh,
          t.core.meter.remCharge, t.core.meter.remHeat, t.core.meter.remOverhead))
      = some (some [205, 54, 17], 3000, 3200, 200) := by decide +kernel
theorem test_tick :
    after .timeCounterTick (blocks fun c => c.onMeter fun m => { m with time := 0xFFFFFFFF })
        (fun t => t.core.meter.time)
      = some 0 := by decide +kernel

/-! ### Charge link -/

theorem test_receive :
    after (.receiveSegment
        { extended := false, remote := false, ident := 0x7F, data := [0x00, 0x4C, 0x04] }) awake
        (fun t => (t.core.link.postLimit, t.core.link.state))
      = some (some 1100, .alive) := by decide +kernel
theorem test_receive_remote :
    after (.receiveSegment
        { extended := false, remote := true, ident := 0x7F, data := [0x00, 0x4C, 0x04] }) awake
        (fun t => t.core.link.state)
      = some .silent := by decide +kernel
theorem test_power_limit :
    after (.powerLimit 3000) awake (fun t => (t.core.link.postLimit, t.core.link.heard))
      = some (some 2200, true) := by decide +kernel
theorem test_verdict :
    after (.authVerdict 7 tag1 1) waiting (fun t => (t.core.auth.state, t.core.session.authGranted))
      = some (.online, true) := by decide +kernel
theorem test_verdict_other :
    after (.authVerdict 8 tag1 1) waiting (fun t => t.core.auth.state) = some .waiting := by
  decide +kernel
theorem test_auth_timer :
    after .authTimerExpiry waiting (fun t => (t.core.session.state, t.core.session.endReason))
      = some (.closed, some .authRejected) := by decide +kernel
/-- Section 7.11: the first band of a schedule of three. -/
theorem test_tariff :
    after (.tariff 7 0 3 0 180) awake (fun t => t.core.meter.staging)
      = some (some { version := 7, bands := [some { start := 0, price := 180 }, none, none] }) := by
  decide +kernel
theorem test_tariff_late :
    after (.tariff 9 0 2 30 150)
        (blocks fun c => c.onMeter fun m =>
          { m with staging := some { version := 9, bands := [none, some { start := 600, price := 300 }] } })
        (fun t => (t.core.meter.staging, t.core.notices.fleetPending))
      = some (none, 0x0800) := by decide +kernel
theorem test_time :
    after (.time 100 (some 0xFFC4)) awake (fun t => (t.core.meter.time, t.core.meter.offset))
      = some (100, -60) := by decide +kernel
theorem test_stop_message :
    after .stopMessage charging (fun t => t.core.session.endReason) = some (some .postStop) := by
  decide +kernel
theorem test_alive_timer :
    after .linkAliveTimerExpiry attached (fun t => (t.core.link.state, t.core.notices.fleetPending))
      = some (.lost, 0x20) := by decide +kernel
theorem test_post_limit_timer :
    after .postLimitTimerExpiry
        (blocks fun c => c.onLink fun l =>
          { l with postLimit := some 1100, postValid := true, postTimer := some 5000 })
        (fun t => (t.core.link.postLimit, t.core.link.postValid))
      = some (some 1100, false) := by decide +kernel
theorem test_status_timer :
    after .statusTimerExpiry
        (charging.onCore fun c => c.onLink fun l => { l with statusTimer := some 1000 })
        (fun t => (t.core.link.status.state, t.core.link.status.message.map (·.ident)))
      = some (.waiting, some 0x400) := by decide +kernel
theorem test_attempt_start :
    after .transmitAttemptStart (sending (slotOf .waiting (message 0 (some 500))))
        (fun t => (t.core.link.authRequest.state, t.core.link.onBus.map (·.data.length)))
      = some (.sending, some 8) := by decide +kernel
theorem test_attempt_end :
    after (.transmitAttemptEnd .acknowledged) (sending (slotOf .sending (message 1 (some 500))))
        (fun t => t.core.link.authRequest)
      = some TxSlot.empty := by decide +kernel
theorem test_attempt_lost :
    after (.transmitAttemptEnd .arbitrationLost) (sending (slotOf .sending (message 0 (some 500))))
        (fun t => t.core.link.authRequest)
      = some (slotOf .waiting (message 0 (some 500))) := by decide +kernel
theorem test_message_timer :
    after (.messageTimerExpiry .authRequest .current) (sending (slotOf .waiting (message 1 (some 500))))
        (fun t => (t.core.link.authRequest, t.core.notices.txKinds))
      = some (TxSlot.empty, 2) := by decide +kernel

/-! ### Resets, sleep and wake -/

theorem test_reset_pin :
    after .resetPin charging (fun t => (t.core.sup.held, t.lines.contactorDrive))
      = some (some .pin, false) := by decide +kernel
theorem test_supply_reset :
    after .supplyHeldReset held (fun t => t.core.sup.held) = some (some .supply) := by decide +kernel
/-- R190: a stop sequence that the supply cuts has SUPPLY-LOSS among its faults-seen. -/
theorem test_supply_stopping :
    after .supplyHeldReset stopping
        (fun t => (t.core.session.faultsSeen, t.core.session.endReason, t.core.sup.held))
      = some (bit 16 StopCause.supplyLoss.code, some .vehicleStop, some .supply) := by decide +kernel
theorem test_retention :
    after .retentionSupplyFall awake (fun t => t.core.sup.retentionValid) = some false := by
  decide +kernel
/-- R143, R184: a WARM reset closes the record it finds open, and keeps the session number. -/
theorem test_reset_exit :
    after .resetExit (charging.onCore (takeReset .pin))
        (fun t => (t.core.sup.kind, t.core.session.number, t.core.queue.queue.map (·.endReason)))
      = some (.warm, 7, [some .reset]) := by decide +kernel
theorem test_wake :
    after (.wake true false true none) sleeping (fun t => (t.core.sup.power, t.core.notices.fleetWake))
      = some (.active, 0x09) := by decide +kernel
theorem test_wake_awake :
    after (.wake true false true none) awake (fun t => t.core.notices.fleetWake) = some 0 := by
  decide +kernel
/-- One step takes the command at the front and leaves the rest. -/
theorem test_step :
    (match step (awake.withPending [.xoff, .xon]) with
      | .next t => some (t.fport.paused, t.pending)
      | .fault _ | .refused _ => none) = some (true, [.xon]) := by decide +kernel
/-- R173: with no command waiting the next byte of the response begins, in PAUSED none does. -/
theorem test_step_transmits :
    [false, true].map (fun pz =>
        match step (responding pz { bytes := [0x7E, 1, 2], next := 1, sending := true, forming := none }) with
        | .next t => t.fport.transmit.map fun x => (x.next, x.sending)
        | .fault _ | .refused _ => none)
      = [some (2, true), some (1, false)] := by decide +kernel

/-- An ACK-NOTICES of the vehicle controller in PROCESSING, WELD posted since. -/
def ackWorking : State :=
  (awake.onVport fun v =>
    { v with
      slot := .processing { kind := 0x72, seq := 2, status := .ok, pending := 0, content := [] } .none
      ready := false }).onCore (post .weld)
/-- R180: the answer already shows the notice posted at its moment. -/
theorem test_ack_moment :
    after .requestAnswered ackWorking (fun t => (t.vport.held.map (·.pending)))
      = some (some (bit 16 Notice.weld.code)) := by decide +kernel

/-- The answer to an ACK-NOTICES of the fleet master, its opening flag on the line, WELD posted since. -/
def ackSending : State :=
  (responding false
    { bytes := frameOf (responseBytes { kind := 0x72, seq := 2, status := .ok, pending := 0, content := [0] })
      next := 1, sending := true
      forming := some { kind := 0x72, seq := 2, status := .ok, pending := 0, content := [0] } }).onCore (post .weld)
/-- R180 on the fleet port: WELD is bit 3 of the pending set. -/
theorem test_ack_moment_fleet :
    (match step ackSending with
      | .next t => t.fport.transmit.map fun x => (x.bytes.take 6, x.next)
      | .fault _ | .refused _ => none)
      = some ([0x7E, 0x72, 2, 0, 8, 0], 2) := by decide +kernel

/-- R184: the kind of a COMMAND reset, code 2, is the byte behind the 208 of the status record. -/
theorem test_read_status_kind :
    after (.readStatus 40 []) (charging.onCore fun c => c.onSup fun p => { p with kind := .command })
        (fun t => match t.vport.slot with
          | .processing r _ => some (r.content.length, r.content[208]?)
          | .empty | .answered => none)
      = some (some (209, some 2)) := by decide +kernel

/-! ### Witnesses: states and operands that meet the hypotheses of the statements, clause by clause -/

theorem takes_awake : VehicleTakes awake := ⟨rfl, rfl, rfl, rfl⟩
theorem takes_charging : VehicleTakes charging := ⟨rfl, rfl, rfl, rfl⟩
theorem takes_paused : VehicleTakes paused := ⟨rfl, rfl, rfl, rfl⟩
theorem takes_attached : VehicleTakes attached := ⟨rfl, rfl, rfl, rfl⟩
theorem takes_fleet : FleetTakes awake := ⟨rfl, rfl, rfl, .inl rfl⟩
theorem takes_fleet_charging : FleetTakes charging := ⟨rfl, rfl, rfl, .inl rfl⟩

theorem witness_StepTakesTheFrontCommand :
    (State.reset.pending = [] ∧ State.reset.fport.transmit = none)
      ∧ ([(false, 3, true), (true, 3, false), (true, 2, true), (false, 2, true)].all fun x =>
          let s := responding x.1 { bytes := [0x7E, 1, 2], next := x.2.1, sending := x.2.2, forming := none }
          s.pending.isEmpty && s.core.up && s.fport.transmit.isSome && s.fport.paused == x.1) = true := by
  decide +kernel

theorem witness_StepTakesTheFrontCommand_forming :
    ackSending.pending = [] ∧ ackSending.core.up = true ∧ ackSending.fport.transmit.isSome = true
      ∧ ackSending.fport.paused = false := by decide +kernel

theorem witness_CommandsLeaveTheLinesAsTheStateGivesThem :
    after .xon awake (fun t => t.core.session.state.powered) = some false
      ∧ after .xon (charging.onCore fun c => c.onMon fun m => { m with result := .fault })
          (fun t => t.core.mon.result) = some .fault
      ∧ after .resetPin awake (fun t => t.core.sup.held.isSome) = some true := by decide +kernel

theorem witness_BlockEventsKeepThePorts : Instr.blockEvent .authTimerExpiry = true := rfl

/-- A window that shows detachment, and one of the zone temperature and output current given. -/
def unplugged : WindowSamples := window 2310 20 3800 1000 120 (.temp 120) 1100
def at_ (zone : ZoneSample) (amps : Int) : WindowSamples :=
  { window 2310 20 3800 1000 120 zone 600 with outCurrent := Vector.replicate 100 amps }

/-- The hypotheses on a window, as a Bool. -/
def brings (w : WindowSamples) (s : State) : Bool :=
  s.core.sup.held.isNone && s.core.sup.power == .active && s.env.mfe.windowTimer.isSome
    && (s.windowMfe w).aux.active == s.env.mfe.aux.active && !windowEvent (s.windowMfe w).fault

theorem BringsTheSet_of {w : WindowSamples} {s : State} (h : brings w s = true) : BringsTheSet w s := by
  simpa [brings, BringsTheSet, and_assoc] using h

theorem witness_WindowClosePublishesTheSet :
    (awake.core.up = true ∧ awake.env.mfe.windowTimer.isSome = true)
      ∧ (brings fair awake = true ∧ 90 ≤ (measure fair).vSupMin ∧ awake.core.session.state = .idle
        ∧ awake.core.session.request = none ∧ (awake.windowMfe fair).pilotPresent = true
        ∧ (awake.windowMfe fair).cableRated = true)
      ∧ (brings unplugged attached = true ∧ attached.core.session.state = .attached
        ∧ (attached.windowMfe unplugged).detached = true) := by decide +kernel

theorem witness_WindowClosePublishesTheSet_paused :
    charging.core.session.state.powered = true ∧ charging.core.session.pauseCauses = 0
      ∧ (let s := charging.onMfe fun m => { m with offer := 0 }
        brings fair s = true ∧ (s.windowMfe fair).detached = false ∧ offerZero (s.windowMfe fair) = true)
      ∧ (let w := window 2310 20 6000 1000 120 (.temp 120) 600
        brings w charging = true ∧ packVoltage (charging.windowMfe w) charging.core.session = true)
      ∧ (let w := window 2310 20 3800 1000 120 .openBand 600
        brings w charging = true
          ∧ sensorsInvalid (charging.windowMfe w) charging.core.session = true) := by decide +kernel

/-- The permit temperature and the fall back 20 dC below it, at their ends. -/
theorem witness_WindowClosePublishesTheSet_moves :
    (brings (at_ (.temp 0) 20) charging && !(charging.windowMfe (at_ (.temp 0) 20)).detached
        && !offerZero (charging.windowMfe (at_ (.temp 0) 20))
        && !packVoltage (charging.windowMfe (at_ (.temp 0) 20)) charging.core.session
        && !sensorsInvalid (charging.windowMfe (at_ (.temp 0) 20)) charging.core.session) = true
      ∧ ([-20, -21].map fun x => after (.measurementWindowClose (at_ (.temp x) 20) true) charging
          fun t => t.core.session.state) = [some .charging, some .preheat]
      ∧ ([0, -1].map fun x => after (.measurementWindowClose (at_ (.temp x) 20) true)
          (inState .preheat .closed) fun t => t.core.session.state) = [some .charging, some .preheat] := by
  decide +kernel

/-- CLOSED, with or without a pending close and a release, its last request for nothing. -/
def closedWith (waits release : Bool) : State :=
  (inState .closed .opened).onCore fun c => c.onSession fun x =>
    { x with
      endReason := some .vehicleStop, closePending := waits, releaseSeen := release
      request := some { wish with chargeEnable := false, heatEnable := false } }

theorem witness_WindowClosePublishesTheSet_closed :
    ([fair, unplugged].all fun w => [(true, true), (false, true), (false, false)].all fun x =>
        let s := closedWith x.1 x.2
        brings w s && decide (90 ≤ (measure w).vSupMin) && s.core.session.state == .closed
          && s.core.session.closePending == x.1 && s.core.session.releaseSeen == x.2
          && !s.core.session.chargeEnable && !s.core.session.heatEnable
          && (s.windowMfe w).detached == decide (w = unplugged)) = true
      ∧ [fair, unplugged].map (fun w => after (.measurementWindowClose w true) (closedWith false true)
          fun t => t.core.session.state) = [some .attached, some .idle] := by decide +kernel

theorem witness_MeasuredValuesFollowTheSamples :
    (5336100 : Int) = (fair.l1.voltage.toList.map fun v => v * v).sum / 100
      ∧ fair.l1.voltage.toList.length = 100
      ∧ [2310, 2310, 2310] = [(phaseValues fair.l1).volts, (phaseValues fair.l2).volts,
          (phaseValues fair.l3).volts].filter (fun v => decide (1000 ≤ v))
      ∧ (∃ v ∈ (window 0 0 6000 0 0 .openBand 0).bus.toList, 6000 ≤ v)
      ∧ (∀ v ∈ (window 0 0 5999 0 0 .openBand 0).bus.toList, v < 6000) := by decide +kernel

/-- Bands at their edges: 449 is a pilot error, 450 loaded, 750 attached; a cable that falls and one that rises. -/
theorem witness_MeasuredValuesFollowTheSamples_bands :
    (let m := plugged awake.env.mfe;
      m.pilotLevel = some .loaded ∧ m.pilotChange = none ∧ m.cable = some .a32 ∧ m.cableChange = none
        ∧ ([449, 750, 1050].map fun v => pilotBand (pilotHigh (m.unit == .static)
            (window 0 0 0 0 0 .openBand v).pilot.toList)) = [.pilotError, .attached, .detached])
      ∧ (∃ low high : Int, (cableBand (mean (Vector.replicate 100 low).toList)).ampere
            ≤ (CableCode.a32).ampere
          ∧ (CableCode.a32).ampere < (cableBand (mean (Vector.replicate 100 high).toList)).ampere) := by
  refine ⟨by decide +kernel, 1600, 899, by decide +kernel⟩

theorem witness_ZoneRecoversInTenWindows :
    (∃ z : Zone, z.validity = .invalid ∧ z.recovery = 0)
      ∧ (List.replicate 10 (Vector.replicate 100 (ZoneSample.temp 850))).length ≤ 10
      ∧ (∀ w ∈ List.replicate 10 (Vector.replicate 100 (ZoneSample.temp 850)), ∀ x ∈ w.toList,
          ∃ t : Int, x = .temp t ∧ -400 ≤ t ∧ t ≤ 850)
      ∧ ∃ x ∈ (Vector.replicate 100 (ZoneSample.temp 851)).toList,
          ∀ t : Int, x = .temp t → t < -400 ∨ 850 < t := by
  refine ⟨⟨{ Zone.fresh with validity := .invalid }, rfl, rfl⟩, by decide, fun w hw x hx => ?_,
    .temp 851, by decide +kernel, fun t h => by cases h; omega⟩
  rw [List.eq_of_mem_replicate hw, Vector.toList_replicate] at hx
  exact ⟨850, List.eq_of_mem_replicate hx, by decide, by decide⟩

theorem witness_PilotEdgesAreCaptured :
    charging.core.up = true ∧ charging.env.mfe.lastRising.isSome = true
      ∧ awake.core.up = true ∧ awake.env.mfe.unit = .static := by decide

/-- A run of 520 and 525 permille with a period in progress: 530 is the last duty that agrees. -/
def acquiring : State :=
  awake.onMfe fun m =>
    { m with
      unit := .acquiring, run := [520, 525], lastRising := some 0, fallCount := 1
      fallCapture := some 583, staticTimer := some 5 }

/-- LOCKED at 325 permille, with a period of 1,000 ticks in progress whose falling edge is at `fall`. -/
def lockedAt (fall : Word) (candidate : Option Nat) : State :=
  awake.onMfe fun m =>
    { plugged m with fallCount := 1, fallCapture := some fall, candidate }

/-- The duties 335 and 336 at the accepted 325, and 346 and 347 at the candidate 336. -/
theorem witness_ThirdAgreeingDutyLocks_locked :
    ([335, 336].all fun fall =>
        let s := lockedAt fall none
        s.core.up && s.env.mfe.unit == .locked && s.env.mfe.accepted == some 325
          && s.env.mfe.lastRising == some (0 : Word) && s.env.mfe.candidate == none) = true
      ∧ 900 ≤ ((1000 : Word) - 0).toNat ∧ ((1000 : Word) - 0).toNat ≤ 1100
      ∧ 335 = ((335 : Word) - 0).toNat * 1000 / ((1000 : Word) - 0).toNat
      ∧ 325 ≤ 335 + 10 ∧ 335 ≤ 325 + 10 ∧ 325 + 10 < 336
      ∧ (lockedAt 346 (some 336)).env.mfe.candidate = some 336 ∧ 336 ≤ 346 + 10 ∧ 346 ≤ 336 + 10
      ∧ 336 + 10 < 347
      ∧ [335, 336, 346, 347].map (fun fall => after (.pilotRisingEdge 1000) (lockedAt fall (some 336))
          fun t => (t.env.mfe.accepted, t.env.mfe.candidate))
        = [some (some 325, none), some (some 336, none), some (some 346, none),
          some (some 325, some 347)] := by decide +kernel

theorem witness_ThirdAgreeingDutyLocks :
    acquiring.core.up = true ∧ acquiring.env.mfe.unit = .acquiring
      ∧ acquiring.env.mfe.lastRising = some (0 : Word) ∧ acquiring.env.mfe.run = [520, 525]
      ∧ 900 ≤ ((1100 : Word) - 0).toNat ∧ ((1100 : Word) - 0).toNat ≤ 1100
      ∧ acquiring.env.mfe.fallCount = 1 ∧ acquiring.env.mfe.fallCapture = some (583 : Word)
      ∧ 530 = ((583 : Word) - 0).toNat * 1000 / ((1100 : Word) - 0).toNat
      ∧ 520 ≤ 525 + 10 ∧ 525 ≤ 520 + 10 ∧ 525 ≤ 530 + 10 ∧ 530 ≤ 525 + 10 ∧ 520 ≤ 530 + 10
      ∧ 530 ≤ 520 + 10 := by decide

theorem witness_StaticExpiryWithdrawsTheOffer :
    charging.core.up = true ∧ charging.env.mfe.staticTimer.isSome = true
      ∧ 0 < charging.env.mfe.offer ∧ charging.core.session.state.powered = true
      ∧ charging.env.mfe.unit = .locked ∧ charging.env.mfe.lastRising = some (0 : Word)
      ∧ ¬ (900 ≤ ((899 : Word) - 0).toNat ∧ ((899 : Word) - 0).toNat ≤ 1100
        ∧ charging.env.mfe.fallCount = 1)
      ∧ charging.env.mfe.invalidCount + 1 < 3
      ∧ (charging.onMfe fun m => { m with invalidCount := 2 }).env.mfe.invalidCount = 2 := by decide

theorem witness_InputsReachTheSession :
    (closing.core.up = true ∧ closing.core.session.contactor = .closing
        ∧ closing.env.mfe.aux.active = false ∧ closing.env.mfe.aux.level ≠ settledOf .high
        ∧ settledOf .high = closing.env.cfg.auxTrigger.activeLevel)
      ∧ awake.core.up = true ∧ awake.env.mfe.fault.level ≠ settledOf .high
      ∧ changeEvent awake.env.cfg.faultTrigger awake.env.mfe.fault.level (settledOf .high) = true := by
  decide

theorem witness_InputsReachTheSession_drop :
    ([charging, stopping].all fun s => s.core.up && s.core.session.contactor == .closed
        && s.env.mfe.aux.active && s.env.mfe.aux.level != settledOf .low
        && settledOf .low != s.env.cfg.auxTrigger.activeLevel) = true
      ∧ charging.core.session.state = .charging ∧ stopping.core.session.state = .stopping
      ∧ stopping.core.session.endReason = some .vehicleStop ∧ StopCause.vehicleStop ≠ .contactorFail := by
  decide

/-- A line of the open record. -/
def someLine : Line :=
  { version := 0, band := 0, cls := .charge, price := 180, mwh := 2100500, cost := none }

/-- `opening` with a running record of one line, and with the input settled at a level. -/
def openingAt (level : Bool) : State :=
  (opening.onMfe fun m => { m with aux := { m.aux with level := settledOf (if level then .high else .low) } }
    ).onCore fun c => c.onMeter fun m => { m with openRec := some (opened [someLine]) }

theorem witness_ContactorTimeoutsEndTheSession :
    (closing.core.up = true ∧ closing.core.session.confirmTimer.isSome = true
        ∧ closing.core.session.state = .authorizing ∧ closing.core.session.contactor = .closing)
      ∧ ([true, false].all fun level =>
        let s := openingAt level
        s.core.up && s.core.session.confirmTimer.isSome && s.core.session.state == .stopping
          && s.core.session.contactor == .opening && s.env.mfe.aux.active == level
          && !s.env.mfe.detached && !s.core.session.releaseSeen
          && s.core.session.endReason == some .vehicleStop && s.core.queue.room
          && s.core.meter.openRec == some (opened [someLine])) = true
      ∧ StopCause.vehicleStop ≠ .weld ∧ (opened [someLine]).closeRequested = false
      ∧ (opened [someLine]).record.lines ≠ []
      ∧ (openingAt false).env.mfe.aux.level ≠ settledOf .high
      ∧ (openingAt true).env.mfe.aux.level ≠ settledOf .low
      ∧ settledOf .low ≠ (openingAt true).env.cfg.auxTrigger.activeLevel := by decide +kernel

theorem witness_CurrentWaitEndsInOpening :
    (stopping.core.up = true ∧ stopping.core.session.waitTimer.isSome = true
        ∧ stopping.core.session.state = .stopping ∧ stopping.env.mfe.aux.active = true
        ∧ stopping.core.session.contactor = .closed)
      ∧ ([9, 10].all fun amps => brings (at_ (.temp 120) amps) stopping
        && !(stopping.windowMfe (at_ (.temp 120) amps)).detached
        && decide (90 ≤ (measure (at_ (.temp 120) amps)).vSupMin)) = true
      ∧ ([9, 10].map fun amps => (measure (at_ (.temp 120) amps)).iOut) = [9, 10]
      ∧ stopping.core.session.endReason = some .vehicleStop ∧ StopCause.vehicleStop ≠ .supplyLoss
      ∧ stopping.core.sup.low = false
      ∧ brings (window 2310 20 3800 1000 89 (.temp 120) 600) stopping = true
      ∧ (measure (window 2310 20 3800 1000 89 (.temp 120) 600)).vSupMin = 89 := by decide +kernel

/-- The current wait of `stopping` after its contact has dropped. -/
def dropped : State := stopping.onMfe fun m => { m with aux := { m.aux with level := .low } }

theorem witness_CurrentWaitEndsInOpening_drop :
    (dropped.core.up = true ∧ dropped.core.session.waitTimer.isSome = true
        ∧ dropped.core.session.state = .stopping ∧ dropped.env.mfe.aux.active = false
        ∧ dropped.env.mfe.detached = false ∧ dropped.core.session.releaseSeen = false)
      ∧ (brings unplugged stopping = true ∧ (stopping.windowMfe unplugged).detached = true
        ∧ 90 ≤ (measure unplugged).vSupMin ∧ StopCause.vehicleStop ≠ .cableRemoved) := by decide +kernel

theorem witness_StopsWaitForTheCurrent :
    (charging.core.session.state = .charging ∧ charging.core.session.contactor = .closed)
      ∧ VehicleTakes charging ∧ charging.core.up = true
      ∧ (paused.core.session.state = .paused ∧ paused.core.session.contactor = .closed)
      ∧ paused.core.up = true ∧ paused.core.session.pauseTimer.isSome = true
      ∧ VehicleTakes awake ∧ awake.core.session.state = .idle :=
  ⟨by decide, takes_charging, by decide, by decide, by decide, by decide, takes_awake, by decide⟩

theorem witness_StopsWaitForTheCurrent_window :
    charging.env.mfe.aux.active = true
      ∧ (brings unplugged charging = true ∧ (charging.windowMfe unplugged).detached = true
        ∧ 90 ≤ (measure unplugged).vSupMin)
      ∧ (let w := window 2310 20 3800 1000 89 (.temp 120) 600
        brings w charging = true ∧ (charging.windowMfe w).detached = false
          ∧ charging.core.sup.low = false ∧ (measure w).vSupMin < 90) := by decide +kernel

theorem witness_RequestExpiryPausesTheSession :
    charging.core.up = true ∧ charging.core.session.requestTimer.isSome = true
      ∧ charging.core.session.state.powered = true := by decide

theorem witness_ChargeRequestIsStored : VehicleTakes awake ∧ 65535 < 65536 ∧ 2499 < 65536 :=
  ⟨takes_awake, by decide, by decide⟩

theorem witness_DriverTagStartsTheSession :
    VehicleTakes awake ∧ awake.core.session.state ≠ .attached ∧ awake.core.session.state ≠ .closed
      ∧ VehicleTakes attached ∧ attached.core.session.state = .attached
      ∧ attached.env.cfg.authRequired = true
      ∧ missingStart attached.env
          { attached.core with auth := { attached.core.auth with driverTag := some tag1 } } = 0
      ∧ attached.core.link.state ≠ .lost ∧ attached.core.mon.state.measuring = false :=
  ⟨takes_awake, by decide, by decide, takes_attached, by decide, by decide, by decide +kernel,
    by decide, by decide⟩

/-- The pending request of `waiting`. -/
def pendingRequest : PendingAuth := { number := 7, sendTime := 0, timer := some 10000 }

/-- A session granted offline, its request waiting for a late verdict. -/
def offline : State :=
  charging.onCore fun c =>
    c.onAuth fun a =>
      { a with
        state := .offline, mode := some .offline
        request := some { pendingRequest with timer := none } }

/-- `attached` on a LOST link, with an allow-list. -/
def alone (l : List AllowEntry) : State :=
  attached.onCore fun c =>
    { c with link := { c.link with state := .lost, aliveTimer := none }, auth := { c.auth with allowList := l } }

theorem witness_DriverTagStartsTheSession_paths :
    (let s := attached.onCfg fun g => { g with authRequired := false };
      s.core.session.state = .attached ∧ s.env.cfg.authRequired = false
        ∧ missingStart s.env { s.core with auth := { s.core.auth with driverTag := some tag1 } } = 0
        ∧ s.core.mon.state.measuring = false)
      ∧ (let s := alone [{ tag := tag1, expiry := none }]
        s.env.cfg.authRequired = true ∧ s.core.link.state = .lost
          ∧ missingStart s.env { s.core with auth := { s.core.auth with driverTag := some tag1 } } = 0
          ∧ ∃ a ∈ s.core.auth.allowList, a.tag = tag1 ∧ a.expired s.core.meter = false)
      ∧ (let s := alone [{ tag := tag2, expiry := none }]
        missingStart s.env { s.core with auth := { s.core.auth with driverTag := some tag1 } } = 0
          ∧ (∀ a ∈ s.core.auth.allowList, a.tag = tag1 → a.expired s.core.meter = true)
          ∧ s.core.session.contactor = .opened ∧ s.env.mfe.detached = false) := by decide +kernel

theorem witness_VerdictsDecideTheSession :
    (waiting.core.up = true ∧ waiting.core.auth.request = some pendingRequest
        ∧ pendingRequest.number = 7 ∧ waiting.core.auth.sessionTag = some tag1
        ∧ waiting.core.auth.state = .waiting ∧ waiting.core.session.state = .authorizing
        ∧ waiting.core.session.contactor = .opened ∧ waiting.env.mfe.aux.active = false
        ∧ waiting.env.mfe.detached = false ∧ waiting.core.session.releaseSeen = false)
      ∧ (waiting.onCore fun c => c.onSession fun s => { s with selfTestPassed := true }
          ).core.session.selfTestPassed = true
      ∧ (offline.core.up = true
        ∧ offline.core.auth.request = some { pendingRequest with timer := none }
        ∧ offline.core.auth.sessionTag = some tag1 ∧ offline.core.auth.state = .offline
        ∧ offline.core.session.state ≠ .attached ∧ offline.core.session.state ≠ .closed
        ∧ offline.core.meter.openRec = some (opened []) ∧ (opened []).closeRequested = false)
      ∧ charging.core.up = true ∧ charging.core.auth.request = none
      ∧ charging.core.session.state ≠ .attached ∧ charging.core.session.state ≠ .closed := by
  decide +kernel

/-- `waiting` with the session tag on the allow-list. -/
def allowed : State := waiting.onCore fun c => c.onAuth fun a =>
  { a with allowList := [{ tag := tag1, expiry := none }] }

/-- The late REJECT, in CHARGING with the contactor closed. -/
theorem witness_VerdictsDecideTheSession_revoked :
    offline.core.session.state = .charging ∧ offline.core.session.contactor = .closed := by decide

theorem witness_TimeoutIsDecidedOffline :
    (allowed.core.up = true ∧ allowed.core.auth.state = .waiting
        ∧ allowed.core.auth.request = some pendingRequest ∧ pendingRequest.timer.isSome = true
        ∧ allowed.core.auth.sessionTag = some tag1 ∧ allowed.core.session.state = .authorizing
        ∧ (∃ a ∈ allowed.core.auth.allowList, a.tag = tag1 ∧ a.expired allowed.core.meter = false)
        ∧ allowed.core.session.selfTestPassed = false)
      ∧ waiting.core.up = true ∧ waiting.core.auth.state = .waiting
      ∧ waiting.core.auth.request = some pendingRequest
      ∧ waiting.core.auth.sessionTag = some tag1 ∧ waiting.core.session.state = .authorizing
      ∧ (∀ a ∈ waiting.core.auth.allowList, a.tag = tag1 → a.expired waiting.core.meter = true)
      ∧ waiting.core.session.contactor = .opened ∧ waiting.env.mfe.detached = false
      ∧ waiting.core.session.releaseSeen = false := by decide +kernel

theorem witness_LatchesAreClearedByRequest :
    VehicleTakes awake ∧ hasBit (0xFC : Byte) 0 = false ∧ hasBit (0xFC : Byte) 1 = false
      ∧ hasBit (2 : Byte) 1 = true ∧ awake.core.session.Rests
      ∧ VehicleTakes charging ∧ charging.core.session.state.busy = true
      ∧ hasBit (1 : Byte) 0 = true ∧ (auxOn awake).env.mfe.aux.active = true
      ∧ (awake.onMfe fun m => { m with fault := { m.fault with level := .high } }
          ).env.mfe.fault.active = true
      ∧ (attached.onCore fun c => c.onSession fun s => { s with request := none }).core.session.Rests
      ∧ ((inState .closed .opened).onCore fun c => c.onSession fun s => { s with closePending := true }
          ).core.session.Rests :=
  ⟨takes_awake, by decide, by decide, by decide, .inl rfl, takes_charging, by decide, by decide,
    by decide, by decide, .inr (.inl ⟨rfl, rfl⟩), .inr (.inr ⟨rfl, rfl⟩)⟩

theorem witness_VehicleRequestsAreTaken :
    Instr.vehicleHeader (.poll 43 []) = some (0x01, 43, []) ∧ VehicleTakes awake := ⟨rfl, takes_awake⟩

/-- A part whose vehicle port works on a request. -/
def working : State :=
  awake.onVport fun v =>
    { v with
      slot := .processing { kind := 1, seq := 2, status := .ok, pending := 0, content := [] } .none
      ready := false }

theorem witness_BusyUntilTheRequestIsAnswered :
    working.core.up = true ∧ working.vport.ready = false
      ∧ (Instr.vehicleHeader (.poll 43 [])).isSome = true
      ∧ working.vport.slot
        = .processing { kind := 1, seq := 2, status := .ok, pending := 0, content := [] } .none
      ∧ (∃ (v : VehiclePort) (r : Response), v.shiftedOut = some r ∧ 7 + r.content.length ≤ 7
        ∧ (responseBytes r)[6]? = some 0) :=
  ⟨by decide, by decide, by decide, by decide,
    { VehiclePort.reset with
      shiftedOut := some { kind := 1, seq := 2, status := .ok, pending := 0, content := [] } },
    _, rfl, by decide, by decide⟩

theorem witness_DeferredActionsAreReleased :
    VehicleTakes awake
      ∧ (let s := awake.onVport fun v => { v with deferred := .reset }
        s.core.up = true ∧ s.vport.ready = true ∧ s.vport.deferred ≠ .none
          ∧ (Instr.vehicleHeader (.poll 43 [])).isSome = true ∧ s.vport.deferred = .reset
          ∧ s.core.session.state = .idle)
      ∧ (let s := charging.onVport fun v => { v with deferred := .reset }
        s.core.up = true ∧ s.vport.ready = true ∧ s.vport.deferred = .reset
          ∧ s.core.session.state = .charging ∧ s.core.session.contactor = .closed)
      ∧ (let s := awake.onVport fun v => { v with deferred := .sleep }
        s.core.up = true ∧ s.vport.ready = true ∧ s.vport.deferred = .sleep
          ∧ s.core.session.state = .idle ∧ wakingSources s.env.mfe s.fport = 0) :=
  ⟨takes_awake, by decide +kernel, by decide +kernel, by decide +kernel⟩

theorem witness_StartingAnswersNotReady :
    State.reset.core.sup.held = none ∧ State.reset.core.sup.power = .starting
      ∧ (0x01 : Byte) ≠ 0x70 ∧ Instr.vehicleHeader (.poll 1 []) = some (0x01, 1, [])
      ∧ State.reset.vport.ready = true ∧ State.reset.vport.deferred = .none
      ∧ (0x40 : Byte) ≠ 0x70 ∧ Instr.fleetHeader (.readOldestRecord 1 []) = some (0x40, 1, [])
      ∧ State.reset.fport.Free ∧ FrameFits 0x40 1 [] :=
  ⟨rfl, rfl, by decide, rfl, rfl, rfl, by decide, rfl, ⟨rfl, .inl rfl⟩, by unfold FrameFits; decide +kernel⟩

theorem witness_VehicleReadsAnswerTheirLayouts :
    VehicleTakes awake ∧ State.reset.core.up = true ∧ State.reset.vport.ready = true
      ∧ State.reset.vport.deferred = .none ∧ State.reset.fport.Free ∧ FrameFits 0x70 1 [0]
      ∧ State.reset.env.table.length = 8 :=
  ⟨takes_awake, by decide, by decide, by decide, ⟨rfl, .inl rfl⟩, by unfold FrameFits; decide +kernel,
    by decide⟩

theorem witness_NoticesAreEnabledAndAcknowledged_moment :
    (ackWorking.core.up = true ∧ ackWorking.vport.slot
        = .processing { kind := 0x72, seq := 2, status := .ok, pending := 0, content := [] } .none)
      ∧ ackSending.core.up = true ∧ ackSending.pending = [] ∧ ackSending.fport.paused = false
      ∧ (∃ bytes, ackSending.fport.transmit = some
          { bytes, next := 1, sending := true
            forming := some { kind := 0x72, seq := 2, status := .ok, pending := 0, content := [0] } }) :=
  ⟨by decide, by decide, by decide, by decide, _, rfl⟩

theorem witness_NoticesAreEnabledAndAcknowledged :
    VehicleTakes awake ∧ FleetTakes awake ∧ ([0] : List Byte).length ≠ 2
      ∧ FrameFits 0x72 1 [0] ∧ FrameFits 0x71 1 [0]
      ∧ (0 : Byte) = (if hasBit (awake.core.notices.fleetPending &&& ~~~ (0xFFFF : Half)) 13
          then awake.core.notices.fleetWake else 0) :=
  ⟨takes_awake, takes_fleet, by decide, by unfold FrameFits; decide +kernel,
    by unfold FrameFits; decide +kernel, by decide⟩

/-- A record with values at the ends of their ranges. -/
def farConfig : ConfigRecord :=
  { ConfigRecord.default with
    permitTemp := -100, phases := 1, pCfg := 22000, eta := 990, pSeg := 500, halfPeriod := 4000
    defaultPrice := 65535, ownAddress := 62, accCode := 2047, flapTrigger := .levelLow }

theorem witness_ConfigurationWritesReadBack :
    farConfig.InRange ∧ defaultTable.length = 8 ∧ (∀ r ∈ defaultTable, r.InRange)
      ∧ VehicleTakes awake ∧ awake.core.session.Rests ∧ ([] : List Byte).length ≠ 2
      ∧ (999 < 1000 ∧ 22001 < 65536 ∧ 22000 < 22001) ∧ 1 < 2
      ∧ (99 < 100 ∧ 1000 < 1001 ∧ 2001 < 65536)
      ∧ (defaultTable.map (·.breakpoint)).Pairwise (· < ·)
      ∧ ¬ ((List.replicate 8 (TempRow.mk 0 0)).map (·.breakpoint)).Pairwise (· < ·)
      ∧ VehicleTakes charging ∧ charging.core.session.state.busy = true := by
  refine ⟨by unfold ConfigRecord.InRange; decide, by decide, ?_, takes_awake, .inl rfl, by decide,
    by decide, by decide, by decide, by decide, by decide, takes_charging, by decide⟩
  unfold TempRow.InRange
  decide

theorem witness_UnknownRequestsAreRefusedByThePort :
    VehicleTakes awake ∧ headerAccepted .vehicle [] = false
      ∧ headerAccepted .vehicle [0x01, 1, 1, 0] = false
      ∧ FleetTakes awake ∧ headerAccepted .fleet [0x40, 1, 1, 0] = false
      ∧ 4 ≤ ([0x40, 1, 1, 0] : List Byte).length ∧ (frameOf [0x40, 1, 1, 0]).length ≤ 64
      ∧ headerAccepted .fleet [0x40, 1, 1] = false ∧ ([0x40, 1, 1] : List Byte).length < 4
      ∧ Instr.vehicleHeader (.poll 43 []) = some (0x01, 43, []) ∧ ([] : List Byte).length < 65536 :=
  ⟨takes_awake, by decide, by decide, takes_fleet, by decide, by decide, by decide +kernel, by decide,
    by decide, rfl, by decide⟩

theorem witness_FleetRequestsAreTakenOrWait :
    Instr.fleetHeader (.readOldestRecord 9 []) = some (0x40, 9, []) ∧ FleetTakes awake
      ∧ FrameFits 0x40 9 []
      ∧ (¬ FrameFits 0x40 9 (List.replicate 57 0))
      ∧ ((frameOf (requestBytes 0x40 9 (List.replicate 57 0))).length,
          (frameOf (requestBytes 0x40 9 (List.replicate 58 0))).length) = (65, 66)
      ∧ (let s := awake.onFport fun p =>
          { p with outstanding := some { kind := 0x41, seq := 0, content := [] } }
        s.core.up = true ∧ s.fport.outstanding.isSome = true) :=
  ⟨rfl, takes_fleet, by unfold FrameFits; decide +kernel, by unfold FrameFits; decide +kernel,
    by decide +kernel, by decide⟩

/-- An over-long frame leaves what its clause says, on both sides of the 65th byte. -/
theorem test_over_long :
    ([57, 58].map fun n => after (.readOldestRecord 9 (List.replicate n 0)) awake
        fun t => (t.fport.fifo, t.fport.rx))
      = [some ([], .discard), some ([0x7E], .inFrame)] := by decide +kernel

theorem witness_FleetReadsChangeNothing :
    FleetTakes awake
      ∧ (queued [closedRecord 56, closedRecord 57] none).core.queue.queue
        = closedRecord 56 :: [closedRecord 57]
      ∧ (queued [] (some (closedRecord 57))).core.queue.queue = []
      ∧ (queued [] (some (closedRecord 57))).core.queue.held = some (closedRecord 57)
      ∧ awake.core.queue.queue = [] ∧ awake.core.queue.held = none :=
  ⟨takes_fleet, rfl, rfl, rfl, rfl, rfl⟩

/-- CLOSED with a close that waits: eight records in the queue and one held. -/
def crowded : State :=
  (inState .closed .opened).onCore fun c =>
    { c with
      session := { c.session with closePending := true, endReason := some .vehicleStop }
      queue := { queue := List.replicate 8 (closedRecord 57), held := some (closedRecord 64) }
      meter := { c.meter with openRec := some { record := closedRecord 64, closeRequested := true } } }

/-- The same queue in PAUSED and HELD, with a folded record of one line. -/
def heldMeter : State :=
  paused.onCore fun c =>
    { c with
      session := { c.session with pauseCauses := putBit 0 PauseCause.billingHold.code true }
      queue := crowded.core.queue
      meter := { c.meter with held := true, openRec := some (opened [someLine]) } }

theorem witness_ReleaseRemovesTheOldestRecord :
    FleetTakes awake ∧ ([] : List Byte).length ≠ 3 ∧ FrameFits 0x41 1 []
      ∧ awake.core.queue.oldest = none
      ∧ (let s := queued [closedRecord 56] none
        s.core.queue.oldest = some (closedRecord 56)
          ∧ ¬ ((closedRecord 56).number = 57 ∧ (closedRecord 56).continuation = (0 : Byte).toNat)
          ∧ (closedRecord 56).number = 56 ∧ (closedRecord 56).continuation = (0 : Byte).toNat
          ∧ s.core.session.state ≠ .attached ∧ s.core.meter.openRec = none
          ∧ s.core.session.state ≠ .closed)
      ∧ FleetTakes crowded ∧ crowded.core.queue.oldest = some (closedRecord 57)
      ∧ crowded.core.meter.openRec = some { record := closedRecord 64, closeRequested := true }
      ∧ crowded.core.session.state = .closed ∧ crowded.env.mfe.detached = false
      ∧ crowded.core.session.releaseSeen = false ∧ crowded.core.queue.queue.length = 8
      ∧ crowded.core.queue.held.isSome = true :=
  ⟨takes_fleet, by decide, by unfold FrameFits; decide +kernel, by decide, by decide +kernel,
    ⟨rfl, rfl, rfl, .inl rfl⟩, by decide +kernel, by decide +kernel, by decide, by decide, by decide,
    by decide, by decide⟩

theorem witness_ReleaseRemovesTheOldestRecord_leaves :
    (let s := crowded.onMfe fun m => { m with pilotLevel := some .detached };
      s.core.sup.power = .active ∧ s.fport.Free ∧ s.env.mfe.detached = true
        ∧ s.core.meter.openRec = crowded.core.meter.openRec)
      ∧ (let s := crowded.onCore fun c => c.onSession fun x => { x with releaseSeen := true, request := none }
        s.core.sup.power = .active ∧ s.fport.Free ∧ s.env.mfe.detached = false
          ∧ s.core.session.releaseSeen = true ∧ s.core.session.chargeEnable = false
          ∧ s.core.session.heatEnable = false) :=
  ⟨⟨rfl, ⟨rfl, .inl rfl⟩, by decide +kernel, rfl⟩, ⟨rfl, ⟨rfl, .inl rfl⟩, by decide, rfl, rfl, rfl⟩⟩

theorem witness_ReleaseRemovesTheOldestRecord_held :
    FleetTakes heldMeter
      ∧ heldMeter.core.queue.oldest = some (closedRecord 57) ∧ (closedRecord 57).number = 57
      ∧ heldMeter.core.session.state = .paused ∧ heldMeter.core.meter.held = true
      ∧ heldMeter.core.meter.openRec = some (opened [someLine])
      ∧ (opened [someLine]).closeRequested = false ∧ heldMeter.core.queue.queue.length = 8
      ∧ heldMeter.core.queue.held.isSome = true :=
  ⟨⟨rfl, rfl, rfl, .inl rfl⟩, by decide +kernel⟩

/-- CHARGING under an offline grant, with a valid time of 1,000 s. -/
def timed : State :=
  offline.onCore fun c => c.onMeter fun m =>
    { m with
      time := 1000, timeValid := true
      openRec := some { record := { record [] with mode := some .offline }, closeRequested := false } }

theorem witness_FleetSetsTimeAndCap :
    FleetTakes charging ∧ 1000001 < 2 ^ 32 ∧ charging.core.meter.timeOwned = true
      ∧ FleetTakes timed ∧ timed.core.meter.timeOwned = false ∧ timed.core.meter.timeValid = true
      ∧ (939 : Word).toNat + 60 < timed.core.meter.time.toNat
      ∧ (∃ o, timed.core.meter.openRec = some o ∧ o.closeRequested = false)
      ∧ ¬ (timed.core.meter.timeValid = true ∧ ((1060 : Word).toNat + 60 < timed.core.meter.time.toNat
          ∨ timed.core.meter.time.toNat + 60 < (1060 : Word).toNat)) :=
  ⟨takes_fleet_charging, by decide, by decide, ⟨rfl, rfl, rfl, .inl rfl⟩, by decide, by decide, by decide,
    ⟨_, rfl, rfl⟩, by decide⟩

theorem witness_AllowAddKeepsOnePlacePerTag :
    FleetTakes awake ∧ ([] : List Byte).length ≠ 8 ∧ ([] : List Byte).length ≠ 12 ∧ FrameFits 0x45 1 [] :=
  ⟨takes_fleet, by decide, by decide, by unfold FrameFits; decide +kernel⟩

theorem witness_AllowRemoveTakesTheTagAndTheExpired :
    FleetTakes awake ∧ ([] : List Byte).length ≠ 8 ∧ FrameFits 0x46 1 [] :=
  ⟨takes_fleet, by decide, by unfold FrameFits; decide +kernel⟩

theorem witness_FleetBytesFollowTheReceiveState :
    awake.core.up = true ∧ headFrame awake.fport.fifo = none ∧ awake.fport.transmit = none
      ∧ (0x40 : Byte) ≠ 0x11 ∧ (0x40 : Byte) ≠ 0x13
      ∧ headFrame (receiveByte 0x40 awake.fport).fifo = none
      ∧ (let s := awake.onFport fun p =>
          { p with
            fifo := List.replicate 64 0x7E, rx := .inFrame
            outstanding := some { kind := 0x41, seq := 0, content := [] } }
        s.core.up = true ∧ s.fport.outstanding.isSome = true)
      ∧ ([(true, 2, false), (false, 3, true), (true, 3, true)].all fun x =>
        let s := responding x.1 { bytes := [0x7E, 1, 2], next := x.2.1, sending := x.2.2, forming := none }
        s.core.up && s.fport.outstanding.isSome && (headFrame s.fport.fifo).isNone
          && s.fport.transmit.isSome && s.fport.paused == x.1) = true := by
  decide +kernel

theorem witness_FramesReadBack : 4 ≤ ([0x7E, 0x7D, 0x11, 0x13] : List Byte).length := by decide

/-- A part whose fleet port has just seen the flag that opens a frame. -/
def listeningPort : State := (awake.onFport fun p => { p with fifo := [0x7E], rx := .inFrame }).settle

theorem witness_FrameBytesBringTheRequest :
    Instr.fleetHeader (.setTime 5 [1, 0, 0, 0]) = some (0x43, 5, [1, 0, 0, 0])
      ∧ FleetTakes listeningPort ∧ listeningPort.fport.fifo = [0x7E]
      ∧ listeningPort.fport.rx = .inFrame ∧ listeningPort.settle = listeningPort
      ∧ FrameFits 0x43 5 [1, 0, 0, 0]
      ∧ (let s := (listeningPort.onFport fun p =>
          { p with
            outstanding := some { kind := 0x41, seq := 0, content := [] }
            fifo := frameOf (requestBytes 0x43 5 [1, 0, 0, 0]) })
        s.core.sup.held = none ∧ s.core.sup.power = .active ∧ s.fport.paused = false
          ∧ s.fport.outstanding.isSome = true ∧ s.fport.rx = .inFrame ∧ s.settle = s) :=
  ⟨rfl, ⟨rfl, rfl, rfl, .inr rfl⟩, rfl, rfl, by decide +kernel, by unfold FrameFits; decide +kernel,
    by decide +kernel⟩

theorem witness_SmallestTermBinds :
    smallestTerm 5000 5000 (some 5000) none 5000 = (5000, .pilot)
      ∧ steady.env.mfe.offerValid = true ∧ steady.env.mfe.cable = some .a32
      ∧ steady.core.link.heard = true ∧ steady.core.link.postLimit = some 1100
      ∧ 0 < steady.core.meter.spendCap ∧ 0 < currentPrice steady.env.cfg steady.core.meter
      ∧ awake.env.mfe.cable = none ∧ awake.core.link.heard = false ∧ awake.core.meter.spendCap = 0 := by
  decide

theorem witness_AllocationsShareTheOutput :
    steady.core.mon.result = .ok ∧ steady.core.session.state = .charging
      ∧ (inState .preheat .closed).core.session.state = .preheat
      ∧ (steady.onCore fun c => c.onMon fun m => { m with result := .warn }).core.mon.result = .warn
      ∧ (steady.onCore fun c => c.onMon fun m => { m with result := .fault }).core.mon.result = .fault
      ∧ awake.env.mfe.tMin = none
      ∧ (∀ row ∈ steady.env.table, (-500 : Int) < row.breakpoint)
      ∧ (steady.env.table.map (·.breakpoint)).Pairwise (· < ·)
      ∧ (∃ row next, steady.env.table[1]? = some row ∧ steady.env.table[2]? = some next
        ∧ steady.env.mfe.tMin = some 35 ∧ row.breakpoint ≤ row.breakpoint
        ∧ row.breakpoint < next.breakpoint)
      ∧ steady.core.session.request = some { wish with iReq := 300, vTarget := 4100 }
      ∧ steady.env.mfe.vBus? = some 3800 := by
  refine ⟨by decide, by decide, by decide, by decide, by decide, by decide, by decide, by decide,
    ⟨_, _, rfl, rfl, rfl, Int.le_refl _, by decide⟩, by decide, by decide⟩

theorem witness_AllocationTimerReplacesTheRecord :
    (awake.core.up = true ∧ awake.core.alloc.timer.isSome = true ∧ awake.core.heater.run = .off
        ∧ awake.core.session.state = .idle)
      ∧ (closing.core.up = true ∧ closing.core.alloc.timer.isSome = true
        ∧ closing.core.heater.run = .off ∧ closing.core.session.state = .authorizing)
      ∧ steady.core.up = true ∧ steady.core.alloc.timer.isSome = true
      ∧ steady.core.session.state.powered = true ∧ steady.core.session.pauseCauses = 0
      ∧ 0 < (fullRecord false steady.env steady.core).pInLim := by decide +kernel

/-- PAUSED by one cause, with the terms of `steady`. -/
def pausedBy (cause : PauseCause) : State :=
  steady.onCore fun c =>
    { c with
      session :=
        { c.session with
          state := .paused, pauseCauses := putBit 0 cause.code true, pauseTimer := some 600000 }
      heater := Heater.reset }

theorem witness_AllocationTimerReplacesTheRecord_paused :
    (let s := pausedBy .offerZero;
      s.core.up = true ∧ s.core.alloc.timer.isSome = true ∧ s.core.heater.run = .off
        ∧ s.core.session.state = .paused
        ∧ putBit s.core.session.pauseCauses PauseCause.limitZero.code
          ((limitRecord s.env s.core).pInLim == 0) ≠ 0)
      ∧ (let s := pausedBy .limitZero
        s.core.session.state = .paused ∧ 0 < (limitRecord s.env s.core).pInLim
          ∧ putBit s.core.session.pauseCauses PauseCause.limitZero.code false = 0)
      ∧ (let s := steady.onMfe fun m => { m with offer := 0 }
        s.core.up = true ∧ s.core.session.state.powered = true ∧ s.core.session.pauseCauses = 0
          ∧ (fullRecord false s.env s.core).pInLim = 0) := by decide +kernel

theorem witness_SlotBoundariesAreTakenOrDeferred :
    (heating.core.up = true ∧ heating.core.heater.run = .running
        ∧ heating.core.heater.slotTimer.isSome = true ∧ heating.core.heater.position = some 0
        ∧ heating.core.mon.window = false ∧ 0 < 63)
      ∧ (heating.onCore fun c => c.onMon fun m => { m with window := true }).core.mon.window = true
      ∧ (heating.onCore fun c => c.onHeater fun h => { h with position := some 62 }
          ).core.heater.position = some 62 ∧ 62 < 63 := by decide

/-- A frame in its first slot with `n` entries, `started` of them begun, and the terms of `steady` with a demand of
43 slots: 1,340 W are handed to it, a bound of 42. -/
def framed (started n lastHanded : Nat) (window : Bool) : State :=
  steady.onCore fun c =>
    { c with
      heater :=
        { c.heater with
          run := .running, demand := 43, slots := List.replicate n .z0, frameS := n, position := some 0
          started := started, lastHanded := lastHanded, held := lastHanded, energized := some .z0
          slotTimer := some 50 }
      mon := { c.mon with window := window } }

/-- The value that `framed` is handed. -/
def handed : Nat := (fullRecord false (framed 1 64 3000 true).env (framed 1 64 3000 true).core).pHeatAlloc

theorem witness_SlotBoundariesAreTakenOrDeferred_handed :
    (steady.core.up = true ∧ steady.core.alloc.timer.isSome = true
        ∧ steady.core.session.state.powered = true ∧ steady.core.session.pauseCauses = 0
        ∧ 0 < (fullRecord false steady.env steady.core).pInLim ∧ steady.core.heater.run = .armed
        ∧ steady.core.mon.window = false)
      ∧ (steady.onCore fun c => c.onMon fun m => { m with window := true }).core.mon.window = true
      ∧ (heating.onCore fun c => c.onHeater fun h => { h with position := some 63 }
          ).core.heater.position = some 63
      ∧ ([(1, 64, 3000, true), (1, 2, handed, false), (64, 64, 3000, true)].all fun x =>
          let s := framed x.1 x.2.1 x.2.2.1 x.2.2.2
          s.core.heater.run == .running && s.core.heater.position == some 0
            && (fullRecord false s.env s.core).pHeatAlloc == handed
            && decide (0 < (fullRecord false s.env s.core).pInLim)) = true
      ∧ handed = 1340 ∧ handed < 3000 ∧ 1 ≤ handed * 64 / steady.env.cfg.pSeg
      ∧ handed * 64 / steady.env.cfg.pSeg < 1 + (64 - (0 + 1))
      ∧ handed * 64 / steady.env.cfg.pSeg < 64
      ∧ (framed 64 64 3000 true).core.heater.energized.isSome = true
      ∧ (framed 64 64 3000 true).core.mon.window = true := by decide +kernel

theorem witness_SlotListIsBuiltInRounds :
    (∀ k, (quadAll 64 : Quad Nat).get k ≤ 64) ∧ (∀ k, (warm.get k).value = some (120 : Int))
      ∧ (buildSlots warm (quadAll 64) 43)[42]? = some .z2
      ∧ ((buildSlots warm (quadAll 64) 43).take 42).count .z3 < (quadAll 64 : Quad Nat).get .z3 := by
  refine ⟨fun k => by cases k <;> decide, fun k => by cases k <;> rfl, by decide +kernel, by decide +kernel⟩

theorem witness_HalfPeriodsAreAcceptedOrRepeated :
    (let s := listening.onCore fun c => c.onMon fun m => { m with window := false };
      s.core.up = true ∧ s.core.mon.state.measuring = true ∧ s.core.mon.timer.isSome = true
        ∧ s.core.mon.window = false)
      ∧ listening.core.up = true ∧ listening.core.mon.state.measuring = true
      ∧ listening.core.mon.timer.isSome = true ∧ listening.core.mon.window = true
      ∧ (30000 : Int)
        = listening.core.mon.windowSum + ([30001].map fun v : Int => max (-30000) (min 30000 v)).sum
      ∧ 1 = listening.core.mon.windowCount + ([30001] : List Int).length
      ∧ listening.core.session.state ≠ .attached ∧ listening.core.session.state ≠ .closed
      ∧ listening.core.mon.mark = false ∧ 0 < 1 ∧ listening.core.mon.polarity = .positive
      ∧ (let s := listening.onCore fun c => c.onMon fun m => { m with mark := true, discards := 2 }
        s.core.mon.mark = true ∧ s.core.mon.discards + 1 < 4)
      ∧ (let s := listening.onCore fun c => c.onAlloc fun a =>
          { a with record := { a.record with pendingIncrease := some 3000 } }
        s.core.alloc.record.pendingIncrease = some 3000) := by decide +kernel

/-- The last half-period of a start-up self-test that passes: 7,480 and -7,444 mV. -/
def lastHalf : State :=
  testing.onCore fun c => c.onMon fun m =>
    { m with polarity := .negative, vPos := some 7480, pass := 1 }

/-- A marked half-period after three discards, with `n` cycles without a result before it. -/
def discarded (n : Nat) : State :=
  listening.onCore fun c => c.onMon fun m => { m with mark := true, discards := 3, noResults := n }

theorem witness_HalfPeriodsAreAcceptedOrRepeated_fourth :
    ([6, 7].all fun n =>
        let s := discarded n
        s.core.up && s.core.mon.state.measuring && s.core.mon.timer.isSome && s.core.mon.window
          && s.core.mon.mark && s.core.mon.discards == 3 && s.core.mon.noResults == n
          && s.core.mon.state == .monitoring && s.core.session.state == .charging
          && s.core.session.contactor == .closed) = true
      ∧ [6, 7].map (fun n => after (.halfPeriodTimerExpiry []) (discarded n) fun t =>
          (t.core.mon.state, t.core.mon.noResults, t.core.session.endReason))
        = [some (.monitoring, 7, none), some (.inoperative, 8, some .selfTestFail)] := by decide +kernel

theorem witness_StartUpSelfTestEndsStarting :
    lastHalf.core.up = true ∧ lastHalf.core.session.state = .idle
      ∧ lastHalf.core.mon.state = .selfTest ∧ lastHalf.core.mon.kind = some .startUp
      ∧ lastHalf.core.mon.timer.isSome = true ∧ lastHalf.core.mon.window = true
      ∧ lastHalf.core.mon.mark = false ∧ lastHalf.core.mon.polarity = .negative
      ∧ lastHalf.core.mon.vPos = some 7480 ∧ lastHalf.core.mon.pass = 1
      ∧ (-7444 : Int)
        = lastHalf.core.mon.windowSum + ([-7444].map fun v : Int => max (-30000) (min 30000 v)).sum
      ∧ 1 = lastHalf.core.mon.windowCount + ([-7444] : List Int).length
      ∧ (resistance (((7480 : Int) - -7444 / (1 : Nat)) / 2)).inBand = true := by decide +kernel

/-- WARN after a first LOW result, in the last half of a cycle of 1,300 and -1,227 mV. -/
def warned : State :=
  listening.onCore fun c => c.onMon fun m =>
    { m with polarity := .negative, vPos := some 1300, result := .warn, low := 1 }

/-- The last half-period of a session self-test, of start-up or with a result outside the band. -/
def lastSessionHalf (granted : Bool) (vPos : Int) : State :=
  (inState .authorizing .opened).onCore fun c =>
    { c with
      session := { c.session with authGranted := granted }
      mon :=
        { c.mon with
          state := .selfTest, kind := some .session, timer := some 1000, window := true
          polarity := .negative, vPos := some vPos, pass := 1 } }

theorem witness_StartUpSelfTestEndsStarting_session :
    ([(false, 7480), (true, 7480), (true, 100)].all fun x =>
        let s := lastSessionHalf x.1 x.2
        s.core.up && s.core.mon.state == .selfTest && s.core.mon.timer.isSome && s.core.mon.window
          && !s.core.mon.mark && s.core.mon.polarity == .negative && s.core.mon.vPos == some x.2
          && s.core.session.state == .authorizing && s.core.session.contactor == .opened
          && s.core.mon.kind == some .session && s.core.session.authGranted == x.1
          && !s.env.mfe.aux.active && !s.env.mfe.detached && !s.core.session.releaseSeen) = true
      ∧ (resistance (((100 : Int) - -100 / (1 : Nat)) / 2)).inBand = false := by decide +kernel

theorem witness_SecondLowResultIsTheFault :
    warned.core.up = true ∧ warned.core.session.state.powered = true
      ∧ warned.core.session.contactor = .closed ∧ warned.env.mfe.aux.active = true
      ∧ warned.core.mon.state = .monitoring ∧ warned.core.mon.timer.isSome = true
      ∧ warned.core.mon.window = true ∧ warned.core.mon.mark = false
      ∧ warned.core.mon.polarity = .negative ∧ warned.core.mon.vPos = some 1300
      ∧ warned.core.mon.result = .warn ∧ warned.core.mon.low = 1
      ∧ warned.env.mfe.vBus? = some 3800
      ∧ (-1227 : Int)
        = warned.core.mon.windowSum + ([-1227].map fun v : Int => max (-30000) (min 30000 v)).sum
      ∧ 1 = warned.core.mon.windowCount + ([-1227] : List Int).length
      ∧ (resistance (((1300 : Int) - -1227 / (1 : Nat)) / 2)).below
          (warned.env.cfg.faultOhms * 3800 / 10000) = true := by decide +kernel

/-- The second LOW result in the current wait. -/
def warnedWait : State := warned.onCore fun c => { c with session := stopping.core.session }

theorem witness_CurrentWaitEndsInOpening_fault :
    warnedWait.core.session.waitTimer.isSome = true ∧ warnedWait.core.session.state = .stopping
      ∧ warnedWait.core.up = true ∧ warnedWait.core.session.contactor = .closed
      ∧ warnedWait.env.mfe.aux.active = true
      ∧ warnedWait.core.session.endReason = some .vehicleStop ∧ StopCause.vehicleStop ≠ .insulationFault
      ∧ warnedWait.core.mon = warned.core.mon ∧ warnedWait.env = warned.env := by decide +kernel

/-- The last half of a cycle on the bus, from a result state with its counts. -/
def judging (result : ResultState) (low good : Nat) (vPos : Int) : State :=
  listening.onCore fun c => c.onMon fun m =>
    { m with polarity := .negative, vPos := some vPos, result := result, low := low, good := good }

/-- R112: the results 447 (GOOD), 150 (MARGINAL) and 25 (LOW) kilohm of section 6.12, state by state. -/
theorem witness_SecondLowResultIsTheFault_counts :
    [(ResultState.noResult, 0, 0, (12600, -11800)), (.noResult, 0, 0, (6100, -6000)),
      (.ok, 0, 3, (1300, -1227)), (.warn, 0, 2, (12600, -11800)), (.warn, 0, 1, (12600, -11800)),
      (.warn, 1, 2, (6100, -6000)), (.warn, 0, 2, (1300, -1227))].map (fun x =>
        after (.halfPeriodTimerExpiry [x.2.2.2.2]) (judging x.1 x.2.1 x.2.2.1 x.2.2.2.1) fun t =>
          (t.core.mon.result, t.core.mon.low, t.core.mon.good))
      = [some (.ok, 0, 1), some (.warn, 0, 0), some (.warn, 1, 0), some (.ok, 0, 3),
        some (.warn, 0, 2), some (.warn, 0, 0), some (.warn, 1, 0)] := by decide +kernel

theorem witness_MeteringConservesEnergy :
    (awake.core.up = true ∧ awake.core.meter.timer.isSome = true
        ∧ awake.core.session.contactor = .opened)
      ∧ charging.core.up = true ∧ charging.core.meter.timer.isSome = true
      ∧ charging.core.session.contactor ≠ .opened
      ∧ charging.core.meter.openRec = some (opened []) ∧ (opened []).closeRequested = false
      ∧ LinesFit (opened []).record.lines
      ∧ 1386 = ((charging.env.mfe.published.map MeasurementSet.pIn).getD 0).toNat
      ∧ charging.core.meter.energy + 1386 * 100 < 2 ^ 64 := by
  refine ⟨by decide, by decide, by decide, by decide, by decide +kernel, by decide, ?_, by decide,
    by decide⟩
  unfold LinesFit
  decide

theorem witness_TariffMessagesAreStagedOrRejected :
    awake.core.up = true ∧ 6 < (7 : Byte).toNat ∧ (6 : Byte).toNat ≤ (6 : Byte).toNat
      ∧ 1439 < (1440 : Half).toNat
      ∧ 2 ≤ (6 : Byte).toNat ∧ (6 : Byte).toNat ≤ 6 ∧ (5 : Byte).toNat < (6 : Byte).toNat
      ∧ (1439 : Half).toNat ≤ 1439 ∧ awake.core.meter.staging = none
      ∧ (1 : Byte) ≠ awake.core.meter.schedule.version
      ∧ charging.core.up = true ∧ charging.core.meter.openRec = some (opened [])
      ∧ (opened []).closeRequested = false := by decide +kernel

/-- A standard data frame. -/
def frame (ident : CanId) (data : List Byte) : CanFrame := { extended := false, remote := false, ident, data }

/-- A schedule of two bands whose second band is missing, and its bands. -/
def halfStaged : State :=
  charging.onCore fun c => c.onMeter fun m =>
    { m with staging := some { version := 9, bands := [some { start := 0, price := 180 }, none] } }

theorem witness_TariffMessagesAreStagedOrRejected_complete :
    (let bands : List Band := [{ start := 0, price := 180 }, { start := 360, price := 250 }];
      halfStaged.core.up = true ∧ bands.length = (2 : Byte).toNat
        ∧ [some { start := 0, price := 180 }, none].set (1 : Byte).toNat
            (some { start := (360 : Half).toNat, price := (250 : Half).toNat }) = bands.map some
        ∧ (bands.map (·.start)).head? = some 0 ∧ (bands.map (·.start)).Pairwise (· < ·)
        ∧ 9 ≠ halfStaged.core.meter.schedule.version
        ∧ halfStaged.core.meter.openRec = some (opened []))
      ∧ ¬ (([{ start := 0, price := 180 }, { start := 0, price := 250 }] : List Band).map (·.start)
          ).Pairwise (· < ·)
      ∧ ((1 : Byte).toNat = 1 ∧ ([{ start := 0, price := 7 }] : List Band).length = 1
        ∧ (7 : Byte) = (awake.onCore fun c => c.onMeter fun m =>
            { m with schedule := .posted 7 [{ start := 0, price := 7 }] }).core.meter.schedule.version) := by
  decide +kernel

theorem witness_FramesBringTheMessages :
    awake.core.up = true ∧ frameAccepted awake.env.cfg (frame 0x7F []) = false
      ∧ (frameAccepted awake.env.cfg (frame 0x7F (0x00 :: le 2 (1100 : Half).toNat)) = true
        ∧ (0x7F : CanId).toNat / 64 = 1)
      ∧ frameAccepted awake.env.cfg
          (frame 0x80 (0x01 :: (le 2 (7 : Half).toNat ++ tag1.bytes ++ [1]).take 7)) = true
      ∧ frameAccepted awake.env.cfg
          (frame 0x80 (0x11 :: (le 2 (7 : Half).toNat ++ tag1.bytes ++ [1]).drop 7)) = true
      ∧ (0x80 : CanId).toNat / 64 = 2
      ∧ (let asm : Assembly :=
          { count := 2, next := 1, content := (le 2 (7 : Half).toNat ++ tag1.bytes ++ [1]).take 7 }
        (awake.onCore fun c => c.onLink fun l => { l with asmVerdict := some asm }
          ).core.link.asmVerdict = some asm)
      ∧ (frameAccepted awake.env.cfg
          (frame 0xC0 (0x00 :: 7 :: 0 :: 1 :: (le 2 (0 : Half).toNat ++ le 2 (180 : Half).toNat))) = true
        ∧ (0xC0 : CanId).toNat / 64 = 3)
      ∧ (frameAccepted awake.env.cfg (frame 0x100 (0x00 :: le 4 (9 : Word).toNat)) = true
        ∧ (0x100 : CanId).toNat / 64 = 4)
      ∧ frameAccepted awake.env.cfg (frame 0x140 [0x00]) = true ∧ (0x140 : CanId).toNat / 64 = 5 := by
  decide +kernel

/-- The discards of R157: a segment above 0 that nothing expects, a STOP with content, a POWER-LIMIT in two. -/
theorem witness_FramesBringTheMessages_discards :
    ([frame 0x80 [0x11, 1], frame 0x140 [0x00, 1], frame 0x40 [0x11, 1]].all fun f =>
        frameAccepted awake.env.cfg f) = true
      ∧ postKind ((0x80 : CanId).toNat / 64) = some .authVerdict
      ∧ awake.core.link.assembly .authVerdict = none ∧ 1 ≤ (0x11 : Byte).toNat / 16
      ∧ postKind ((0x140 : CanId).toNat / 64) = some .stop ∧ messageFits .stop 1 1 = false
      ∧ postKind ((0x40 : CanId).toNat / 64) = some .powerLimit
      ∧ (let asm : Assembly := { count := 2, next := 1, content := [0] }
        (awake.onCore fun c => c.onLink fun l => l.setAssembly .powerLimit (some asm)
          ).core.link.assembly .powerLimit = some asm
          ∧ asm.next = (0x11 : Byte).toNat / 16 ∧ asm.count = (0x11 : Byte).toNat % 16 + 1
          ∧ asm.count = asm.next + 1 ∧ messageFits .powerLimit asm.count 2 = false)
      ∧ 5 < (0x180 : CanId).toNat / 64 ∧ (frame 0x40 []).data = [] := by decide +kernel

theorem witness_PostLimitTimeAndTick :
    (timed.core.up = true ∧ timed.core.meter.timeValid = true
        ∧ timed.core.meter.time.toNat ≤ (940 : Word).toNat + 60
        ∧ (1060 : Word).toNat ≤ timed.core.meter.time.toNat + 60)
      ∧ ((939 : Word).toNat + 60 < timed.core.meter.time.toNat
        ∧ timed.core.meter.time.toNat + 60 < (1061 : Word).toNat)
      ∧ awake.core.sup.held = none ∧ held.core.sup.retentionValid = true
      ∧ held.core.sup.held.isSome = true
      ∧ (held.onCore fun c => c.onSup fun p => { p with retentionValid := false }
          ).core.sup.retentionValid = false := by decide

theorem witness_LinkTimersExpire :
    (attached.core.up = true ∧ attached.core.link.aliveTimer.isSome = true
        ∧ attached.core.link.state = .alive)
      ∧ (let s := charging.onCore fun c => c.onLink fun l =>
          { l with postTimer := some 5000, statusTimer := some 1000 }
        s.core.up = true ∧ s.core.link.postTimer.isSome = true
          ∧ s.core.link.statusTimer.isSome = true ∧ s.core.sup.power = .active
          ∧ s.core.session.state ≠ .idle ∧ s.core.link.status.state ≠ .sending) := by decide

/-- A slot that waits, one whose message is on the bus, and one with a successor. -/
theorem witness_TransmitSlotsSendOrAbandon :
    (let s := sending (slotOf .waiting (message 0 (some 500)));
      s.core.up = true ∧ s.core.link.slot .authRequest = slotOf .waiting (message 0 (some 500))
        ∧ (slotOf .waiting (message 0 (some 500))).message = some (message 0 (some 500))
        ∧ (message 0 (some 500)).timer.isSome = true
        ∧ ([TxKind.status, .authRequest, .sessionSummary].all fun j =>
          (s.core.link.slot j).state != .sending) = true
        ∧ ([TxKind.status].all fun j => (s.core.link.slot j).state != .waiting) = true)
      ∧ (let s := sending (slotOf .sending (message 1 (some 500)))
        s.core.link.slot .authRequest = slotOf .sending (message 1 (some 500))
          ∧ (slotOf .sending (message 1 (some 500))).replaced = false
          ∧ (slotOf .sending (message 1 (some 500))).successor = none
          ∧ ([TxKind.status, .sessionSummary].all fun j =>
            (s.core.link.slot j).state != .sending) = true
          ∧ (message 1 (some 500)).next + 1 = segmentCount (message 1 (some 500)).content)
      ∧ (message 0 (some 500)).next + 1 ≠ segmentCount (message 0 (some 500)).content
      ∧ (message 1 none).timer = none ∧ TxOutcome.failed ≠ .acknowledged
      ∧ ({ slotOf .sending (message 1 none) with
          replaced := true, successor := some (message 0 (some 500)) }).successor.isSome = true := by
  decide +kernel

theorem witness_ResetsHoldThePart :
    awake.core.sup.held = none ∧ held.core.sup.held.isSome = true
      ∧ awake.core.session.state ≠ .stopping
      ∧ stopping.core.sup.held = none ∧ stopping.core.session.state = .stopping
      ∧ stopping.core.session.endReason = some .vehicleStop ∧ StopCause.vehicleStop ≠ .supplyLoss := by
  decide

/-- Held in reset out of a session, with a record open. -/
def interrupted : State := charging.onCore (takeReset .pin)

theorem witness_ResetExitKeepsTheRetentionArea :
    (let s := held.onCore fun c => c.onSup fun p => { p with retentionValid := false };
      s.core.sup.held = some .pin ∧ s.core.sup.retentionValid = false)
      ∧ interrupted.core.sup.held = some .pin ∧ interrupted.core.sup.retentionValid = true
      ∧ interrupted.core.meter.openRec = some (opened []) ∧ (opened []).closeRequested = false
      ∧ interrupted.core.queue.room = true
      ∧ (∀ o, held.core.meter.openRec = some o → o.closeRequested = true)
      ∧ (interrupted.onCore fun c =>
          { c with queue :=
            { queue := List.replicate 8 (closedRecord 57), held := some (closedRecord 64) } }
          ).core.queue.room = false :=
  ⟨by decide, by decide, by decide, by decide +kernel, rfl, by decide,
    fun _ h => by simp [held, blocks, awake, takeReset, Core.onSup, State.onCore, Meter.reset] at h,
    by decide +kernel⟩

theorem witness_WakeMakesThePartActive :
    sleeping.core.sup.held = none ∧ sleeping.core.sup.power = .sleep
      ∧ (false || true || false) = true ∧ (0x04 : Byte) = maskOf 8 [false, false, true, false] := by
  decide

/-- The premises of the five invariants hold in a part that has work to do, and a step there goes on. -/
theorem witness_StepsKeepTheInvariants :
    (let s := charging.withPending [.allocationTimerExpiry];
      s.core.queue.Fits ∧ AllowFits s.core.auth.allowList ∧ s.fport.Fits ∧ s.core.alloc.record.Fits
        ∧ s.core.session.Fits ∧ s.core.HeaterFits ∧ s.core.meter.Fits ∧ ∃ t, step s = .next t) := by
  refine ⟨?_, ?_, ?_, ?_, ?_, ?_, ?_, _, rfl⟩
  · unfold ExportQueue.Fits; decide
  · unfold AllowFits; decide
  · unfold FleetPort.Fits; decide
  · exact ⟨by decide, by decide, by decide, fun _ h => by cases h⟩
  · unfold Session.Fits; decide
  · unfold Core.HeaterFits; decide
  · intro o h
    cases h
    unfold LinesFit
    decide

end Sys2Proof.Tests
end

section
/-! PROOFS. The pilot capture (R11 to R16) and the zones (R4 to R6): what one edge, one period and one window do. -/

namespace Sys2Proof.Machine

/-! ### The capture unit takes a period (R11 to R14) -/

/-- Two duties agree exactly when neither exceeds the other by more than 10 permille. -/
theorem near_iff {a b : Nat} : near a b = true ↔ a ≤ b + 10 ∧ b ≤ a + 10 := by
  rw [near, decide_eq_true_iff, distance]; omega

/-- A period of 900 to 1,100 ticks with one falling edge has a duty (R11, R12). -/
theorem closedPeriod_valid {m : Mfe} {last capture fall : Word} (h1 : 900 ≤ (capture - last).toNat)
    (h2 : (capture - last).toNat ≤ 1100) (hn : m.fallCount = 1) (hf : m.fallCapture = some fall) :
    closedPeriod m last capture = some ((fall - last).toNat * 1000 / (capture - last).toNat) := by
  simp only [closedPeriod, hf, h1, h2, hn, and_self, if_true]

/-- Every other period is invalid (R11). -/
theorem closedPeriod_invalid {m : Mfe} {last capture : Word}
    (h : ¬ (900 ≤ (capture - last).toNat ∧ (capture - last).toNat ≤ 1100 ∧ m.fallCount = 1)) :
    closedPeriod m last capture = none := by
  unfold closedPeriod
  split
  · exact if_neg h
  · rfl

/-- Outside STATIC a rising edge after another one closes a period (R11). -/
theorem unitAtRise_closes {m : Mfe} {last : Word} (capture : Word) (hs : m.unit ≠ .static)
    (hl : m.lastRising = some last) :
    unitAtRise capture m = takePeriod (closedPeriod m last capture) m := by
  unfold unitAtRise
  cases hu : m.unit with
  | static => exact absurd hu hs
  | acquiring => simp only [hl]
  | locked => simp only [hl]

/-- The third duty of a run that agrees locks the unit (R13). -/
theorem acquire_locks {m : Mfe} {a b d : Nat} (hr : m.run = [a, b]) (hab : near a b = true)
    (hbd : near b d = true) (had : near a d = true) :
    acquire (some d) m =
      { m with
        run := [a, b, d], unit := .locked, accepted := some d, candidate := none, invalidCount := 0
        offer := offerOf d, offerValid := true } := by
  simp [acquire, hr, runAgrees, hab, hbd, had]

/-- A period near the accepted duty confirms it (R14). -/
theorem lockedValid_confirms {m : Mfe} {a d : Nat} (ha : m.accepted = some a) (h : near d a = true) :
    lockedValid d m = { m with invalidCount := 0, candidate := none } := by
  simp [lockedValid, ha, h]

/-- A period near neither the accepted duty nor a candidate becomes the candidate (R14). -/
theorem lockedValid_newCandidate {m : Mfe} {a d : Nat} (ha : m.accepted = some a)
    (h : near d a = false) (hc : ∀ c, m.candidate = some c → near d c = false) :
    lockedValid d m = { m with invalidCount := 0, candidate := some d } := by
  cases hm : m.candidate with
  | none => simp [lockedValid, ha, h, hm]
  | some c => simp [lockedValid, ha, h, hm, hc c hm]

/-- A second period near the candidate changes the accepted duty and its offer (R14). -/
theorem lockedValid_changes {m : Mfe} {a c d : Nat} (ha : m.accepted = some a) (h : near d a = false)
    (hc : m.candidate = some c) (h' : near d c = true) :
    lockedValid d m =
      { m with invalidCount := 0, accepted := some d, candidate := none, offer := offerOf d } := by
  simp [lockedValid, ha, h, hc, h']

/-! ### What a capture command answers (R16) -/

/-- A capture command in a part that is up: the front end changes, and the change of its offer is delivered. -/
theorem captureStep_done {s : State} (f : Mfe → Mfe) (hu : s.core.up = true) :
    (s.captureStep f).done = .next (State.settle
      { s with
        env := { s.env with mfe := f s.env.mfe }
        core := deliverOffer s.env.mfe.offer s.env.mfe.offerValid
          { s.env with mfe := f s.env.mfe } s.core }) := by
  simp only [State.captureStep, hu, if_true]; rfl

/-- An offer that stays is not delivered (R16). -/
theorem deliverOffer_same {before : Nat} {valid : Bool} {e : Env} (c : Core)
    (ho : e.mfe.offer = before) (hv : e.mfe.offerValid = valid) :
    deliverOffer before valid e c = c := if_pos ⟨ho, hv⟩

/-- A capture command that leaves the offer as it is changes the front end alone. -/
theorem captureStep_keepsOffer {s : State} {f : Mfe → Mfe} {m : Mfe} (hu : s.core.up = true)
    (hm : f s.env.mfe = m) (ho : m.offer = s.env.mfe.offer)
    (hv : m.offerValid = s.env.mfe.offerValid) :
    (s.captureStep f).done = .next (State.settle { s with env := { s.env with mfe := m } }) := by
  subst hm
  rw [captureStep_done f hu, deliverOffer_same s.core ho hv]

/-- A capture command changes the front end as its unit says, and leaves fleet port and queue. -/
theorem captureStep_env {s : State} {f : Mfe → Mfe} {m : Mfe} (hu : s.core.up = true)
    (hm : f s.env.mfe = m) :
    ∃ t, (s.captureStep f).done = .next t
      ∧ t.fport = s.fport ∧ t.pending = s.pending ∧ t.env = { s.env with mfe := m } :=
  ⟨_, captureStep_done f hu, rfl, rfl, by rw [← hm]; rfl⟩

/-- A rising edge outside STATIC, through the period that it closes (R11). -/
theorem risingEdge_closes {m : Mfe} {last : Word} (capture : Word) (hs : m.unit ≠ .static)
    (hl : m.lastRising = some last) :
    risingEdge capture m =
      { takePeriod (closedPeriod m last capture) m with
        captureCounter := capture, lastRising := some capture, fallCount := 0, fallCapture := none
        staticTimer := some 5 } := by
  unfold risingEdge
  rw [unitAtRise_closes capture hs hl]

/-! ### Edges -/

/-- Settles O8. -/
theorem pilotEdgesAreCaptured : Obligations.PilotEdgesAreCaptured := by
  intro capture s hu
  refine ⟨fun hl => ?_, fun hs => ?_⟩
  · exact captureStep_keepsOffer (f := fallingEdge capture) hu (if_pos hl) rfl rfl
  · refine captureStep_keepsOffer (f := risingEdge capture) hu ?_ rfl rfl
    simp only [risingEdge, unitAtRise, hs]

/-- Settles O9, by the lemma about the period that each clause closes. -/
theorem thirdAgreeingDutyLocks : Obligations.ThirdAgreeingDutyLocks := by
  intro capture last fall d s hu hl h1 h2 hn hf hd
  have hp : closedPeriod s.env.mfe last capture = some d := by rw [closedPeriod_valid h1 h2 hn hf, hd]
  refine ⟨fun a b hun hr h3 h4 h5 h6 h7 h8 => ?_, fun a hun ha => ⟨fun h3 h4 => ?_, fun h3 => ?_⟩⟩
  · refine captureStep_env (f := risingEdge capture) hu ?_
    rw [risingEdge_closes capture (by simp [hun]) hl, hp]
    simp only [takePeriod, hun]
    rw [acquire_locks hr (near_iff.2 ⟨h3, h4⟩) (near_iff.2 ⟨h5, h6⟩) (near_iff.2 ⟨h7, h8⟩), offerOf]
  all_goals have hrise := risingEdge_closes (m := s.env.mfe) capture (by simp [hun]) hl
  all_goals rw [hp, takePeriod, hun] at hrise
  · refine captureStep_keepsOffer (f := risingEdge capture) hu ?_ rfl rfl
    rw [hrise]
    simp only [lockedValid_confirms ha (near_iff.2 ⟨h4, h3⟩)]
  · have hfar {x : Nat} (h : d + 10 < x ∨ x + 10 < d) : near d x = false := by
      rw [← Bool.not_eq_true, near_iff]; omega
    refine ⟨fun hc => ?_, fun c hc h4 h5 => ?_⟩
    · refine captureStep_keepsOffer (f := risingEdge capture) hu ?_ rfl rfl
      rw [hrise]
      simp only [lockedValid_newCandidate ha (hfar h3) fun c hm => hfar (hc c hm)]
    · refine captureStep_env (f := risingEdge capture) hu ?_
      rw [hrise]
      simp only [lockedValid_changes ha (hfar h3) hc (near_iff.2 ⟨h5, h4⟩), offerOf]

/-! ### A zone takes a window (R4, R5) -/

/-- The temperatures of a window are its samples, each of which is a temperature (R4). -/
theorem allTemps_eq_some {l : List ZoneSample} {temps : List Int} :
    allTemps l = some temps ↔ l = temps.map .temp := by
  induction l generalizing temps with
  | nil => simp [allTemps, eq_comm]
  | cons x l ih =>
    cases x with
    | temp t =>
      cases temps with
      | nil => simp [allTemps]
      | cons u us =>
        rw [List.map_cons, List.cons.injEq, ZoneSample.temp.injEq, ← ih, allTemps]
        cases allTemps l <;> simp
    | openBand => cases temps <;> simp [allTemps]
    | shortBand => cases temps <;> simp [allTemps]

/-- A window of temperatures converts (R4). -/
theorem allTemps_of_temps {l : List ZoneSample} (h : ∀ x ∈ l, ∃ t, x = .temp t) :
    ∃ temps, allTemps l = some temps := by
  induction l with
  | nil => exact ⟨[], rfl⟩
  | cons x l ih =>
    obtain ⟨t, rfl⟩ := h x List.mem_cons_self
    obtain ⟨temps, hl⟩ := ih fun y hy => h y (List.mem_cons_of_mem _ hy)
    exact ⟨t :: temps, by rw [allTemps, hl, Option.map_some]⟩

/-- A sample is in range: a temperature of -40.0 to 85.0 degrees (R4). -/
def SampleInRange (x : ZoneSample) : Prop := ∃ t : Int, x = .temp t ∧ -400 ≤ t ∧ t ≤ 850

/-- A window is in range exactly when each of its samples is (R4). -/
theorem classifyZone_inRange {before : Option Int} {l : List ZoneSample} :
    (classifyZone before l).2 = true ↔ ∀ x ∈ l, SampleInRange x := by
  unfold classifyZone
  split
  case h_1 temps h =>
    rw [allTemps_eq_some.1 h]
    simp [SampleInRange]
  case h_2 h =>
    refine iff_of_false Bool.false_ne_true fun hall => ?_
    obtain ⟨temps, htemps⟩ := allTemps_of_temps fun x hx => (hall x hx).imp fun _ ht => ht.1
    rw [h] at htemps
    cases htemps

/-- An INVALID zone counts an in-range window and is VALID at the tenth (R5). -/
theorem moveZone_recovers {z : Zone} (value : Int) (h : z.validity = .invalid) :
    moveZone z value true =
      { validity := if z.recovery + 1 = 10 then .valid else .invalid
        recovery := z.recovery + 1
        value := some value } := by
  simp only [moveZone, h]

/-- A window out of range makes every zone INVALID, its count 0 (R5). -/
theorem moveZone_outOfRange (z : Zone) (value : Int) :
    (moveZone z value false).validity = .invalid ∧ (moveZone z value false).recovery = 0 := by
  cases h : z.validity <;> simp [moveZone, h]

/-- In-range windows are counted one by one up to ten, and a zone of count ten is VALID (R5). -/
theorem foldl_windowZone_recovers {z : Zone} {ws : List (Vector ZoneSample 100)}
    (hz : z.validity = if z.recovery = 10 then .valid else .invalid)
    (hlen : z.recovery + ws.length ≤ 10) (hin : ∀ w ∈ ws, ∀ x ∈ w.toList, SampleInRange x) :
    (ws.foldl windowZone z).recovery = z.recovery + ws.length
      ∧ (ws.foldl windowZone z).validity =
        if z.recovery + ws.length = 10 then .valid else .invalid := by
  induction ws generalizing z with
  | nil => exact ⟨rfl, hz⟩
  | cons w ws ih =>
    rw [List.length_cons] at hlen
    rw [if_neg (by omega)] at hz
    have hw : (classifyZone z.value w.toList).2 = true :=
      classifyZone_inRange.2 (hin w List.mem_cons_self)
    have hstep : windowZone z w =
        { validity := if z.recovery + 1 = 10 then .valid else .invalid
          recovery := z.recovery + 1
          value := some (classifyZone z.value w.toList).1 } := by
      rw [windowZone, hw, moveZone_recovers _ hz]
    have hrest := ih (z := windowZone z w) (by rw [hstep]) (by rw [hstep]; simp only; omega)
      fun v hv => hin v (List.mem_cons_of_mem _ hv)
    rw [List.foldl_cons, List.length_cons, hrest.1, hrest.2, hstep]
    simp only [Nat.add_assoc, Nat.add_comm 1, and_self]

/-- Settles O7. -/
theorem zoneRecoversInTenWindows : Obligations.ZoneRecoversInTenWindows := by
  refine ⟨fun z ws hz h0 hlen hin => ?_, fun z w hout => ?_⟩
  · have h := foldl_windowZone_recovers (by rw [h0, if_neg (by decide), hz])
      (by rw [h0, Nat.zero_add]; exact hlen) hin
    rw [h0, Nat.zero_add] at h
    exact h
  · obtain ⟨x, hx, hout⟩ := hout
    have hw : (classifyZone z.value w.toList).2 = false := by
      refine Bool.eq_false_iff.2 fun h => ?_
      obtain ⟨t, ht, hlo, hhi⟩ := classifyZone_inRange.1 h x hx
      have := hout t ht
      omega
    rw [windowZone, hw]
    exact moveZone_outOfRange z _

end Sys2Proof.Machine
end

section
/-! PROOFS. The rules of the session's operations: what a change of state, a pause cause, a stop cause, a close and
the end of an event do to the session record, and what of the other blocks they leave alone. -/

namespace Sys2Proof.Machine

/-! ### Sets as masks (R192) -/

/-- A set of one member holds that member alone. -/
theorem hasBit_bit {n i j : Nat} (hj : j < n) : hasBit (bit n i) j = decide (i = j) := by
  rw [hasBit, bit, BitVec.getLsbD_ofNat, Nat.testBit_two_pow, decide_eq_true hj, Bool.true_and]

/-- Putting a member in or out leaves the other members. -/
theorem hasBit_putBit {n i j : Nat} (m : BitVec n) (on : Bool) (hj : j < n) :
    hasBit (putBit m i on) j = if i = j then on else hasBit m j := by
  have hb : (bit n i).getLsbD j = decide (i = j) := hasBit_bit hj
  unfold putBit hasBit
  cases on
  · rw [if_neg Bool.false_ne_true, BitVec.getLsbD_and, BitVec.getLsbD_not, hb]
    by_cases h : i = j <;> simp [h, hj]
  · rw [if_pos rfl, BitVec.getLsbD_or, hb]
    by_cases h : i = j <;> simp [h]

/-- A set that holds a member is not empty. -/
theorem ne_zero_of_hasBit {n i : Nat} {m : BitVec n} (h : hasBit m i = true) : m ≠ 0 := by
  rintro rfl
  simp [hasBit] at h

/-! ### A change of the session state (R20, R31, R44) -/

@[simp] theorem Session.moveTo_state (new : SessionState) (s : Session) : (s.moveTo new).state = new := rfl
@[simp] theorem Session.moveTo_endReason (new : SessionState) (s : Session) :
    (s.moveTo new).endReason = s.endReason := rfl
@[simp] theorem Session.moveTo_faultsSeen (new : SessionState) (s : Session) :
    (s.moveTo new).faultsSeen = s.faultsSeen := rfl
@[simp] theorem Session.moveTo_pauseCauses (new : SessionState) (s : Session) :
    (s.moveTo new).pauseCauses = s.pauseCauses := rfl
@[simp] theorem Session.moveTo_pauseTimer (new : SessionState) (s : Session) :
    (s.moveTo new).pauseTimer = if new == .paused then some 600000 else none := rfl
@[simp] theorem Session.moveTo_contactor (new : SessionState) (s : Session) :
    (s.moveTo new).contactor = s.contactor := rfl
@[simp] theorem Session.moveTo_converterLatch (new : SessionState) (s : Session) :
    (s.moveTo new).converterLatch = s.converterLatch := rfl
@[simp] theorem Session.moveTo_request (new : SessionState) (s : Session) :
    (s.moveTo new).request = s.request := rfl
@[simp] theorem Session.moveTo_confirmTimer (new : SessionState) (s : Session) :
    (s.moveTo new).confirmTimer = s.confirmTimer := rfl

/-- A change of state moves the session record and nothing else in it. -/
@[simp] theorem changeState_session (e : Env) (new : SessionState) (c : Core) :
    (changeState e new c).session = c.session.moveTo new := by simp [changeState]

/-- On leaving the running pair the allocation record keeps all but the ramp (R78, R79). -/
theorem changeState_record (e : Env) (new : SessionState) (c : Core) :
    (changeState e new c).alloc.record =
      if c.session.state.powered && !new.powered then
        { c.alloc.record with rampValid := false, pendingIncrease := none }
      else c.alloc.record := by
  simp only [changeState, reportFall_alloc, allocFollow]
  split <;> simp [leavePowered]

@[simp] theorem changeState_pInLim (e : Env) (new : SessionState) (c : Core) :
    (changeState e new c).alloc.record.pInLim = c.alloc.record.pInLim := by
  rw [changeState_record]; split <;> rfl

@[simp] theorem setContactor_session (k : Contactor) (c : Core) :
    (setContactor k c).session = { c.session with contactor := k } := by simp [setContactor]

/-! ### Pauses and the running state (R28 to R31) -/

/-- The running pair keeps pause causes (R30). -/
theorem SessionState.live_of_powered {x : SessionState} (h : x.powered = true) : x.live = true := by
  cases x <;> simp_all [SessionState.powered, SessionState.live]

/-- In the states that keep pause causes the set takes or loses one (R30). -/
theorem setPause_live {c : Core} (p : PauseCause) (on : Bool) (h : c.session.state.live = true) :
    setPause p on c
      = c.onSession fun s => { s with pauseCauses := putBit s.pauseCauses p.code on } := if_pos h

/-- The other states keep no pause causes (R30). -/
theorem setPause_notLive {c : Core} (p : PauseCause) (on : Bool) (h : c.session.state.live = false) :
    setPause p on c = c := if_neg (by simp [h])

/-- A pause cause pauses the running pair (R30). -/
theorem settlePause_powered {e : Env} {c : Core} (h : c.session.state.powered = true)
    (hp : c.session.pauseCauses ≠ 0) : settlePause e c = changeState e .paused c := by
  unfold settlePause
  cases hs : c.session.state <;> simp_all [SessionState.powered]

/-- The running pair without a cause and a pause with one stay (R30, R31). -/
theorem settlePause_stays {e : Env} {c : Core}
    (hrun : c.session.state.powered = true → c.session.pauseCauses = 0)
    (hpaused : c.session.state = .paused → c.session.pauseCauses ≠ 0) : settlePause e c = c := by
  unfold settlePause
  cases hs : c.session.state <;> simp_all [SessionState.powered]

/-- Charging is permitted from the permit temperature up, with charge enabled (R28, R29). -/
theorem chargePermitted_iff {e : Env} {s : Session} :
    chargePermitted e s = true ↔
      s.chargeEnable = true ∧ ∃ v : Int, e.mfe.tMin = some v ∧ e.cfg.permitTemp ≤ v := by
  unfold chargePermitted
  cases e.mfe.tMin <;> simp

/-- Charging is lost without charge enable, without T_min or more than 20 dC below the permit temperature (R29). -/
theorem chargeLost_eq_false_iff {e : Env} {s : Session} :
    chargeLost e s = false ↔
      s.chargeEnable = true ∧ ∃ v : Int, e.mfe.tMin = some v ∧ e.cfg.permitTemp - 20 ≤ v := by
  unfold chargeLost
  cases e.mfe.tMin <;> simp

/-- The running state is one that keeps pause causes (R28). -/
theorem runningChoice_live (e : Env) (s : Session) : (runningChoice e s).live = true := by
  unfold runningChoice
  split
  · rfl
  · split <;> rfl

/-- A confirmed close (R27) moves the session to its running state (R28). -/
theorem confirmClose_session (e : Env) (c : Core) :
    (confirmClose e c).session =
      ({ c.session with contactor := .closed, confirmTimer := none } : Session).moveTo
        (runningChoice e c.session) := by
  simp [confirmClose, chooseRunning, runningChoice, chargePermitted, Session.chargeEnable]

/-! ### Allocations (R62, R69) -/

/-- Outside the states that keep pause causes a limit is not reported (R69). -/
theorem reportLimit_notLive {e : Env} {c : Core} (h : c.session.state.live = false) :
    reportLimit e c = c := by
  rw [reportLimit, setPause_notLive _ _ h]
  exact settlePause_stays (fun hp => absurd (SessionState.live_of_powered hp) (by simp [h]))
    (fun hp => absurd h (by simp [hp, SessionState.live]))

/-- Outside the states that keep pause causes an allocation leaves the session. -/
theorem allocate_session_notLive {immediate : Bool} {e : Env} {c : Core}
    (h : c.session.state.live = false) : (allocate immediate e c).session = c.session := by
  rw [allocate, reportLimit_notLive (by simpa using h)]; simp

theorem allocate_record_notLive {immediate : Bool} {e : Env} {c : Core}
    (h : c.session.state.live = false) :
    (allocate immediate e c).alloc.record = nextRecord immediate e c := by
  rw [allocate, reportLimit_notLive (by simpa using h)]; simp

/-- An allocation that finds no power at the inlet pauses the running pair with LIMIT-ZERO (R69, R30). -/
theorem allocate_zeroLimit {immediate : Bool} {e : Env} {c : Core}
    (hp : c.session.state.powered = true) (h0 : (nextRecord immediate e c).pInLim = 0) :
    (allocate immediate e c).session =
        ({ c.session with
            pauseCauses := putBit c.session.pauseCauses PauseCause.limitZero.code true }
          : Session).moveTo .paused
      ∧ (allocate immediate e c).alloc.record.pInLim = 0 := by
  have hne : putBit c.session.pauseCauses PauseCause.limitZero.code true ≠ 0 :=
    ne_zero_of_hasBit (i := PauseCause.limitZero.code) (by rw [hasBit_putBit _ _ (by decide)]; rfl)
  rw [allocate, reportLimit, setPause_live _ _ (by simpa using SessionState.live_of_powered hp),
    settlePause_powered (by simpa using hp) (by simpa [h0] using hne)]
  simp [h0]

/-- Without a pilot term the inlet limit is 0, whatever binds and derates it (R65, R69, R70). -/
theorem limitRecord_noPilot {e : Env} {c : Core} (h : pilotTerm e = 0) :
    (limitRecord e c).pInLim = 0 := by
  have htight (b : Binding) (term : Option Nat) (best : Nat × Binding) (h0 : best.1 = 0) :
      (tighter b term best).1 = 0 := by
    unfold tighter
    split
    · rw [if_neg (by omega)]; exact h0
    · exact h0
  have hbest : (smallestTerm (pilotTerm e) (cableTerm e) (postTerm e c.link) (spendTerm e c.meter)
      e.cfg.pCfg).1 = 0 :=
    htight _ _ _ (htight _ _ _ (htight _ _ _ (htight _ _ _ h)))
  simp only [limitRecord, hbest]
  cases deratingOf c.mon.result <;> rfl

/-! ### The stop sequence (R32 to R37) -/

@[simp] theorem beginOpening_session (c : Core) :
    (beginOpening c).session =
      { c.session with contactor := .opening, waitTimer := none, confirmTimer := some 100 } := by
  simp [beginOpening]

/-- The request for a record's close changes the pending close alone in the session (R139). -/
theorem closeRecord_session (e : Env) (c : Core) :
    ∃ b, (closeRecord e c).session = { c.session with closePending := b } := by
  unfold closeRecord
  split
  · exact ⟨false, rfl⟩
  · split
    · exact ⟨c.session.closePending, rfl⟩
    · simp only
      split
      · exact ⟨false, by simp [handOver]⟩
      · exact ⟨c.session.closePending, rfl⟩

/-- At the end of the stop sequence the session record is CLOSED, its record's close pending or done (R37). -/
theorem enterClosed_session (e : Env) (c : Core) :
    ∃ b, (enterClosed e c).session = { c.session.moveTo .closed with closePending := b } := by
  obtain ⟨b, hb⟩ := closeRecord_session e (monitorOnClosed e (authOnClosed
    ((changeState e .closed c).onSession fun s => { s with closePending := true })))
  exact ⟨b, by simp only [enterClosed, resetIfDeferred_session, hb]; simp⟩

/-- The session record at the entry to STOPPING, before the contactor is dealt with (R34). -/
def Session.stopped (cause : StopCause) (s : Session) : Session :=
  { ({ s with endReason := some cause } : Session).moveTo .stopping with pauseCauses := 0 }

/-- The entry to STOPPING gives up the allocation and ends with the contactor (R34). -/
theorem enterStopping_split (e : Env) (cause : StopCause) (c : Core) :
    ∃ d, enterStopping e cause c = startOpening e cause d
      ∧ d.session = c.session.stopped cause ∧ d.alloc.record = AllocRecord.zero
      ∧ d.queue = c.queue ∧ d.sup = c.sup := by
  refine ⟨_, rfl, ?_, ?_, ?_, ?_⟩
  · rw [allocate_session_notLive (by simp; rfl)]
    simp [Session.stopped]
  · rw [allocate_record_notLive (by simp; rfl), nextRecord_zero (by simp)]
  all_goals simp

/-- A stop cause stops every live session (R32). -/
theorem stopCause_live {e : Env} {cause : StopCause} {c : Core} (h : c.session.state.live = true) :
    stopCause e cause c = enterStopping e cause c := by
  unfold stopCause
  cases hs : c.session.state <;> simp_all [SessionState.live]

/-- In STOPPING a further cause that does not open at once joins the faults seen (R33). -/
theorem stopCause_stopping {e : Env} {cause r : StopCause} {c : Core}
    (h : c.session.state = .stopping) (ha : cause.atOnce = false)
    (hr : c.session.endReason = some r) (hne : r ≠ cause) :
    (stopCause e cause c).session =
      { c.session with faultsSeen := c.session.faultsSeen ||| bit 16 cause.code } := by
  simp [stopCause, h, ha, addFault, hr, hne]

/-- With the contactor CLOSED a cause that does not open at once stops on the current (R32, R34). -/
theorem stopCause_stopsOnCurrent {e : Env} {cause : StopCause} {c : Core}
    (hl : c.session.state.live = true) (hk : c.session.contactor = .closed)
    (ha : cause.atOnce = false) :
    (stopCause e cause c).session = { c.session.stopped cause with waitTimer := some 500 }
      ∧ (stopCause e cause c).alloc.record = AllocRecord.zero
      ∧ (stopCause e cause c).queue = c.queue ∧ (stopCause e cause c).sup = c.sup := by
  obtain ⟨d, hd, hses, hrec, hq, hsup⟩ := enterStopping_split e cause c
  have hk' : d.session.contactor = .closed := by rw [hses]; exact hk
  have hwait : startOpening e cause d = d.onSession fun s => { s with waitTimer := some 500 } := by
    simp only [startOpening, hk', ha, Bool.false_eq_true, if_false]
  rw [stopCause_live hl, hd, hwait]
  exact ⟨by rw [Core.onSession_session, hses], hrec, hq, hsup⟩

/-! ### The converter latch outlasts every stop (R42) -/

@[simp] theorem enterClosed_converterLatch (e : Env) (c : Core) :
    (enterClosed e c).session.converterLatch = c.session.converterLatch := by
  obtain ⟨b, hb⟩ := enterClosed_session e c
  rw [hb]; rfl

@[simp] theorem openContactor_converterLatch (e : Env) (c : Core) :
    (openContactor e c).session.converterLatch = c.session.converterLatch := by
  unfold openContactor
  split <;> simp [confirmOpen]

@[simp] theorem startOpening_converterLatch (e : Env) (cause : StopCause) (c : Core) :
    (startOpening e cause c).session.converterLatch = c.session.converterLatch := by
  unfold startOpening
  split
  · simp
  · simp
  · split <;> simp
  · rfl

@[simp] theorem stopCause_converterLatch (e : Env) (cause : StopCause) (c : Core) :
    (stopCause e cause c).session.converterLatch = c.session.converterLatch := by
  have hadd : (addFault cause c).session.converterLatch = c.session.converterLatch := by
    unfold addFault; split <;> simp
  have hstop : (enterStopping e cause c).session.converterLatch = c.session.converterLatch := by
    obtain ⟨d, hd, hses, -⟩ := enterStopping_split e cause c
    rw [hd, startOpening_converterLatch, hses]; rfl
  unfold stopCause
  split
  case h_1 | h_2 | h_3 | h_4 => exact hstop
  case h_5 => simp only; split <;> simp [hadd]
  case h_6 | h_7 | h_8 => rfl

/-! ### The end of an event (R24, R40) -/

/-- Nothing follows an event that leaves the session in a state that keeps pause causes (R24, R40). -/
theorem conclude_live {e : Env} {c : Core} (h : c.session.state.live = true) : conclude e c = c :=
  conclude_other (fun ha => by simp [ha, SessionState.live] at h)
    (fun hc => by simp [hc, SessionState.live] at h)

/-- A missing start condition keeps the session in ATTACHED (R24). -/
theorem evaluateStart_missing {e : Env} {c : Core} (h : missingStart e c ≠ 0) :
    evaluateStart e c = c := by
  have hm : (missingStart e c == 0) = false := beq_eq_false_iff_ne.2 h
  simp only [evaluateStart, hm, Bool.and_false, Bool.false_eq_true, if_false]

/-- The latch of a converter fault is a missing start condition (R24). -/
theorem missingStart_converterLatch {e : Env} {c : Core} (h : c.session.converterLatch = true) :
    missingStart e c ≠ 0 := fun hz => by
  have := maskOf_eq_zero (by simp) hz true (by simp [h])
  simp at this

/-- Two clear enables are a missing start condition (R24). -/
theorem missingStart_enables {e : Env} {c : Core} (hc : c.session.chargeEnable = false)
    (hh : c.session.heatEnable = false) : missingStart e c ≠ 0 := fun hz => by
  have := maskOf_eq_zero (by simp) hz true (by simp [hc, hh])
  simp at this

/-- The session record at the entry to IDLE (R23). -/
@[simp] theorem enterIdle_session (e : Env) (c : Core) :
    (enterIdle e c).session = { c.session.moveTo .idle with monitorFailure := false } := by
  simp [enterIdle]

/-- No event ends with a latched converter fault cleared (R42). -/
theorem conclude_converterLatch {e : Env} {c : Core} (h : c.session.converterLatch = true) :
    (conclude e c).session.converterLatch = true := by
  rw [conclude, evaluateStart_missing (missingStart_converterLatch h), leaveClosed]
  split
  · split
    · simpa using h
    · split
      · rw [evaluateStart_missing (missingStart_converterLatch (by simpa using h))]
        simpa using h
      · exact h
  · exact h

/-! ### The driven lines (R20, R81) -/

/-- Outside the running pair the converter is neither enabled nor commanded (R20, R81). -/
theorem linesOf_unpowered {c : Core} (h : c.session.state.powered = false) :
    (linesOf c).converterEnable = false ∧ (linesOf c).commandDuty = 0 := by
  unfold linesOf
  split
  · exact ⟨rfl, rfl⟩
  · simp [commandLine, h]

end Sys2Proof.Machine
end

section
/-! PROOFS. The loss of the offer (R14 to R16, R30, R63) and the digital inputs (R17, R18, R27, R38, R42). -/

namespace Sys2Proof.Machine

/-! ### The offer is withdrawn -/

/-- The first and the second invalid period running discard the candidate alone (R14). -/
theorem lockedInvalid_counts {m : Mfe} (h : m.invalidCount + 1 < 3) :
    lockedInvalid m = { m with candidate := none, invalidCount := m.invalidCount + 1 } :=
  if_neg (by omega)

/-- The third invalid period running loses the lock and the offer (R14). -/
theorem lockedInvalid_third {m : Mfe} (h : m.invalidCount = 2) :
    lockedInvalid m =
      { m with
        unit := .acquiring, run := [], accepted := none, candidate := none, invalidCount := 3
        offer := 0, offerValid := false } := if_pos (by omega)

/-- An offer that falls to 0 in the running pair: the allocator finds no power at the inlet, and the session pauses
with both causes (R16, R63, R30). -/
theorem deliverOffer_falls {before : Nat} {valid : Bool} {e : Env} {c : Core} (hb : 0 < before)
    (ho : e.mfe.offer = 0) (hv : e.mfe.offerValid = false) (hp : c.session.state.powered = true) :
    (deliverOffer before valid e c).session.state = .paused
      ∧ hasBit (deliverOffer before valid e c).session.pauseCauses PauseCause.offerZero.code = true
      ∧ hasBit (deliverOffer before valid e c).session.pauseCauses PauseCause.limitZero.code = true
      ∧ (deliverOffer before valid e c).alloc.record.pInLim = 0 := by
  have hlim : (nextRecord true e c).pInLim = 0 := by
    have hfull : nextRecord true e c = fullRecord true e c := by
      unfold nextRecord
      cases hs : c.session.state <;> simp_all [SessionState.powered]
    rw [hfull]
    exact limitRecord_noPilot (by simp [pilotTerm, hv])
  obtain ⟨hses, hrec⟩ := allocate_zeroLimit (immediate := true) hp hlim
  have hlive : (allocate true e c).session.state.live = true := by rw [hses]; rfl
  have hzero : offerZero e.mfe = true := by simp [offerZero, ho]
  have hcauses : ∀ i, i < 8 →
      hasBit (setPause .offerZero true (allocate true e c)).session.pauseCauses i
        = if PauseCause.offerZero.code = i then true
          else if PauseCause.limitZero.code = i then true else hasBit c.session.pauseCauses i := by
    intro i hi
    rw [setPause_live _ _ hlive, Core.onSession_session, hses]
    simp only [Session.moveTo_pauseCauses, hasBit_putBit _ _ hi]
  have hstate : (setPause .offerZero true (allocate true e c)).session.state = .paused := by
    rw [setPause_live _ _ hlive, Core.onSession_session, hses]; rfl
  have hstays : deliverOffer before valid e c = setPause .offerZero true (allocate true e c) := by
    rw [deliverOffer, if_neg (by omega), if_pos ⟨hb, ho⟩, hzero,
      settlePause_stays (by simp [hstate, SessionState.powered])
        fun _ => ne_zero_of_hasBit (i := 0) (by rw [hcauses 0 (by decide)]; rfl),
      conclude_other (by simp [hstate]) (by simp [hstate])]
  rw [hstays]
  exact ⟨hstate, by rw [hcauses _ (by decide)]; rfl, by rw [hcauses _ (by decide)]; rfl,
    by rw [setPause_alloc]; exact hrec⟩

/-- A capture command that takes the offer to 0, invalid: what it changes in the front end, and what a running
session does at the same event. -/
theorem captureStep_withdraws {s : State} {f : Mfe → Mfe} {m : Mfe} (hu : s.core.up = true)
    (hm : f s.env.mfe = m) (ho : m.offer = 0) (hv : m.offerValid = false) :
    ∃ t, (s.captureStep f).done = .next t
      ∧ t.fport = s.fport ∧ t.pending = s.pending ∧ t.env = { s.env with mfe := m }
      ∧ (0 < s.env.mfe.offer → s.core.session.state.powered = true →
        t.core.session.state = .paused
          ∧ hasBit t.core.session.pauseCauses PauseCause.offerZero.code = true
          ∧ hasBit t.core.session.pauseCauses PauseCause.limitZero.code = true
          ∧ t.core.alloc.record.pInLim = 0 ∧ t.lines.commandDuty = 0) := by
  subst hm
  refine ⟨_, captureStep_done f hu, rfl, rfl, rfl, fun hb hp => ?_⟩
  obtain ⟨hstate, hoff, hlim, hrec⟩ := deliverOffer_falls (valid := s.env.mfe.offerValid)
    (e := { s.env with mfe := f s.env.mfe }) hb ho hv hp
  exact ⟨hstate, hoff, hlim, hrec, (linesOf_unpowered (congrArg SessionState.powered hstate)).2⟩

/-- Settles O10. -/
theorem staticExpiryWithdrawsTheOffer : Obligations.StaticExpiryWithdrawsTheOffer := by
  intro s hu
  refine ⟨fun ht => ?_, fun capture last hun hl hinv => ?_⟩
  · exact captureStep_withdraws (f := staticExpiry) hu (if_pos ht) rfl rfl
  · have hrise := risingEdge_closes (m := s.env.mfe) capture (by simp [hun]) hl
    rw [closedPeriod_invalid hinv, takePeriod, hun] at hrise
    refine ⟨fun hc => ?_, fun hc => ?_⟩
    · refine captureStep_keepsOffer (f := risingEdge capture) hu ?_ rfl rfl
      rw [hrise]
      simp only [lockedInvalid_counts hc]
    · refine captureStep_withdraws (f := risingEdge capture) hu ?_ rfl rfl
      rw [hrise]
      simp only [lockedInvalid_third hc]

/-! ### Digital inputs -/

/-- A settled change to another level in a part that is up: the input takes its level and trigger, and its owner
acts (R17, R18). -/
theorem settledChange_done {s : State} {d : DigitalInput} {level : LineLevel} (hu : s.core.up = true)
    (h : (s.env.mfe.input d).level ≠ settledOf level) :
    (settledChange d level s).done = .next (State.settle
      { s with
        env := { s.env with mfe := s.env.mfe.setInput d (settledInput s d level) }
        core := inputChanged d s.env.mfe.aux.active (settledEvent s d level)
          { s.env with mfe := s.env.mfe.setInput d (settledInput s d level) } s.core }) := by
  rw [settledChange, if_neg h, if_pos hu]; rfl

/-- The auxiliary contact that becomes active in CLOSING confirms the close (R27). -/
theorem reviewAux_closing {e : Env} {c : Core} (hk : c.session.contactor = .closing)
    (h : e.mfe.aux.active = true) : reviewAux false e c = confirmClose e c := by
  simp [reviewAux, auxChanged, h, hk]

/-- The auxiliary contact that drops with the contactor CLOSED is CONTACTOR-FAIL (R38). -/
theorem reviewAux_drops {e : Env} {c : Core} (hk : c.session.contactor = .closed)
    (h : e.mfe.aux.active = false) : reviewAux true e c = stopCause e .contactorFail c := by
  simp [reviewAux, auxChanged, h, hk]

/-- A session that has stopped on the current, with the lines of its blocks (R20, R34). -/
theorem stoppedOnCurrent_of {cause : StopCause} {t : State} {x : Session}
    (hk : x.contactor = .closed)
    (hs : t.core.session = { x.stopped cause with waitTimer := some 500 })
    (hr : t.core.alloc.record = AllocRecord.zero) (hh : t.core.sup.held = none)
    (hl : t.lines = linesOf t.core) : StoppedOnCurrent cause t := by
  have hstate : t.core.session.state = .stopping := by rw [hs]; rfl
  have hcont : t.core.session.contactor = .closed := by rw [hs]; exact hk
  obtain ⟨hen, hduty⟩ := linesOf_unpowered (c := t.core) (by simp [hstate, SessionState.powered])
  refine ⟨hstate, by rw [hs]; rfl, by rw [hs]; rfl, by rw [hs]; rfl, hcont, by rw [hs], hr,
    by rw [hl, hen], by rw [hl, hduty], ?_, ?_⟩
  · simp [hl, linesOf, hh, pilotLoad, hstate]
  · simp [hl, linesOf, hh, contactorDrive, hstate, hcont]

/-- What the blocks read after a settled change of the auxiliary contact (R17, R18). -/
def State.auxEnv (s : State) (level : LineLevel) : Env :=
  { s.env with mfe := { s.env.mfe with
    aux := { level := settledOf level, trigger := s.env.cfg.auxTrigger } } }

/-- A settled change of the auxiliary contact whose effect on the blocks ends outside ATTACHED and CLOSED. -/
theorem auxSettled_done {s : State} {level : LineLevel} {c : Core} (hu : s.core.up = true)
    (hlev : s.env.mfe.aux.level ≠ settledOf level)
    (hc : reviewAux s.env.mfe.aux.active (s.auxEnv level) s.core = c)
    (ha : c.session.state ≠ .attached) (hcl : c.session.state ≠ .closed) :
    exec (.digitalInputSettledChange .contactorAux level) s =
      .next (State.settle { s with env := s.auxEnv level, core := c }) := by
  refine (settledChange_done (d := .contactorAux) hu hlev).trans ?_
  show Host.Outcome.next (State.settle
    { s with
      env := s.auxEnv level
      core := conclude (s.auxEnv level) (reviewAux s.env.mfe.aux.active (s.auxEnv level) s.core) }) = _
  rw [hc, conclude_other ha hcl]

/-- The contact that drops with the contactor CLOSED outside ATTACHED and CLOSED: CONTACTOR-FAIL (R38). -/
theorem auxDrop_done {s : State} {level : LineLevel} (hu : s.core.up = true)
    (hk : s.core.session.contactor = .closed) (haux : s.env.mfe.aux.active = true)
    (hlev : s.env.mfe.aux.level ≠ settledOf level)
    (hact : settledOf level ≠ s.env.cfg.auxTrigger.activeLevel)
    (hst : (stopCause (s.auxEnv level) .contactorFail s.core).session.state = .stopping) :
    exec (.digitalInputSettledChange .contactorAux level) s = .next (State.settle
      { s with
        env := s.auxEnv level
        core := stopCause (s.auxEnv level) .contactorFail s.core }) := by
  have hoff : (s.auxEnv level).mfe.aux.active = false := by simp [State.auxEnv, InputState.active, hact]
  refine auxSettled_done hu hlev ?_ (by simp [hst]) (by simp [hst])
  rw [haux, reviewAux_drops hk hoff]

/-- Settles O11, one clause for each input event. -/
theorem inputsReachTheSession : Obligations.InputsReachTheSession := by
  refine ⟨fun level s hu hk haux hlev hact => ?_,
    fun level s hu hk haux hlev hact => ⟨fun hst => ?_, fun r hst hr hne => ?_⟩,
    fun level s hu hlev hev => ?_⟩
  case refine_1 =>
    have hon : (s.auxEnv level).mfe.aux.active = true := by simp [State.auxEnv, InputState.active, hact]
    have hses := confirmClose_session (s.auxEnv level) s.core
    have hlive : (confirmClose (s.auxEnv level) s.core).session.state.live = true := by
      rw [hses]; exact runningChoice_live _ _
    refine ⟨_, auxSettled_done hu hlev (by rw [haux, reviewAux_closing hk hon])
      (fun h => by simp [h, SessionState.live] at hlive)
      (fun h => by simp [h, SessionState.live] at hlive), rfl, rfl, rfl, ?_, ?_, ?_⟩
    · rw [State.settle_core, hses]; rfl
    · rw [State.settle_core, hses]; rfl
    · rw [State.settle_core, hses]
      exact ite_congr rfl (fun _ => rfl) fun _ =>
        ite_congr (propext chargePermitted_iff) (fun _ => rfl) fun _ => rfl
  case refine_2 =>
    have hlive : s.core.session.state.live = true := by rcases hst with h | h | h <;> rw [h] <;> rfl
    obtain ⟨hses, hrec, hq, hsup⟩ :=
      stopCause_stopsOnCurrent (e := s.auxEnv level) (cause := .contactorFail) hlive hk rfl
    refine ⟨_, auxDrop_done hu hk haux hlev hact (by rw [hses]; rfl), ?_, hq⟩
    exact stoppedOnCurrent_of hk hses hrec ((congrArg Supply.held hsup).trans (held_of_up hu)) rfl
  case refine_3 =>
    have hses := stopCause_stopping (e := s.auxEnv level) hst rfl hr hne
    exact ⟨_, auxDrop_done hu hk haux hlev hact (by rw [hses]; exact hst), hses⟩
  case refine_4 =>
    refine ⟨_, settledChange_done (d := .converterFault) hu hlev, ?_, rfl⟩
    have hev' : settledEvent s .converterFault level = true := hev
    rw [hev']
    exact conclude_converterLatch (stopCause_converterLatch ..)

end Sys2Proof.Machine
end

section
/-! PROOFS. The measured values against their samples (R2, R3, R8), and the debounce of pilot level and cable code
(R9, R10). -/

namespace Sys2Proof.Machine

/-! ### Roots and RMS values (R2) -/

/-- The bits from `k` down of a root: what is found is a root from below, and the largest below the next power. -/
theorem rootFrom_spec (n k : Nat) :
    ∀ r, r * r ≤ n →
      rootFrom n k r * rootFrom n k r ≤ n ∧ rootFrom n k r < r + 2 ^ (k + 1)
        ∧ (n < (rootFrom n k r + 1) * (rootFrom n k r + 1) ∨ rootFrom n k r + 1 = r + 2 ^ (k + 1)) := by
  induction k with
  | zero =>
    intro r hr
    simp only [rootFrom]
    split
    · exact ⟨‹_›, by omega, .inr (by omega)⟩
    · exact ⟨hr, by omega, .inl (by omega)⟩
  | succ k ih =>
    intro r hr
    rw [rootFrom, Nat.pow_succ 2 (k + 1)]
    split
    case isTrue h =>
      obtain ⟨hle, hlt, hmax⟩ := ih _ h
      exact ⟨hle, by omega, hmax.imp_right fun h => by omega⟩
    case isFalse h =>
      obtain ⟨hle, hlt, hmax⟩ := ih r hr
      refine ⟨hle, by omega, .inl ?_⟩
      rcases hmax with hmax | hmax
      · exact hmax
      · rw [hmax]; omega

/-- The root is rounded down, and exact below 4,095. -/
theorem root_spec (n : Nat) :
    root n * root n ≤ n ∧ (root n < 4095 → n < (root n + 1) * (root n + 1)) := by
  obtain ⟨hle, -, hmax⟩ := rootFrom_spec n 11 0 (Nat.zero_le _)
  exact ⟨hle, fun h => hmax.resolve_right (by unfold root at h; omega)⟩

/-- An RMS value in a range within 4,095 is the root of the mean of the squares, rounded down and kept in range. -/
theorem rms_spec {top q : Nat} {l : List Int} (htop : top ≤ 4095)
    (hq : mean (l.map fun v => v * v) = q) :
    rms top l ≤ top ∧ rms top l * rms top l ≤ q
      ∧ (rms top l < top → q < (rms top l + 1) * (rms top l + 1)) := by
  obtain ⟨hle, hlt⟩ := root_spec q
  rw [rms, hq, Int.toNat_natCast]
  refine ⟨Nat.min_le_left .., ?_, fun h => ?_⟩
  · exact Nat.le_trans (Nat.mul_le_mul (Nat.min_le_right ..) (Nat.min_le_right ..)) hle
  · have hmin : min top (root q) = root q := by omega
    rw [hmin] at h ⊢
    exact hlt (by omega)

/-! ### Means and least samples (R2, R3, R8) -/

/-- The mean of a channel of 100 samples. -/
theorem mean_vector (v : Vector Int 100) : mean v.toList = v.toList.sum / 100 := by
  simp [mean]

/-- The mean of a channel with negative samples as 0. -/
theorem mean_floorZero (v : Vector Int 100) :
    mean (floorZero v.toList) = (v.toList.map fun x => max 0 x).sum / 100 := by
  simp [mean, floorZero]

/-- Samples with the negative ones as 0 have no negative sum. -/
theorem sum_floorZero_nonneg (l : List Int) : 0 ≤ (l.map fun x => max 0 x).sum := by
  induction l with
  | nil => exact Int.le_refl 0
  | cons x l ih => rw [List.map_cons, List.sum_cons]; omega

/-- The least of a list and a bound is below both. -/
theorem minFrom_le (b : Int) (l : List Int) : minFrom b l ≤ b ∧ ∀ v ∈ l, minFrom b l ≤ v := by
  unfold minFrom
  induction l generalizing b with
  | nil => simp
  | cons x l ih =>
    obtain ⟨hb, hl⟩ := ih (min b x)
    simp only [List.foldl_cons, List.forall_mem_cons]
    exact ⟨by omega, by omega, hl⟩

/-- The least of a list and a bound is the bound or of the list. -/
theorem minFrom_mem (b : Int) (l : List Int) : minFrom b l = b ∨ minFrom b l ∈ l := by
  unfold minFrom
  induction l generalizing b with
  | nil => simp
  | cons x l ih =>
    simp only [List.foldl_cons, List.mem_cons]
    rcases ih (min b x) with h | h
    · rw [h]; omega
    · exact .inr (.inr h)

/-- V_sup minimum is the least sample, kept in range (R8). -/
theorem vSupMin_spec (w : WindowSamples) :
    (∀ v ∈ w.supply.toList, ((measure w).vSupMin : Int) ≤ max 0 (min 200 v))
      ∧ ∃ v ∈ w.supply.toList, ((measure w).vSupMin : Int) = max 0 (min 200 v) := by
  obtain ⟨hb, hl⟩ := minFrom_le 200 w.supply.toList
  have hval : ((measure w).vSupMin : Int) = max 0 (min 200 (minFrom 200 w.supply.toList)) := by
    simp only [measure, clampInt]; omega
  refine ⟨fun v hv => ?_, ?_⟩
  · have := hl v hv
    omega
  · rcases minFrom_mem 200 w.supply.toList with h | h
    · have hmem : w.supply[0] ∈ w.supply.toList := by simp
      refine ⟨_, hmem, ?_⟩
      have := hl _ hmem
      omega
    · exact ⟨_, h, hval⟩

/-- V_bus is valid exactly when no sample reached the full scale (R3). -/
theorem busValid_iff {l : List Int} : busValid l = true ↔ ∀ v ∈ l, v < 6000 := by simp [busValid]

/-- V_in is the mean of the active phases, rounded down, and 0 without one (R2). -/
theorem meanActive_spec {volts active : List Nat} (h : active = volts.filter fun v => 1000 ≤ v) :
    (active = [] → meanActive volts = 0)
      ∧ (active ≠ [] → meanActive volts * active.length ≤ active.sum
        ∧ active.sum < meanActive volts * active.length + active.length) := by
  subst h
  refine ⟨fun h => by simp [meanActive, h], fun h => ?_⟩
  rw [meanActive, if_neg h]
  have hpos := List.length_pos_iff.2 h
  exact ⟨Nat.div_mul_le_self .., Nat.lt_div_mul_add hpos⟩

/-- Real power is the mean of the products in W, rounded down (R2). -/
theorem realPower_spec (p : PhaseSamples) :
    10000 * (phaseValues p).power
        ≤ (List.zipWith (fun v i => v * i) p.voltage.toList p.current.toList).sum
      ∧ (List.zipWith (fun v i => v * i) p.voltage.toList p.current.toList).sum
        < 10000 * (phaseValues p).power + 10000 := by
  simp only [phaseValues, realPower]; omega

/-! ### Debounce (R9, R10) -/

/-- DETACHED and PILOT-ERROR are published at their first window (R9). -/
theorem debouncePilot_atOnce (level change : Option PilotLevel) {b : PilotLevel}
    (h : b = .detached ∨ b = .pilotError) : debouncePilot level change b = (some b, none) := by
  unfold debouncePilot
  split
  · rfl
  · rcases h with rfl | rfl <;> rfl

/-- The first window of ATTACHED or LOADED is noted as a change (R9). -/
theorem debouncePilot_first {l b : PilotLevel} {change : Option PilotLevel} (hne : b ≠ l)
    (hch : change ≠ some b) (h : b = .attached ∨ b = .loaded) :
    debouncePilot (some l) change b = (some l, some b) := by
  unfold debouncePilot
  rw [if_neg (by simp [hne.symm])]
  rcases h with rfl | rfl <;> exact if_neg hch

/-- The window after a noted change: the same band is published, and so is one that needs no second window; any
other leaves the level (R9). -/
theorem debouncePilot_second {l b : PilotLevel} (b2 : PilotLevel)
    (h : b = .attached ∨ b = .loaded) :
    (debouncePilot (some l) (some b) b2).1 =
      some (if b2 = b ∨ b2 = .detached ∨ b2 = .pilotError then b2 else l) := by
  by_cases hat : b2 = .detached ∨ b2 = .pilotError
  · rw [debouncePilot_atOnce _ _ hat, if_pos (.inr hat)]
  have hb2 : b2 = .attached ∨ b2 = .loaded := by cases b2 <;> simp_all
  by_cases hl : b2 = l
  · subst hl; simp [debouncePilot]
  by_cases hb : b2 = b
  · subst hb
    rw [if_pos (.inl rfl)]
    rcases h with rfl | rfl <;> simp [debouncePilot]
  · rw [debouncePilot_first hl (by simpa using fun h => hb h.symm) hb2, if_neg (by simp [hb]; simpa using hat)]

/-- Ratings ascend as their codes (R10). -/
theorem ampere_le_iff {a b : CableCode} : a.ampere ≤ b.ampere ↔ a.code ≤ b.code := by
  cases a <;> cases b <;> decide

/-- A code that is no higher is published at its first window (R10). -/
theorem debounceCable_falls {k c : CableCode} (change : Option CableCode) (h : c.ampere ≤ k.ampere) :
    debounceCable (some k) change c = (some c, none) := if_pos (ampere_le_iff.1 h)

/-- The first window of a higher code is noted as a change, the second publishes it (R10). -/
theorem debounceCable_rises {k c : CableCode} (change : Option CableCode) (h : k.ampere < c.ampere) :
    debounceCable (some k) change c = if change = some c then (some c, none) else (some k, some c) :=
  if_neg fun hc => absurd (ampere_le_iff.2 hc) (by omega)

/-- The two windows of a higher code (R10). -/
theorem debounceCable_second {k c : CableCode} (c2 : CableCode) :
    (debounceCable (some k) (some c) c2).1 = some (if c2 = c ∨ c2.ampere ≤ k.ampere then c2 else k) := by
  by_cases h : c2.ampere ≤ k.ampere
  · rw [debounceCable_falls _ h, if_pos (.inr h)]
  · rw [debounceCable_rises _ (by omega)]
    by_cases hc : c2 = c
    · simp [hc]
    · rw [if_neg (by simpa using fun h => hc h.symm), if_neg (by simp [hc, h])]

/-- The pilot level of a window is the debounced band (R9). -/
theorem closeMeasurement_pilotLevel (cfg : ConfigRecord) (w : WindowSamples) (m : Mfe) :
    (closeMeasurement cfg w m).pilotLevel = (debouncePilot m.pilotLevel m.pilotChange
      (pilotBand (pilotHigh (m.unit == .static) w.pilot.toList))).1 := rfl

theorem closeMeasurement_pilotChange (cfg : ConfigRecord) (w : WindowSamples) (m : Mfe) :
    (closeMeasurement cfg w m).pilotChange = (debouncePilot m.pilotLevel m.pilotChange
      (pilotBand (pilotHigh (m.unit == .static) w.pilot.toList))).2 := rfl

/-- A window leaves the capture unit. -/
theorem closeMeasurement_unit (cfg : ConfigRecord) (w : WindowSamples) (m : Mfe) :
    (closeMeasurement cfg w m).unit = m.unit := rfl

/-- The cable code of a window is the debounced code (R10). -/
theorem closeMeasurement_cable (cfg : ConfigRecord) (w : WindowSamples) (m : Mfe) :
    (closeMeasurement cfg w m).cable =
      (debounceCable m.cable m.cableChange (cableBand (mean w.proximity.toList))).1 := rfl

theorem closeMeasurement_cableChange (cfg : ConfigRecord) (w : WindowSamples) (m : Mfe) :
    (closeMeasurement cfg w m).cableChange =
      (debounceCable m.cable m.cableChange (cableBand (mean w.proximity.toList))).2 := rfl

/-- Settles O6, part by part. -/
theorem measuredValuesFollowTheSamples : Obligations.MeasuredValuesFollowTheSamples := by
  intro w
  refine ⟨fun top l q htop hl hq => rms_spec (by omega) (by rw [hq, mean, List.length_map, hl]; rfl),
    fun p => ⟨rfl, rfl, realPower_spec p⟩, rfl, rfl, rfl, rfl, fun _ => meanActive_spec,
    ?_, ?_, ?_, ?_, ?_, (vSupMin_spec w).1, (vSupMin_spec w).2, ?_⟩
  · rintro ⟨v, hv, hfull⟩
    have hinv : busValid w.bus.toList = false :=
      Bool.eq_false_iff.2 fun h => absurd (busValid_iff.1 h v hv) (by omega)
    simp [measure, hinv]
  · intro hall
    have hval := busValid_iff.2 hall
    have hpos := sum_floorZero_nonneg w.bus.toList
    have hbus : ((measure w).vBus : Int) = (w.bus.toList.map fun v => max 0 v).sum / 100 := by
      simp only [measure, hval, if_true, mean_floorZero]; omega
    exact ⟨hval, by omega, by omega⟩
  · have hpos := sum_floorZero_nonneg w.outCurrent.toList
    simp only [measure, mean_floorZero, clampNat]; omega
  · have hpos := sum_floorZero_nonneg w.heatCurrent.toList
    simp only [measure, mean_floorZero, clampNat]; omega
  · simp only [measure, mean_vector, clampInt]; omega
  · intro cfg m w2
    refine ⟨fun l b b2 hl hc hne hb hb2 => ⟨fun h => ?_, fun h => ?_⟩,
      fun k c c2 hk hc hcb hcb2 => ⟨fun h => ?_, fun h => ?_⟩⟩
    · rw [closeMeasurement_pilotLevel, ← hb, debouncePilot_atOnce _ _ h]
    · have hfirst := debouncePilot_first (change := none) hne (by simp) h
      rw [closeMeasurement_pilotLevel cfg w2, closeMeasurement_pilotChange, closeMeasurement_unit,
        closeMeasurement_pilotLevel, ← hb, ← hb2, hl, hc, hfirst]
      exact ⟨rfl, debouncePilot_second b2 h⟩
    · rw [closeMeasurement_cable, ← hcb, hk, debounceCable_falls _ h]
    · have hfirst := (debounceCable_rises none h).trans (if_neg (by simp))
      rw [closeMeasurement_cable cfg w2, closeMeasurement_cableChange, closeMeasurement_cable,
        ← hcb, ← hcb2, hk, hc, hfirst]
      exact ⟨rfl, debounceCable_second c2⟩

end Sys2Proof.Machine
end

section
/-! PROOFS. The window close (R1): T_min, the notices and messages of a change of state, and what each session state
does with a set. -/

namespace Sys2Proof.Machine

/-! ### T_min (R6) -/

/-- The lower of two temperatures is one of them. -/
theorem minOption_some (a b : Int) :
    (a ≤ b ∧ minOption (some a) (some b) = some a)
      ∨ (b ≤ a ∧ minOption (some a) (some b) = some b) := by
  simp only [minOption, Option.some.injEq]; omega

/-- The lowest of optional temperatures: one of them, and above none. -/
theorem foldl_minOption_eq_some {l : List (Option Int)} {acc : Option Int} {v : Int} :
    l.foldl minOption acc = some v ↔
      some v ∈ acc :: l ∧ ∀ x, some x ∈ acc :: l → v ≤ x := by
  induction l generalizing acc with
  | nil =>
    rw [List.foldl_nil, List.mem_singleton]
    exact ⟨by rintro rfl; simp, fun h => h.1.symm⟩
  | cons y l ih =>
    rw [List.foldl_cons, ih]
    cases acc with
    | none => simp [minOption]
    | some a =>
      cases y with
      | none => simp [minOption]
      | some b =>
        rcases minOption_some a b with ⟨h, hm⟩ | ⟨h, hm⟩ <;>
          simp only [hm, List.mem_cons, Option.some.injEq, forall_eq_or_imp] <;> grind

/-- T_min is the lowest value of the VALID zones, absent without one (R6). -/
theorem coldest_eq_some {zones : Quad Zone} {v : Int} :
    coldest zones = some v ↔
      (∃ z ∈ zones.toList, z.validity = .valid ∧ z.value = some v)
        ∧ ∀ z ∈ zones.toList, z.validity = .valid → ∀ x, z.value = some x → v ≤ x := by
  have hlist (f : Zone → Option Int) : (zones.map f).toList = zones.toList.map f := rfl
  have hmem (x : Int) :
      some x ∈ none :: zones.toList.map (fun z => if z.validity = .valid then z.value else none)
        ↔ ∃ z ∈ zones.toList, z.validity = .valid ∧ z.value = some x := by
    simp
  rw [coldest, hlist, foldl_minOption_eq_some, hmem]
  refine and_congr_right fun _ => ⟨fun h z hz hval x hx => h x ((hmem x).2 ⟨z, hz, hval, hx⟩),
    fun h x hx => ?_⟩
  obtain ⟨z, hz, hval, hx⟩ := (hmem x).1 hx
  exact h z hz hval x hx

/-! ### The notices that a change of state posts (R44), and the operations that post none -/

@[simp] theorem disturb_notices (c : Core) : (disturb c).notices = c.notices := by rw [disturb_eq]
@[simp] theorem reportFall_notices (before : Nat) (c : Core) : (reportFall before c).notices = c.notices := by
  rcases reportFall_cases before c with h | h <;> simp [h]
@[simp] theorem forcedEdge_notices (c : Core) : (forcedEdge c).notices = c.notices := by
  unfold forcedEdge; split <;> simp
@[simp] theorem heaterOff_notices (c : Core) : (heaterOff c).notices = c.notices := by simp [heaterOff]
@[simp] theorem inhibitZones_notices (e : Env) (c : Core) : (inhibitZones e c).notices = c.notices := by
  simp only [inhibitZones]
  split
  · split <;> simp
  · simp
@[simp] theorem heaterTakeSet_notices (e : Env) (c : Core) : (heaterTakeSet e c).notices = c.notices := by
  simp [heaterTakeSet]
@[simp] theorem heaterFollow_notices (e : Env) (old new : SessionState) (c : Core) :
    (heaterFollow e old new c).notices = c.notices := by
  simp only [heaterFollow]
  split
  · simp
  · split <;> simp
@[simp] theorem allocFollow_notices (old new : SessionState) (c : Core) :
    (allocFollow old new c).notices = c.notices := by
  unfold allocFollow; split <;> simp [leavePowered]
@[simp] theorem placeStatus_notices (e : Env) (c : Core) : (placeStatus e c).notices = c.notices := by
  simp [placeStatus, placeMessage]

/-- A change of state posts SESSION-STATE and nothing else (R44). -/
@[simp] theorem changeState_notices (e : Env) (new : SessionState) (c : Core) :
    (changeState e new c).notices = enterNotice .sessionState c.notices := by
  simp [changeState, post]

/-- SESSION-STATE is routed to both masters (R178). -/
theorem enterNotice_sessionState (u : Notices) :
    hasBit (enterNotice .sessionState u).vehiclePending Notice.sessionState.code = true
      ∧ hasBit (enterNotice .sessionState u).fleetPending Notice.sessionState.code = true := by
  simp only [enterNotice, hasBit, BitVec.getLsbD_or, Bool.or_eq_true]
  exact ⟨.inr (by decide), .inr (by decide)⟩

/-! ### The STATUS placed at an attachment (R161, R164) -/

/-- A message placed stands in its slot, or behind the one being sent (R161). -/
theorem placeIn_holds (m : TxMessage) (s : TxSlot) :
    (if s.state = .sending then (placeIn m s).successor else (placeIn m s).message).isSome = true := by
  unfold placeIn
  cases h : s.state <;> rfl

/-- A STATUS placed goes into the STATUS slot and leaves its timer (R164). -/
theorem placeStatus_link (e : Env) (c : Core) :
    ∃ m, (placeStatus e c).link = { c.link with status := placeIn m c.link.status } := ⟨_, rfl⟩

/-! ### Attachment and its end (R23, R40) -/

/-- A change to a state other than AUTHORIZING and PAUSED, field by field. -/
theorem Session.moveTo_elsewhere {new : SessionState} (s : Session) (h : new ≠ .authorizing)
    (h' : new ≠ .paused) :
    s.moveTo new =
      { s with state := new, pauseTimer := none, authGranted := false, selfTestPassed := false } := by
  simp [Session.moveTo, h, h']

/-- Without a vehicle charge request an attachment starts no session (R23, R24). -/
theorem attach_noRequest {e : Env} {c : Core} (h : c.session.request = none) :
    attach e c = (placeStatus e (changeState e .attached c)).onLink
      fun l => { l with statusTimer := some 1000 } :=
  evaluateStart_missing (missingStart_request (by simpa using h))

/-- At the entry to IDLE the authorization unit is INACTIVE without a tag, the STATUS timer stops, and SESSION-STATE
is posted (R23, R47, R55, R164). -/
theorem enterIdle_spec (e : Env) (c : Core) :
    (enterIdle e c).auth.driverTag = none ∧ (enterIdle e c).auth.state = .inactive
      ∧ (enterIdle e c).link.statusTimer = none
      ∧ (enterIdle e c).notices = enterNotice .sessionState c.notices := by
  simp [enterIdle]

/-- CLOSED with its record closed is left to IDLE on a detachment (R40). -/
theorem conclude_detached {e : Env} {c : Core} (hc : c.session.state = .closed)
    (hp : c.session.closePending = false) (ha : c.active = true) (hd : e.mfe.detached = true) :
    conclude e c = enterIdle e c := by
  simp [conclude, evaluateStart, leaveClosed, hc, hp, ha, hd]

/-- CLOSED with its record closed is left to ATTACHED on a release, where two clear enables start nothing (R40). -/
theorem conclude_released {e : Env} {c : Core} (hc : c.session.state = .closed)
    (hp : c.session.closePending = false) (ha : c.active = true) (hd : e.mfe.detached = false)
    (hr : c.session.releaseSeen = true) (hce : c.session.chargeEnable = false)
    (hhe : c.session.heatEnable = false) : conclude e c = changeState e .attached c := by
  have hstart : evaluateStart e (changeState e .attached c) = changeState e .attached c :=
    evaluateStart_missing (missingStart_enables
      (by simpa [Session.chargeEnable] using hce) (by simpa [Session.heatEnable] using hhe))
  simp [conclude, leaveClosed, hc, hp, ha, hd, hr, hstart, evaluateStart_missing (e := e) (c := c)
    (missingStart_enables hce hhe)]

/-! ### A set in the running pair (R29, R30) -/

/-- The pause causes of a session after a set (R30). -/
def Session.causesOnSet (m : Mfe) (s : Session) : Byte :=
  putBit
    (putBit (putBit s.pauseCauses PauseCause.offerZero.code (offerZero m)) PauseCause.packVoltage.code
      (packVoltage m s))
    PauseCause.sensorsInvalid.code (sensorsInvalid m s)

/-- In the states that keep pause causes a set evaluates its three (R30). -/
theorem pauseOnSet_live {e : Env} {c : Core} (h : c.session.state.live = true) :
    pauseOnSet e c = c.onSession fun s => { s with pauseCauses := c.session.causesOnSet e.mfe } := by
  unfold pauseOnSet
  rw [setPause_live _ _ (by rw [setPause_live _ _ (by rw [setPause_live _ _ h]; exact h),
      setPause_live _ _ h]; exact h),
    setPause_live _ _ (by rw [setPause_live _ _ h]; exact h), setPause_live _ _ h]
  rfl

/-- After a set the set of causes holds the three evaluated and the others as they were (R30). -/
theorem hasBit_causesOnSet (m : Mfe) (s : Session) :
    hasBit (s.causesOnSet m) PauseCause.offerZero.code = offerZero m
      ∧ hasBit (s.causesOnSet m) PauseCause.packVoltage.code = packVoltage m s
      ∧ hasBit (s.causesOnSet m) PauseCause.sensorsInvalid.code = sensorsInvalid m s := by
  simp [Session.causesOnSet, hasBit_putBit, PauseCause.code]

/-- A set that finds no cause leaves an empty set empty (R30). -/
theorem causesOnSet_eq_zero {m : Mfe} {s : Session} (h0 : s.pauseCauses = 0) (ho : offerZero m = false)
    (hv : packVoltage m s = false) (hs : sensorsInvalid m s = false) : s.causesOnSet m = 0 := by
  simp [Session.causesOnSet, h0, ho, hv, hs, putBit]

/-- The running pair takes a set without a detachment: its causes, then the moves on T_min (R29, R30). -/
theorem sessionTakeSet_powered {stopping : Bool} {e : Env} {c : Core}
    (hp : c.session.state.powered = true) (hd : e.mfe.detached = false) :
    sessionTakeSet stopping e c = temperatureMove e (settlePause e
      (c.onSession fun s => { s with pauseCauses := c.session.causesOnSet e.mfe })) := by
  rw [← pauseOnSet_live (SessionState.live_of_powered hp)]
  unfold sessionTakeSet
  cases hs : c.session.state <;> simp_all [SessionState.powered]

/-- A set with a cause pauses the running pair (R30). -/
theorem sessionTakeSet_pauses {stopping : Bool} {e : Env} {c : Core}
    (hp : c.session.state.powered = true) (hd : e.mfe.detached = false)
    (h : offerZero e.mfe = true ∨ packVoltage e.mfe c.session = true
      ∨ sensorsInvalid e.mfe c.session = true) :
    sessionTakeSet stopping e c = changeState e .paused
      (c.onSession fun s => { s with pauseCauses := c.session.causesOnSet e.mfe }) := by
  obtain ⟨ho, hv, hs⟩ := hasBit_causesOnSet e.mfe c.session
  have hne : c.session.causesOnSet e.mfe ≠ 0 := by
    rcases h with h | h | h
    · exact ne_zero_of_hasBit (ho.trans h)
    · exact ne_zero_of_hasBit (hv.trans h)
    · exact ne_zero_of_hasBit (hs.trans h)
  rw [sessionTakeSet_powered hp hd, settlePause_powered (by simpa using hp) (by simpa using hne)]
  simp [temperatureMove]

/-- A set without a cause leaves PREHEAT to CHARGING from the permit temperature up, and CHARGING to PREHEAT more than
20 dC below it (R29). -/
theorem sessionTakeSet_moves {stopping : Bool} {e : Env} {c : Core}
    (hp : c.session.state.powered = true) (hd : e.mfe.detached = false)
    (h0 : c.session.pauseCauses = 0) (hc : c.session.causesOnSet e.mfe = 0) :
    sessionTakeSet stopping e c = temperatureMove e c := by
  have hsame : (c.onSession fun s => { s with pauseCauses := c.session.causesOnSet e.mfe }) = c := by
    rw [hc, ← h0]; rfl
  rw [sessionTakeSet_powered hp hd, hsame, settlePause_stays (fun _ => h0)
    fun h => by simp [h, SessionState.powered] at hp]

/-- The moves on T_min change the state alone (R29). -/
theorem temperatureMove_keeps (e : Env) (c : Core) :
    (temperatureMove e c).session.pauseCauses = c.session.pauseCauses
      ∧ (temperatureMove e c).session.contactor = c.session.contactor
      ∧ (temperatureMove e c).session.endReason = c.session.endReason := by
  unfold temperatureMove
  split
  · split <;> simp
  · split <;> simp
  all_goals exact ⟨rfl, rfl, rfl⟩

theorem temperatureMove_preheat {e : Env} {c : Core} (h : c.session.state = .preheat) :
    (temperatureMove e c).session.state =
      if chargePermitted e c.session = true then .charging else .preheat := by
  unfold temperatureMove
  rw [h]
  simp only
  split
  · rw [changeState_session]; rfl
  · exact h

theorem temperatureMove_charging {e : Env} {c : Core} (h : c.session.state = .charging) :
    (temperatureMove e c).session.state =
      if chargeLost e c.session = false then .charging else .preheat := by
  unfold temperatureMove
  rw [h]
  simp only
  cases hl : chargeLost e c.session
  · exact h
  · simp

/-- The moves on T_min keep the session in the running pair (R29). -/
theorem temperatureMove_live {e : Env} {c : Core} (hp : c.session.state.powered = true) :
    (temperatureMove e c).session.state.live = true := by
  cases hs : c.session.state with
  | preheat => rw [temperatureMove_preheat hs]; split <;> rfl
  | charging => rw [temperatureMove_charging hs]; split <;> rfl
  | _ => simp [hs, SessionState.powered] at hp

/-! ### The deliveries of a set (R1, R190) -/

/-- A set that does not take the supply to SUPPLY-LOW moves the supply flag at most (R190). -/
theorem takeSupply_stays {e : Env} {c : Core} {p : MeasurementSet} (hp : e.mfe.published = some p)
    (h : c.sup.low = true ∨ 90 ≤ p.vSupMin) :
    ∃ b, takeSupply e c = c.onSup fun s => { s with low := b } := by
  unfold takeSupply
  simp only [hp]
  split
  · split
    · exact ⟨false, rfl⟩
    · exact ⟨c.sup.low, rfl⟩
  · rename_i hlow
    rw [if_neg (by have := h.resolve_left hlow; omega)]
    exact ⟨c.sup.low, rfl⟩

/-- The blocks when the set is delivered: SENSOR-FAULT is posted (R1, R5). -/
def State.windowCore (s : State) (w : WindowSamples) : Core :=
  postSensorFault (newlyInvalid s.env.mfe.zones (s.windowMfe w).zones) s.core

@[simp] theorem State.windowCore_session (s : State) (w : WindowSamples) :
    (s.windowCore w).session = s.core.session := postSensorFault_session ..
@[simp] theorem State.windowCore_auth (s : State) (w : WindowSamples) :
    (s.windowCore w).auth = s.core.auth := postSensorFault_auth ..
@[simp] theorem State.windowCore_link (s : State) (w : WindowSamples) :
    (s.windowCore w).link = s.core.link := postSensorFault_link ..
@[simp] theorem State.windowCore_sup (s : State) (w : WindowSamples) :
    (s.windowCore w).sup = s.core.sup := postSensorFault_sup ..

/-- The next state of a window close that leaves the blocks as `c`: the lines follow (R1). -/
def State.afterWindow (s : State) (w : WindowSamples) (c : Core) : State :=
  State.settle { s with env := s.windowEnv w, core := c }

@[simp] theorem State.afterWindow_core (s : State) (w : WindowSamples) (c : Core) :
    (s.afterWindow w c).core = c := rfl
@[simp] theorem State.afterWindow_lines (s : State) (w : WindowSamples) (c : Core) :
    (s.afterWindow w c).lines = linesOf c := rfl

/-- A window close in a part that is up, whatever it brings (R1). -/
theorem windowClose_done {w : WindowSamples} {s : State} (first : Bool) (hu : s.core.up = true)
    (ht : s.env.mfe.windowTimer.isSome = true) :
    exec (.measurementWindowClose w first) s = .next (s.afterWindow w
      (windowDeliveries s.env.mfe.aux.active
        (newlyInvalid s.env.mfe.zones (s.windowMfe w).zones) first (s.windowEnv w) s.core)) := by
  simp only [exec, execMeasurementWindowClose, State.windowClose, hu, ht, Bool.and_self, if_true]
  rfl

/-- CLOSED takes no set (R40). -/
theorem sessionTakeSet_closed {stopping : Bool} {e : Env} {c : Core} (h : c.session.state = .closed) :
    sessionTakeSet stopping e c = c := by
  simp only [sessionTakeSet, h]

/-! ### A set in each session state -/

section
variable {w : WindowSamples} {s : State} (first : Bool) (hb : BringsTheSet w s)
  (hs : SupplyStays w s)
include hb hs

/-- A window that brings its set alone and keeps the supply: what the session controller makes of the set stands,
with its authorization, link and notices, when the event is concluded. -/
theorem windowClose_session {c : Core}
    (hc : sessionTakeSet (s.core.session.state == .stopping) (s.windowEnv w) (s.windowCore w) = c)
    (hsup : c.sup = s.core.sup) :
    ∃ d : Core, exec (.measurementWindowClose w first) s =
        .next (s.afterWindow w (conclude (s.windowEnv w) d))
      ∧ d.session = c.session ∧ d.auth = c.auth ∧ d.link = c.link ∧ d.notices = c.notices
      ∧ d.active = true := by
  have ⟨hheld, hpower, _⟩ := hb
  have hact : (s.windowCore w).active = true := by simp [Core.active, hheld, hpower]
  obtain ⟨b, hd⟩ := takeSupply_stays (e := s.windowEnv w) (c := heaterTakeSet (s.windowEnv w) c)
    (p := measure w) rfl (by rw [heaterTakeSet_sup, hsup]; exact hs)
  have hdel : deliverSet (s.core.session.state == .stopping) (s.windowEnv w) (s.windowCore w)
      = (heaterTakeSet (s.windowEnv w) c).onSup fun s => { s with low := b } := by
    rw [deliverSet, if_pos hact, hc, hd]
  refine ⟨_, exec_windowClose first hb, ?_⟩
  rw [State.windowCore] at hdel
  rw [hdel]
  simp [Core.active, hsup, hheld, hpower]

/-- A present pilot and a rated cable attach an IDLE session, with a STATUS and its timer (R23, R164). -/
theorem windowClose_attaches (hst : s.core.session.state = .idle) (hreq : s.core.session.request = none)
    (hpilot : (s.windowMfe w).pilotPresent = true) (hcable : (s.windowMfe w).cableRated = true) :
    ∃ d m, exec (.measurementWindowClose w first) s = .next (s.afterWindow w d)
      ∧ d.session = s.core.session.moveTo .attached
      ∧ d.link = { s.core.link with status := placeIn m s.core.link.status, statusTimer := some 1000 }
      ∧ d.notices = enterNotice .sessionState (s.windowCore w).notices := by
  have hattach := attach_noRequest (e := s.windowEnv w) (c := s.windowCore w) (by simpa using hreq)
  obtain ⟨m, hm⟩ := placeStatus_link (s.windowEnv w)
    (changeState (s.windowEnv w) .attached (s.windowCore w))
  obtain ⟨d, hexec, hses, -, hlink, hnot, -⟩ := windowClose_session first hb hs
    (c := attach (s.windowEnv w) (s.windowCore w))
    (by simp [sessionTakeSet, hst, hpilot, hcable]) (by simp [hattach])
  have hses' : d.session = s.core.session.moveTo .attached := by simp [hses, hattach]
  rw [conclude_rests (.inr (.inl ⟨by simp [hses'], by simpa [hses'] using hreq⟩))] at hexec
  exact ⟨d, m, hexec, hses', by simp [hlink, hattach, hm], by simp [hnot, hattach]⟩

/-- A detachment returns an ATTACHED session to IDLE (R23). -/
theorem windowClose_detaches (hst : s.core.session.state = .attached)
    (hdet : (s.windowMfe w).detached = true) :
    ∃ d, exec (.measurementWindowClose w first) s = .next (s.afterWindow w d)
      ∧ d.session = { s.core.session.moveTo .idle with monitorFailure := false }
      ∧ d.auth.driverTag = none ∧ d.auth.state = .inactive ∧ d.link.statusTimer = none := by
  obtain ⟨d, hexec, hses, hauth, hlink, -, -⟩ := windowClose_session first hb hs
    (c := enterIdle (s.windowEnv w) (s.windowCore w))
    (by simp [sessionTakeSet, hst, hdet]) (by simp)
  obtain ⟨htag, hstate, htimer, -⟩ := enterIdle_spec (s.windowEnv w) (s.windowCore w)
  have hses' : d.session = { s.core.session.moveTo .idle with monitorFailure := false } := by
    simp [hses]
  rw [conclude_rests (.inl (by simp [hses']))] at hexec
  exact ⟨d, hexec, hses', by rw [hauth, htag], by rw [hauth, hstate], by rw [hlink, htimer]⟩

/-- A pause cause of the set pauses the running pair (R30). -/
theorem windowClose_pauses (hp : s.core.session.state.powered = true)
    (hdet : (s.windowMfe w).detached = false)
    (h : offerZero (s.windowMfe w) = true ∨ packVoltage (s.windowMfe w) s.core.session = true
      ∨ sensorsInvalid (s.windowMfe w) s.core.session = true) :
    ∃ d, exec (.measurementWindowClose w first) s = .next (s.afterWindow w d)
      ∧ d.session = ({ s.core.session with
          pauseCauses := s.core.session.causesOnSet (s.windowMfe w) } : Session).moveTo .paused := by
  obtain ⟨d, hexec, hses, -⟩ := windowClose_session first hb hs
    (sessionTakeSet_pauses (by simpa using hp) hdet (by simpa using h)) (by simp)
  rw [conclude_live (by rw [hses, changeState_session]; rfl)] at hexec
  exact ⟨d, hexec, by simp [hses]⟩

/-- A set without a pause cause moves the running pair by T_min and charge enable alone (R29). -/
theorem windowClose_moves (hp : s.core.session.state.powered = true)
    (h0 : s.core.session.pauseCauses = 0) (hdet : (s.windowMfe w).detached = false)
    (ho : offerZero (s.windowMfe w) = false)
    (hv : packVoltage (s.windowMfe w) s.core.session = false)
    (hsens : sensorsInvalid (s.windowMfe w) s.core.session = false) :
    ∃ d, exec (.measurementWindowClose w first) s = .next (s.afterWindow w d)
      ∧ d.session = (temperatureMove (s.windowEnv w) (s.windowCore w)).session := by
  have hp' : (s.windowCore w).session.state.powered = true := by simpa using hp
  obtain ⟨d, hexec, hses, -⟩ := windowClose_session first hb hs
    (sessionTakeSet_moves hp' hdet (by simpa using h0)
      (causesOnSet_eq_zero (by simpa using h0) ho (by simpa using hv) (by simpa using hsens)))
    (by simp)
  rw [conclude_live (by rw [hses]; exact temperatureMove_live hp')] at hexec
  exact ⟨d, hexec, hses⟩

end

/-- Settles O5: the set for itself, then the session states one by one. -/
theorem windowClosePublishesTheSet : Obligations.WindowClosePublishesTheSet := by
  intro w first s
  refine ⟨fun hu ht => ⟨_, windowClose_done first hu ht, rfl, rfl, rfl, rfl, rfl, rfl, rfl,
    fun v => coldest_eq_some⟩, fun hb hs => ⟨?idle, ?attached, ?closed, ?powered⟩⟩
  case idle =>
    intro hst hreq hpilot hcable
    obtain ⟨d, m, hexec, hses, hlink, hnot⟩ :=
      windowClose_attaches first hb hs hst hreq hpilot hcable
    refine ⟨_, hexec, ?_, ?_, ?_, ?_⟩
    all_goals rw [State.afterWindow_core]
    · rw [hses, Session.moveTo_elsewhere _ (by decide) (by decide)]
    · rw [hlink]
    · rw [hlink]
      exact placeIn_holds m s.core.link.status
    · rw [hnot]
      exact enterNotice_sessionState _
  case attached =>
    intro hst hdet
    obtain ⟨d, hexec, hses, hauth⟩ := windowClose_detaches first hb hs hst hdet
    rw [Session.moveTo_elsewhere _ (by decide) (by decide)] at hses
    exact ⟨_, hexec, hses, hauth⟩
  case closed =>
    intro hst
    obtain ⟨d, hexec, hses, hauth, hlink, hnot, hact⟩ := windowClose_session first hb hs
      (sessionTakeSet_closed (by simpa using hst)) (by simp)
    rw [State.windowCore_session] at hses
    have hst' : d.session.state = .closed := by rw [hses, hst]
    refine ⟨fun hp => ?_, fun hp hdet => ?_, fun hp hdet => ⟨fun hr => ?_, fun hr hce hhe => ?_⟩⟩
    · rw [conclude_closed hst' (.inl (by rw [hses, hp]))] at hexec
      exact ⟨_, hexec, hses⟩
    · rw [conclude_detached hst' (by rw [hses, hp]) hact hdet] at hexec
      obtain ⟨htag, hstate, htimer, hposted⟩ := enterIdle_spec (s.windowEnv w) d
      refine ⟨_, hexec, ?_, htag, hstate, htimer, ?_⟩
      · rw [State.afterWindow_core, enterIdle_session, hses,
          Session.moveTo_elsewhere _ (by decide) (by decide)]
      · rw [State.afterWindow_core, hposted]
        exact enterNotice_sessionState _
    · rw [conclude_closed hst' (.inr ⟨hdet, by rw [hses, hr]⟩)] at hexec
      exact ⟨_, hexec, hses⟩
    · rw [conclude_released hst' (by rw [hses, hp]) hact hdet (by rw [hses, hr])
        (by rw [hses, hce]) (by rw [hses, hhe])] at hexec
      refine ⟨_, hexec, ?_, ?_, ?_⟩
      all_goals rw [State.afterWindow_core]
      · rw [changeState_session, hses, Session.moveTo_elsewhere _ (by decide) (by decide)]
      · rw [changeState_auth, hauth, State.windowCore_auth]
      · rw [changeState_notices]
        exact enterNotice_sessionState _
  case powered =>
    intro hp h0 hdet
    refine ⟨fun hcause => ?_, fun ho hv hsens => ?_⟩
    · obtain ⟨d, hexec, hses⟩ := windowClose_pauses first hb hs hp hdet hcause
      obtain ⟨hoff, hvolt, hsens⟩ := hasBit_causesOnSet (s.windowMfe w) s.core.session
      obtain ⟨hen, hduty⟩ := linesOf_unpowered (c := d) (by rw [hses]; rfl)
      refine ⟨_, hexec, ?_, ?_, ?_, ?_, ?_, ?_, hen, hduty⟩
      all_goals rw [State.afterWindow_core, hses]
      · rfl
      · rfl
      · exact hoff
      · exact hvolt
      · exact hsens
      · rfl
    · obtain ⟨d, hexec, hses⟩ := windowClose_moves first hb hs hp h0 hdet ho hv hsens
      obtain ⟨hcauses, hcont, hend⟩ := temperatureMove_keeps (s.windowEnv w) (s.windowCore w)
      rw [State.windowCore_session] at hcauses hcont hend
      refine ⟨_, hexec, ?_, ?_, ?_, fun hst => ?_, fun hst => ?_⟩
      all_goals rw [State.afterWindow_core, hses]
      · rw [hcauses, h0]
      · exact hcont
      · exact hend
      · rw [temperatureMove_preheat (by simpa using hst), State.windowCore_session]
        exact ite_congr (propext chargePermitted_iff) (fun _ => rfl) fun _ => rfl
      · rw [temperatureMove_charging (by simpa using hst), State.windowCore_session]
        exact ite_congr (propext chargeLost_eq_false_iff) (fun _ => rfl) fun _ => rfl

end Sys2Proof.Machine
end

section
/-! PROOFS. The fleet requests of the record queue and the allow-list (R58 to R60, R144, R147, R150), and the offline
decision from the allow-list (R53, R57). -/

namespace Sys2Proof.Machine

/-! ### A fleet request that is taken (R176, R177) -/

/-- A fleet request whose owner leaves the blocks as `core` is answered, and nothing else changes. -/
theorem fleetRequest_done {s : State} {k q : Byte} {own : Owner} {c content : List Byte} {core : Core}
    {status : Status} (h : FleetTakes s) (hf : FrameFits k q c)
    (hown : own c (s.onFport closingFlag)
      = { state := (s.onFport closingFlag).onCore fun _ => core, status, content }) :
    (fleetRequest k q (dispatch own) c s).done = .next (afterFleet s core c content k q status) := by
  rw [fleetRequest_answer _ _ _ _ h hf, dispatch_fleet _ _ h, hown, respondFleet_settle]

/-- A request without content whose owner changes nothing is answered with what is held. -/
theorem fleetRead_done {s : State} {k q : Byte} {act : State → Answer} {content : List Byte}
    {status : Status} (h : FleetTakes s)
    (hact : act (s.onFport closingFlag) = { state := s.onFport closingFlag, status, content }) :
    (fleetRequest k q (dispatch (withoutContent act)) [] s).done
      = .next (afterFleet s s.core [] content k q status) :=
  fleetRequest_done h (frameFits_of_short _ _ (by simp)) hact

/-- A field in a request without content is BAD-REQUEST (R177). -/
theorem fleetRead_badRequest {s : State} (k q : Byte) (act : State → Answer) (x : Byte) {c : List Byte}
    (h : FleetTakes s) (hc : c.length < 25) :
    (fleetRequest k q (dispatch (withoutContent act)) (x :: c) s).done
      = .next (afterFleet s s.core (x :: c) [] k q .badRequest) :=
  fleetRequest_done h (frameFits_of_short _ _ (Nat.succ_le_of_lt hc)) rfl

/-- The occupancy of an empty queue: no record, and whether one is held (R147). -/
theorem occupancyBytes_empty {x : ExportQueue} (h : x.queue = []) :
    occupancyBytes x = 0 :: boolField x.held.isSome := by
  rw [occupancyBytes, h]
  rfl

/-- Settles O30: each read with what it finds in the stores. -/
theorem fleetReadsChangeNothing : Obligations.FleetReadsChangeNothing := by
  intro q s h
  refine ⟨fun r rest hq => ?_, fun r hq hheld => ?_, fun hq hheld => ?_, fleetRead_done h rfl,
    fleetRead_done h rfl, fun x c hc => ⟨?_, ?_, ?_⟩⟩
  · exact fleetRead_done h (by simp [ExportQueue.oldest, occupancyBytes, hq])
  · exact fleetRead_done h (by simp [ExportQueue.oldest, occupancyBytes_empty hq, hq, hheld, boolField])
  · exact fleetRead_done h (by simp [ExportQueue.oldest, occupancyBytes_empty hq, hq, hheld, boolField])
  all_goals exact fleetRead_badRequest _ _ _ _ h hc

/-! ### The allow-list is edited (R58, R59) -/

/-- An examination for a tag finds its entry where the list holds one, expired or not (R58). -/
theorem examined_any_tag (m : Meter) (tag : Tag) (l : List AllowEntry) :
    ((examined m tag l).any fun a => a.tag = tag) = true ↔ ∃ a ∈ l, a.tag = tag := by
  simp only [examined, List.any_filter, List.any_eq_true, Bool.and_eq_true, Bool.or_eq_true,
    decide_eq_true_eq]
  exact exists_congr fun a => and_congr_right fun _ => and_iff_right_of_imp .inl

/-- An entry is put in the place of the one with its tag, or at the end while places remain (R58). -/
theorem allowAdded_eq {m : Meter} {new : AllowEntry} {l kept : List AllowEntry}
    (h : examined m new.tag l = kept) :
    allowAdded m new l =
      if ∃ a ∈ l, a.tag = new.tag then (kept.map fun a => if a.tag = new.tag then new else a, true)
      else if kept.length < 16 then (kept ++ [new], true)
      else (kept, false) := by
  subst h
  exact ite_congr (propext (examined_any_tag m new.tag l)) (fun _ => rfl) fun _ => rfl

/-- ALLOW-ADD with an entry: the list is the one after the addition, and LIST-FULL says that the entry was not taken
(R58). -/
theorem allowAdd_done {s : State} {q : Byte} {content : List Byte} {new : AllowEntry} (h : FleetTakes s)
    (hlen : content.length ≤ 25) (hop : allowOperand content = some new) :
    exec (.allowAdd q content) s = .next (afterFleet s
      { s.core with auth := { s.core.auth with
          allowList := (allowAdded s.core.meter new s.core.auth.allowList).1 } }
      content [] 0x45 q
      (if (allowAdded s.core.meter new s.core.auth.allowList).2 then .ok else .listFull)) := by
  refine fleetRequest_done h (frameFits_of_short _ _ hlen) ?_
  simp only [ownAllowAdd, withOperand, hop]
  show (if (allowAdded s.core.meter new s.core.auth.allowList).2 then okWith _
    else refusedWith .listFull _) = _
  by_cases ht : (allowAdded s.core.meter new s.core.auth.allowList).2 = true
  · rw [if_pos ht, if_pos ht]; rfl
  · rw [if_neg ht, if_neg ht]; rfl

/-- Settles O33: the operand in its two forms, then the cases of the addition. -/
theorem allowAddKeepsOnePlacePerTag : Obligations.AllowAddKeepsOnePlacePerTag := by
  intro q tag expiry s h
  refine ⟨fun c h8 h12 hf => fleetRequest_done h hf ?_, ?_⟩
  · simp only [ownAllowAdd, withOperand, allowOperand_length h8 h12]
    rfl
  · intro content kept after
    have hlen : content.length ≤ 25 := by cases expiry <;> simp [content, Tag.bytes]
    have hop : allowOperand content = some { tag, expiry } := by
      cases expiry with
      | none => exact allowOperand_tag tag
      | some x => exact allowOperand_expiry tag x
    rw [allowAdd_done h hlen hop, allowAdded_eq (kept := kept) rfl]
    split
    · rfl
    · split <;> rfl

theorem tagOfBytes_none {c : List Byte} (h : c.length ≠ 8) : Tag.ofBytes c = none :=
  Option.eq_none_iff_forall_ne_some.2 fun _ ht => h (tagOfBytes_length ht)

/-- Settles O34: the operand, then whether the list holds the tag. -/
theorem allowRemoveTakesTheTagAndTheExpired : Obligations.AllowRemoveTakesTheTagAndTheExpired := by
  intro q tag s h
  refine ⟨fleetRequest_done h (frameFits_of_short _ _ (by simp [Tag.bytes])) ?_,
    fun c h8 hf => fleetRequest_done h hf ?_⟩
  · simp only [ownAllowRemove, withOperand, tagOfBytes_bytes, List.any_eq_true, decide_eq_true_eq,
      State.onFport_core]
    split <;> rfl
  · simp only [ownAllowRemove, withOperand, tagOfBytes_none h8]
    rfl

/-! ### The offline decision (R53, R57) -/

/-- The lookup of the offline decision only removes entries (R57). -/
theorem lookup_sublist (m : Meter) (tag : Tag) (l : List AllowEntry) :
    List.Sublist (lookup m tag l).1 l := by
  induction l with
  | nil => exact .slnil
  | cons a l ih =>
    unfold lookup
    split
    · exact ih.cons a
    · split
      · exact .refl _
      · exact ih.cons_cons a

/-- The lookup finds the tag where an entry with it is not expired (R57). -/
theorem lookup_found_iff (m : Meter) (tag : Tag) (l : List AllowEntry) :
    (lookup m tag l).2 = true ↔ ∃ a ∈ l, a.tag = tag ∧ a.expired m = false := by
  induction l with
  | nil => simp [lookup]
  | cons a l ih =>
    unfold lookup
    split
    · simp_all
    · split <;> simp_all

/-- The lookup keeps the entries that are not expired (R57). -/
theorem mem_lookup_of_unexpired {m : Meter} {a : AllowEntry} (tag : Tag) {l : List AllowEntry}
    (ha : a ∈ l) (hexp : a.expired m = false) : a ∈ (lookup m tag l).1 := by
  induction l with
  | nil => exact ha
  | cons b l ih =>
    unfold lookup
    rcases List.mem_cons.1 ha with rfl | hmem
    · rw [if_neg (by simp [hexp])]
      split <;> exact List.mem_cons_self
    · split
      · exact ih hmem
      · split
        · exact ha
        · exact List.mem_cons_of_mem _ (ih hmem)

/-- A lookup in vain has passed over the whole list, and removes every expired entry (R57). -/
theorem lookup_notFound {m : Meter} {tag : Tag} {l : List AllowEntry}
    (h : ∀ a ∈ l, a.tag = tag → a.expired m = true) :
    lookup m tag l = (l.filter fun a => !a.expired m, false) := by
  induction l with
  | nil => rfl
  | cons a l ih =>
    have ih := ih fun b hb => h b (List.mem_cons_of_mem _ hb)
    unfold lookup
    split
    · rw [ih, List.filter_cons_of_neg (by simpa using ‹_›)]
    next hexp =>
      rw [if_neg fun ht => hexp (h a List.mem_cons_self ht), ih,
        List.filter_cons_of_pos (by simpa using hexp)]

@[simp] theorem settleMode_auth (st : AuthState) (mode : AuthMode) (c : Core) :
    (settleMode st mode c).auth = { c.auth with state := st, mode := some mode } := by
  simp [settleMode]

/-- A grant before the self-test has passed is recorded, and the session waits in AUTHORIZING (R26). -/
theorem grant_waits {e : Env} {c : Core} (st : AuthState) (mode : AuthMode)
    (hs : c.session.state = .authorizing) (ht : c.session.selfTestPassed = false) :
    (grant e st mode c).session = { c.session with authGranted := true }
      ∧ (grant e st mode c).auth = { c.auth with state := st, mode := some mode } := by
  have hready : grant e st mode c = (post .authResult (settleMode st mode c)).onSession
      fun x => { x with authGranted := true } := by
    simp [grant, reportGrant, energizeIfReady, hs, ht]
  rw [hready]
  simp

/-- At the end of the stop sequence the authorization unit has no pending request (R55). -/
theorem enterClosed_auth (e : Env) (c : Core) :
    (enterClosed e c).auth = { c.auth with request := none } := by
  simp [enterClosed, authOnClosed]

/-- A refusal in AUTHORIZING with the contactor OPEN closes the session at once (R34, R37, R53). -/
theorem refuse_opened {e : Env} {c : Core} (cause : StopCause) (hs : c.session.state = .authorizing)
    (hk : c.session.contactor = .opened) :
    (∃ b, (refuse e cause c).session
        = { (c.session.stopped cause).moveTo .closed with closePending := b })
      ∧ (refuse e cause c).auth = { c.auth with state := .refused, request := none } := by
  have hsplit : ∃ d, refuse e cause c = startOpening e cause d
      ∧ d.session = c.session.stopped cause
      ∧ d.auth = { c.auth with state := .refused, request := none } := by
    rw [refuse, stopCause_live (by simp [hs, SessionState.live])]
    refine ⟨_, rfl, ?_, ?_⟩
    · rw [allocate_session_notLive (by simp; rfl)]
      simp [Session.stopped]
    · simp [authOnStopping]
  obtain ⟨d, hd, hses, hauth⟩ := hsplit
  have hopen : startOpening e cause d = enterClosed e d := by
    have hk' : d.session.contactor = .opened := by rw [hses]; exact hk
    simp only [startOpening, hk']
  obtain ⟨b, hb⟩ := enterClosed_session e d
  exact ⟨⟨b, by rw [hd, hopen, hb, hses]⟩, by rw [hd, hopen, enterClosed_auth, hauth]⟩

/-- The allow-list after a lookup, and the pending request without its timer (R53, R57). -/
def Core.lookedUp (tag : Tag) (c : Core) : Core :=
  c.onAuth fun a => { a.stopTimer with allowList := (lookup c.meter tag a.allowList).1 }

/-- The 10 s of a request in WAITING run out: the offline decision is taken from the allow-list (R53). -/
theorem authTimerExpiry_decides {s : State} {p : PendingAuth} {tag : Tag} (hu : s.core.up = true)
    (hw : s.core.auth.state = .waiting) (hp : s.core.auth.request = some p)
    (ht : p.timer.isSome = true) (htag : s.core.auth.sessionTag = some tag) :
    exec .authTimerExpiry s = .next (afterBlocks s (conclude s.env
      (if (lookup s.core.meter tag s.core.auth.allowList).2 then
        grant s.env .offline .offline (s.core.lookedUp tag)
      else refuse s.env .authRejected (s.core.lookedUp tag)))) := by
  have hdue : authTimeout s.env s.core
      = conclude s.env (offlineDecision s.env (s.core.onAuth Auth.stopTimer)) := by
    simp [authTimeout, hp, ht, hw]
  have hstopped : (s.core.onAuth Auth.stopTimer).auth.sessionTag = some tag := htag
  rw [show exec .authTimerExpiry s = (s.event authTimeout).done from rfl, State.event_done _ hu, hdue,
    offlineDecision, hstopped]
  rfl

/-- Settles O19: the lookup finds the tag and grants, or has passed over the whole list and refuses. -/
theorem timeoutIsDecidedOffline : Obligations.TimeoutIsDecidedOffline := by
  intro tag p s hu hw hp ht htag hs
  have hexec := authTimerExpiry_decides hu hw hp ht htag
  refine ⟨fun hfound hpass => ?_, fun hnone hk hdet hrel => ?_⟩
  · obtain ⟨hses, hauth⟩ := grant_waits (e := s.env) (c := s.core.lookedUp tag) .offline .offline hs hpass
    rw [if_pos ((lookup_found_iff ..).2 hfound),
      conclude_live (by rw [hses]; simp [Core.lookedUp, hs, SessionState.live])] at hexec
    refine ⟨_, hexec, ?_⟩
    dsimp only [afterBlocks]
    rw [hses, hauth]
    refine ⟨rfl, rfl, by simp [Core.lookedUp, Auth.stopTimer, hp], rfl, ?_, ?_⟩
    · exact fun a ha => (lookup_sublist ..).subset ha
    · exact fun a ha hexp => mem_lookup_of_unexpired tag ha hexp
  · obtain ⟨⟨b, hses⟩, hauth⟩ := refuse_opened (e := s.env) (c := s.core.lookedUp tag) .authRejected hs hk
    have hlookup := lookup_notFound hnone
    rw [hlookup, if_neg (by simp),
      conclude_closed (by rw [hses]; rfl) (.inr ⟨hdet, by rw [hses]; exact hrel⟩)] at hexec
    refine ⟨_, hexec, ?_⟩
    dsimp only [afterBlocks]
    rw [hses, hauth]
    exact ⟨rfl, rfl, rfl, rfl, congrArg Prod.fst hlookup⟩

end Sys2Proof.Machine
end

section
/-! PROOFS. The stores of the blocks (R57, R144, R146): what places, releases and removes in them, and that every
event of the blocks keeps them within bounds. -/

namespace Sys2Proof.Machine

/-- The stores of the blocks keep their bounds: record queue (R144, R146) and allow-list (R57). -/
def Core.StoresFit (c : Core) : Prop := c.queue.Fits ∧ AllowFits c.auth.allowList

/-- What leaves queue and allow-list as they are keeps their bounds. -/
theorem Core.StoresFit.frame {c d : Core} (h : c.StoresFit)
    (hd : d.queue = c.queue ∧ d.auth.allowList = c.auth.allowList) : d.StoresFit := by
  rw [Core.StoresFit, hd.1, hd.2]; exact h

/-- What is left of an allow-list by removals keeps its bounds. -/
theorem AllowFits.sublist {l l' : List AllowEntry} (h : AllowFits l) (hs : List.Sublist l' l) : AllowFits l' :=
  ⟨Nat.le_trans hs.length_le h.1, h.2.sublist (hs.map _)⟩

/-! ### Records are placed where there is room (R136, R145, R146) -/

@[simp] theorem placeRecord_queue (e : Env) (r : BillingRecord) (c : Core) :
    (placeRecord e r c).queue = c.queue.place r := by simp [placeRecord]

theorem placeRecord_storesFit (e : Env) (r : BillingRecord) {c : Core} (h : c.StoresFit)
    (hr : c.queue.room = true) : (placeRecord e r c).StoresFit :=
  ⟨by rw [placeRecord_queue]; exact ExportQueue.place_fits r h.1 hr, by simpa using h.2⟩

theorem handOver_storesFit (e : Env) (r : BillingRecord) {c : Core} (h : c.StoresFit)
    (hr : c.queue.room = true) : (handOver e r c).StoresFit :=
  (placeRecord_storesFit e r (h.frame (d := c.onMeter fun m => { m with openRec := none }) (by simp))
    hr).frame ⟨rfl, rfl⟩

theorem splitRecord_storesFit (e : Env) (o : OpenRecord) {c : Core} (h : c.StoresFit)
    (hr : c.queue.room = true) : (splitRecord e o c).StoresFit :=
  placeRecord_storesFit e _ (h.frame (by simp)) hr

theorem closeRecord_storesFit {e : Env} {c : Core} (h : c.StoresFit) : (closeRecord e c).StoresFit := by
  unfold closeRecord
  split
  · exact h.frame (by simp)
  · split
    · exact h
    · simp only
      split
      · exact handOver_storesFit e _ (h.frame (by simp)) ‹_›
      · exact h.frame (by simp)

theorem closeRetained_storesFit {e : Env} {c : Core} (h : c.StoresFit) :
    (closeRetained e c).StoresFit := by
  unfold closeRetained
  split
  · exact h
  · split
    · exact h
    · simp only
      split
      · exact handOver_storesFit e _ h ‹_›
      · exact h.frame (by simp)

theorem roomReport_storesFit {e : Env} {c : Core} (h : c.StoresFit) : (roomReport e c).StoresFit := by
  unfold roomReport
  split
  · exact h
  next o _ =>
    split
    · exact h
    · have hr : c.queue.room = true := by simp_all
      split
      · exact handOver_storesFit e _ h hr
      · split
        · exact (splitRecord_storesFit e o h hr).frame (by simp)
        · exact h

theorem creditInterval_storesFit {e : Env} {energies : List (LineKey × Nat)} {c : Core}
    (h : c.StoresFit) : (creditInterval e energies c).StoresFit := by
  unfold creditInterval
  split
  · exact h
  next o _ =>
    simp only
    split
    · exact h.frame (by simp)
    · split
      · have hr : c.queue.room = true := by simp_all
        exact (splitRecord_storesFit e o h hr).frame (by simp)
      · split
        · split <;> exact h.frame (by simp)
        · exact h.frame (by simp)

theorem meteringDue_storesFit {e : Env} {c : Core} (h : c.StoresFit) : (meteringDue e c).StoresFit := by
  unfold meteringDue
  split
  · simp only
    split
    · exact h.frame (by simp)
    · exact creditInterval_storesFit (h.frame (by simp))
  · exact h

/-! ### The stop sequence (R32 to R37) -/

theorem enterClosed_storesFit {e : Env} {c : Core} (h : c.StoresFit) : (enterClosed e c).StoresFit := by
  have hclosed := closeRecord_storesFit (e := e) (c := monitorOnClosed e (authOnClosed
    ((changeState e .closed c).onSession fun s => { s with closePending := true })))
    (h.frame (by simp [authOnClosed]))
  exact hclosed.frame (by simp [enterClosed])

theorem confirmOpen_storesFit {e : Env} {c : Core} (h : c.StoresFit) : (confirmOpen e c).StoresFit :=
  enterClosed_storesFit (h.frame (by simp))

@[simp] theorem beginOpening_queue (c : Core) : (beginOpening c).queue = c.queue := by
  simp [beginOpening]
@[simp] theorem beginOpening_auth (c : Core) : (beginOpening c).auth = c.auth := by
  simp [beginOpening]

theorem openContactor_storesFit {e : Env} {c : Core} (h : c.StoresFit) :
    (openContactor e c).StoresFit := by
  unfold openContactor
  split
  · exact h.frame (by simp)
  · exact confirmOpen_storesFit (h.frame (by simp))

theorem startOpening_storesFit {e : Env} {cause : StopCause} {c : Core} (h : c.StoresFit) :
    (startOpening e cause c).StoresFit := by
  unfold startOpening
  split
  · exact enterClosed_storesFit h
  · exact h.frame (by simp)
  · split
    · exact openContactor_storesFit h
    · exact h.frame (by simp)
  · exact h

@[simp] theorem authOnStopping_allowList (c : Core) :
    (authOnStopping c).auth.allowList = c.auth.allowList := by
  unfold authOnStopping; split <;> rfl

theorem enterStopping_storesFit {e : Env} {cause : StopCause} {c : Core} (h : c.StoresFit) :
    (enterStopping e cause c).StoresFit :=
  startOpening_storesFit (h.frame (by simp))

theorem stopCause_storesFit {e : Env} {cause : StopCause} {c : Core} (h : c.StoresFit) :
    (stopCause e cause c).StoresFit := by
  unfold stopCause
  split
  case h_1 | h_2 | h_3 | h_4 => exact enterStopping_storesFit h
  case h_5 =>
    simp only
    split
    · exact openContactor_storesFit (h.frame (by simp))
    · exact h.frame (by simp)
  case h_6 | h_7 | h_8 => exact h

theorem converterFault_storesFit {e : Env} {c : Core} (h : c.StoresFit) :
    (converterFault e c).StoresFit := stopCause_storesFit (h.frame (by simp))

theorem auxChanged_storesFit {e : Env} {now : Bool} {c : Core} (h : c.StoresFit) :
    (auxChanged e now c).StoresFit := by
  unfold auxChanged
  split
  case h_1 => split <;> exact h.frame (by simp)
  case h_2 =>
    split
    · exact h
    · exact stopCause_storesFit h
  case h_3 =>
    split
    · exact h
    · exact confirmOpen_storesFit h
  case h_4 => exact h

/-! ### Authorization and start (R24 to R28, R47 to R54) -/

theorem energizeIfReady_storesFit {e : Env} {c : Core} (h : c.StoresFit) :
    (energizeIfReady e c).StoresFit := by
  unfold energizeIfReady beginEnergizing
  split
  · split
    · exact stopCause_storesFit (h.frame (by simp))
    · exact h.frame (by simp)
  · exact h

theorem reportGrant_storesFit {e : Env} {c : Core} (h : c.StoresFit) : (reportGrant e c).StoresFit := by
  unfold reportGrant
  split
  · exact energizeIfReady_storesFit (h.frame (by simp))
  · exact h

theorem reportTestPassed_storesFit {e : Env} {c : Core} (h : c.StoresFit) :
    (reportTestPassed e c).StoresFit := by
  unfold reportTestPassed
  split
  · exact energizeIfReady_storesFit (h.frame (by simp))
  · exact h

theorem reportTestFailed_storesFit {e : Env} {c : Core} (h : c.StoresFit) :
    (reportTestFailed e c).StoresFit := stopCause_storesFit (h.frame (by simp))

theorem grant_storesFit {e : Env} {st : AuthState} {mode : AuthMode} {c : Core} (h : c.StoresFit) :
    (grant e st mode c).StoresFit :=
  reportGrant_storesFit (h.frame (by simp))

theorem refuse_storesFit {e : Env} {cause : StopCause} {c : Core} (h : c.StoresFit) :
    (refuse e cause c).StoresFit :=
  stopCause_storesFit (h.frame (by simp))

theorem offlineDecision_storesFit {e : Env} {c : Core} (h : c.StoresFit) :
    (offlineDecision e c).StoresFit := by
  unfold offlineDecision
  split
  · exact refuse_storesFit h
  next tag _ =>
    have hkept : (c.onAuth fun a =>
        { a with allowList := (lookup c.meter tag c.auth.allowList).1 }).StoresFit :=
      ⟨h.1, h.2.sublist (lookup_sublist ..)⟩
    simp only
    split
    · exact grant_storesFit hkept
    · exact refuse_storesFit hkept

theorem decideAtEntry_storesFit {e : Env} {c : Core} (h : c.StoresFit) :
    (decideAtEntry e c).StoresFit := by
  unfold decideAtEntry
  split
  · exact grant_storesFit h
  · split
    · exact offlineDecision_storesFit h
    · exact h.frame (by simp [askPost])

theorem takeVerdict_storesFit {e : Env} {number : Half} {echo : Tag} {verdict : Byte} {c : Core}
    (h : c.StoresFit) : (takeVerdict e number echo verdict c).StoresFit := by
  unfold takeVerdict
  split
  · split
    · split
      · exact grant_storesFit (h.frame (by simp))
      · exact refuse_storesFit h
    · split
      · exact h.frame (by simp [lateAccept])
      · exact refuse_storesFit h
    all_goals exact h
  · exact h

theorem evaluateStart_storesFit {e : Env} {c : Core} (h : c.StoresFit) :
    (evaluateStart e c).StoresFit := by
  unfold evaluateStart enterAuthorizing
  split
  · exact decideAtEntry_storesFit (h.frame (by simp [fixIdentity]))
  · exact h

theorem enterIdle_storesFit {e : Env} {c : Core} (h : c.StoresFit) : (enterIdle e c).StoresFit :=
  h.frame (by simp [enterIdle])

theorem conclude_storesFit {e : Env} {c : Core} (h : c.StoresFit) : (conclude e c).StoresFit := by
  unfold conclude leaveClosed
  have hs := evaluateStart_storesFit (e := e) h
  split
  · split
    · exact enterIdle_storesFit hs
    · split
      · exact evaluateStart_storesFit (hs.frame (by simp))
      · exact hs
  · exact hs

/-! ### Sets, requests and verdicts at the session (R1, R21, R22, R41) -/

theorem sessionTakeSet_storesFit {stopping : Bool} {e : Env} {c : Core} (h : c.StoresFit) :
    (sessionTakeSet stopping e c).StoresFit := by
  unfold sessionTakeSet
  split
  case h_1 =>
    split
    · exact evaluateStart_storesFit (h.frame (by simp))
    · exact h
  case h_2 =>
    split
    · exact enterIdle_storesFit h
    · exact evaluateStart_storesFit h
  case h_3 | h_4 | h_5 | h_6 =>
    split
    · exact stopCause_storesFit h
    · exact h.frame (by simp)
  case h_7 =>
    split
    · exact stopCause_storesFit h
    · split
      · exact openContactor_storesFit h
      · exact h
  case h_8 => exact h

theorem takeSupply_storesFit {e : Env} {c : Core} (h : c.StoresFit) : (takeSupply e c).StoresFit := by
  unfold takeSupply
  split
  · exact h
  · split
    · split
      · exact h.frame (by simp)
      · exact h
    · split
      · exact stopCause_storesFit (h.frame (by simp))
      · exact h

theorem deliverSet_storesFit {stopping : Bool} {e : Env} {c : Core} (h : c.StoresFit) :
    (deliverSet stopping e c).StoresFit := by
  have hses : (if c.active then sessionTakeSet stopping e c else c).StoresFit := by
    split
    · exact sessionTakeSet_storesFit h
    · exact h
  exact takeSupply_storesFit (hses.frame (by simp))

theorem reviewAux_storesFit {was : Bool} {e : Env} {c : Core} (h : c.StoresFit) :
    (reviewAux was e c).StoresFit := by
  unfold reviewAux
  split
  · exact h
  · exact auxChanged_storesFit h

theorem windowFault_storesFit {e : Env} {c : Core} (h : c.StoresFit) : (windowFault e c).StoresFit := by
  unfold windowFault
  split
  · exact converterFault_storesFit h
  · exact h

theorem windowDeliveries_storesFit {wasAux : Bool} {faults : Byte} {first : Bool} {e : Env} {c : Core}
    (h : c.StoresFit) : (windowDeliveries wasAux faults first e c).StoresFit := by
  have haux : (reviewAux wasAux e (postSensorFault faults c)).StoresFit :=
    reviewAux_storesFit (h.frame (by simp))
  refine conclude_storesFit ?_
  split
  · exact deliverSet_storesFit (windowFault_storesFit haux)
  · exact windowFault_storesFit (deliverSet_storesFit haux)

theorem deliverOffer_storesFit {before : Nat} {valid : Bool} {e : Env} {c : Core} (h : c.StoresFit) :
    (deliverOffer before valid e c).StoresFit := by
  unfold deliverOffer
  split
  · exact h
  · refine conclude_storesFit (h.frame ?_)
    split <;> simp

theorem inputChanged_storesFit {d : DigitalInput} {wasAux event : Bool} {e : Env} {c : Core}
    (h : c.StoresFit) : (inputChanged d wasAux event e c).StoresFit := by
  unfold inputChanged
  split
  · exact conclude_storesFit (reviewAux_storesFit h)
  · split
    · exact conclude_storesFit (converterFault_storesFit h)
    · exact h
  · exact h

theorem takeRequest_storesFit {e : Env} {r : ChargeRequest} {c : Core} (h : c.StoresFit) :
    (takeRequest e r c).StoresFit := by
  unfold takeRequest
  simp only
  split
  · unfold takeRelease
    split
    case h_1 | h_2 | h_3 | h_4 | h_5 => exact stopCause_storesFit (h.frame (by simp))
    all_goals exact h.frame (by simp)
  · exact h.frame (by simp)

theorem releaseReset_storesFit {e : Env} {c : Core} (h : c.StoresFit) :
    (releaseReset e c).StoresFit := by
  unfold releaseReset
  split
  case h_1 | h_2 | h_3 => exact h.frame (by simp)
  all_goals exact stopCause_storesFit (h.frame (by simp))

/-! ### Timers of the session (R22, R27, R31, R35, R36, R53) -/

theorem closeTimeout_storesFit {e : Env} {c : Core} (h : c.StoresFit) :
    (closeTimeout e c).StoresFit := by
  unfold closeTimeout
  split
  · exact conclude_storesFit (stopCause_storesFit (h.frame (by simp)))
  · exact h

theorem openTimeout_storesFit {e : Env} {c : Core} (h : c.StoresFit) : (openTimeout e c).StoresFit := by
  unfold openTimeout
  split
  · refine conclude_storesFit ?_
    split
    · exact confirmOpen_storesFit (h.frame (by simp))
    · exact confirmOpen_storesFit h
  · exact h

theorem waitTimeout_storesFit {e : Env} {c : Core} (h : c.StoresFit) : (waitTimeout e c).StoresFit := by
  unfold waitTimeout
  split
  · exact conclude_storesFit (openContactor_storesFit h)
  · exact h

theorem pauseTimeout_storesFit {e : Env} {c : Core} (h : c.StoresFit) :
    (pauseTimeout e c).StoresFit := by
  unfold pauseTimeout
  split
  · exact conclude_storesFit (stopCause_storesFit h)
  · exact h

theorem requestTimeout_storesFit {e : Env} {c : Core} (h : c.StoresFit) :
    (requestTimeout e c).StoresFit := by
  unfold requestTimeout
  split
  · exact conclude_storesFit (h.frame (by simp))
  · exact h

theorem authTimeout_storesFit {e : Env} {c : Core} (h : c.StoresFit) : (authTimeout e c).StoresFit := by
  unfold authTimeout
  split
  · simp only
    split
    · exact conclude_storesFit (offlineDecision_storesFit (h.frame ⟨rfl, rfl⟩))
    · exact h.frame ⟨rfl, rfl⟩
  · exact h

/-! ### The insulation monitor (R108 to R117) -/

theorem failTest_storesFit {e : Env} {c : Core} (h : c.StoresFit) : (failTest e c).StoresFit := by
  unfold failTest
  simp only
  split
  · exact (reportTestFailed_storesFit (h.frame (by simp))).frame ⟨rfl, rfl⟩
  · exact reportTestFailed_storesFit (h.frame (by simp))

theorem judgeTest_storesFit {e : Env} {r : RIso} {c : Core} (h : c.StoresFit) :
    (judgeTest e r c).StoresFit := by
  unfold judgeTest
  split
  · simp only
    split
    · unfold passTest
      split
      · exact h.frame (by simp [endStarting])
      · exact reportTestPassed_storesFit (h.frame (by simp))
    · exact h.frame (by simp)
  · exact failTest_storesFit h

theorem setResult_storesFit {e : Env} {new : ResultState} {c : Core} (h : c.StoresFit) :
    (setResult e new c).StoresFit := by
  unfold setResult
  split
  · exact h
  · split
    case h_1 =>
      have hstop := stopCause_storesFit (e := e) (cause := .insulationFault)
        (h.frame (d := reportFall (commandLine c) (post .insulationFault
          (c.onMon fun m => { m with result := .fault, faultResult := m.last }))) (by simp))
      exact hstop.frame (by simp [enterFault])
    all_goals exact h.frame (by simp)

theorem judgeBus_storesFit {e : Env} {r : RIso} {c : Core} (h : c.StoresFit) :
    (judgeBus e r c).StoresFit := by
  unfold judgeBus
  split
  · exact h
  · exact setResult_storesFit (h.frame (by simp))

theorem discardHalf_storesFit {e : Env} {c : Core} (h : c.StoresFit) : (discardHalf e c).StoresFit := by
  unfold discardHalf endWithoutResult
  split
  · exact h.frame (by simp)
  · split
    · exact h.frame (by simp)
    · split
      · exact failTest_storesFit (h.frame (by simp))
      all_goals exact reportTestFailed_storesFit (h.frame (by simp))

theorem takeResult_storesFit {e : Env} {r : RIso} {c : Core} (h : c.StoresFit) :
    (takeResult e r c).StoresFit := by
  unfold takeResult
  split
  · exact judgeTest_storesFit (h.frame (by simp))
  all_goals exact judgeBus_storesFit (h.frame (by simp))

theorem decideHalf_storesFit {e : Env} {c : Core} (h : c.StoresFit) : (decideHalf e c).StoresFit := by
  have haccept : (acceptHalf e c).StoresFit := by
    unfold acceptHalf
    simp only
    split
    · exact h.frame (by simp)
    · exact h.frame (by simp)
    · exact takeResult_storesFit (h.frame (by simp))
  unfold decideHalf
  split
  · exact discardHalf_storesFit h
  · exact haccept.frame (by simp)

theorem halfPeriodEnd_storesFit {samples : List Int} {e : Env} {c : Core} (h : c.StoresFit) :
    (halfPeriodEnd samples e c).StoresFit := by
  unfold halfPeriodEnd
  split
  · have hdecide := decideHalf_storesFit (e := e) (h.frame (d := c.onMon (takeSamples samples)) (by simp))
    exact conclude_storesFit (hdecide.frame (by simp))
  · exact h

/-! ### Messages of the post (R156 to R158) -/

theorem deliverVerdict_storesFit {number : Half} {echo : Tag} {verdict : Byte} {e : Env} {c : Core}
    (h : c.StoresFit) : (deliverVerdict number echo verdict e c).StoresFit := by
  unfold deliverVerdict
  exact conclude_storesFit (takeVerdict_storesFit h)

theorem deliverStop_storesFit {e : Env} {c : Core} (h : c.StoresFit) : (deliverStop e c).StoresFit := by
  unfold deliverStop
  exact conclude_storesFit (stopCause_storesFit h)

/-- A message goes to the owner of its kind, or to none for want of a layout (R158). -/
theorem deliver_storesFit {e : Env} {c : Core} (h : c.StoresFit) :
    ∀ (k : PostKind) (content : List Byte), (deliver k content e c).StoresFit
  | .powerLimit, [a, b] => show (takePowerLimit (leVal [a, b]) c).StoresFit from h.frame (by simp)
  | .authVerdict, a :: b :: rest => by
    show (match Tag.ofBytes (rest.take 8), rest.drop 8 with
      | some echo, [verdict] => deliverVerdict (BitVec.ofNat 16 (leVal [a, b])) echo verdict e c
      | _, _ => c).StoresFit
    split
    · exact deliverVerdict_storesFit h
    · exact h
  | .tariff, [version, index, count, m0, m1, p0, p1] =>
    show (takeTariff e version index.toNat count.toNat (leVal [m0, m1]) (leVal [p0, p1]) c).StoresFit
    from h.frame (by simp)
  | .time, [a, b, x, y] =>
    show (setClock .post (BitVec.ofNat 32 (leVal [a, b, x, y])) none c).StoresFit from h.frame (by simp)
  | .time, [a, b, x, y, o0, o1] =>
    show (setClock .post (BitVec.ofNat 32 (leVal [a, b, x, y])) (some (signed16 (leVal [o0, o1])))
      c).StoresFit from h.frame (by simp)
  | .stop, [] => deliverStop_storesFit h
  | .powerLimit, [] | .powerLimit, [_] | .powerLimit, _ :: _ :: _ :: _ => h
  | .authVerdict, [] | .authVerdict, [_] => h
  | .tariff, [] | .tariff, [_] | .tariff, [_, _] | .tariff, [_, _, _] | .tariff, [_, _, _, _]
  | .tariff, [_, _, _, _, _] | .tariff, [_, _, _, _, _, _]
  | .tariff, _ :: _ :: _ :: _ :: _ :: _ :: _ :: _ :: _ => h
  | .time, [] | .time, [_] | .time, [_, _] | .time, [_, _, _] | .time, [_, _, _, _, _]
  | .time, _ :: _ :: _ :: _ :: _ :: _ :: _ :: _ => h
  | .stop, _ :: _ => h

theorem receiveFrame_storesFit {f : CanFrame} {e : Env} {c : Core} (h : c.StoresFit) :
    (receiveFrame f e c).StoresFit := by
  unfold receiveFrame
  split
  · split
    · unfold takeSegment
      simp only
      split
      · split
        · exact deliver_storesFit (h.frame (by simp)) _ _
        · exact h.frame (by simp)
      · exact h.frame (by simp)
    · exact h
  · exact h

end Sys2Proof.Machine
end

section
/-! PROOFS. The stores of the part (R57, R144, R146, R174 to R176): every owner of a request, every transaction of the
two ports and every other command keeps them within bounds. -/

namespace Sys2Proof.Machine

/-- The stores of the blocks and the fleet port keep their bounds. -/
def State.StoresFit (s : State) : Prop := s.core.StoresFit ∧ s.fport.Fits

/-- The stores are empty after a COLD reset, and no request is outstanding (R61, R154, R181). -/
theorem reset_storesFit : State.reset.StoresFit :=
  ⟨⟨⟨by decide, nofun⟩, by decide, by decide⟩, by decide, rfl, nofun⟩

section
variable {s : State} (h : s.StoresFit)
include h

/-- An effect of the blocks that keeps their stores keeps those of the part. -/
theorem State.StoresFit.run {f : Env → Core → Core}
    (hf : ∀ {e : Env} {c : Core}, c.StoresFit → (f e c).StoresFit) : (s.run f).StoresFit :=
  ⟨hf h.1, h.2⟩

/-- An event of the blocks that keeps their stores keeps those of the part, held, asleep or up. -/
theorem State.StoresFit.event {f : Env → Core → Core}
    (hf : ∀ {e : Env} {c : Core}, c.StoresFit → (f e c).StoresFit) : (s.event f).StoresFit := by
  unfold State.event
  split
  · exact h.run hf
  · exact h

/-- The next state of a command has the stores of its effect. -/
theorem State.StoresFit.done {t : State} (ht : s.done = .next t) : t.StoresFit := by
  rw [State.done_eq] at ht
  cases ht
  exact h

/-! ### Resets, sleep and wake (R184, R189) -/

theorem wakeUp_storesFit (sources : Byte) : (wakeUp sources s).StoresFit := by
  obtain ⟨hcore, hfifo, -⟩ := h
  exact ⟨hcore.frame ⟨postWake_queue .., congrArg Auth.allowList (postWake_auth ..)⟩, hfifo, rfl, nofun⟩

theorem wakeByFleet_storesFit : (wakeByFleet s).StoresFit := by
  unfold wakeByFleet
  split
  · exact wakeUp_storesFit h _
  · exact h

theorem leaveReset_storesFit (kind : ResetKind) : (leaveReset kind s).StoresFit := by
  unfold leaveReset
  split
  · exact reset_storesFit
  all_goals exact ⟨closeRetained_storesFit (h.1.frame ⟨rfl, rfl⟩), reset_storesFit.2⟩

theorem releaseAction_storesFit (a : DeferredAction) : (releaseAction a s).StoresFit := by
  unfold releaseAction
  split
  · exact h
  · exact h.run fun hc => conclude_storesFit (releaseReset_storesFit hc)
  · unfold releaseSleep
    split
    · split
      · exact h
      · exact ⟨h.1.frame (by simp), h.2⟩
    · exact h

end

/-! ### An addition keeps the bounds of the allow-list (R57, R58) -/

/-- An entry put in the place of the one with its tag leaves the tags as they are (R58). -/
theorem map_tag_replace (new : AllowEntry) (l : List AllowEntry) :
    (l.map fun a => if a.tag = new.tag then new else a).map (·.tag) = l.map (·.tag) := by
  rw [List.map_map]
  refine List.map_congr_left fun a _ => ?_
  simp only [Function.comp]
  split
  · exact Eq.symm ‹_›
  · rfl

/-- Adding an entry keeps one place per tag and at most 16 of them (R57, R58). -/
theorem allowAdded_fits (m : Meter) (new : AllowEntry) {l : List AllowEntry} (h : AllowFits l) :
    AllowFits (allowAdded m new l).1 := by
  have hkept : AllowFits (examined m new.tag l) := h.sublist List.filter_sublist
  unfold allowAdded
  simp only
  split
  · exact ⟨by simpa using hkept.1, by rw [map_tag_replace]; exact hkept.2⟩
  next hany =>
    have hnew : ∀ a ∈ examined m new.tag l, a.tag ≠ new.tag := by simpa using hany
    split
    · refine ⟨by simp only [List.length_append, List.length_singleton]; omega, ?_⟩
      rw [List.map_append, List.nodup_append]
      exact ⟨hkept.2, by simp, by simpa using hnew⟩
    · exact hkept

/-! ### The owners of the requests (R177) -/

/-- The owner keeps the stores of the part, whatever the content. -/
def KeepsStores (own : Owner) : Prop :=
  ∀ (content : List Byte) (s : State), s.StoresFit → (own content s).state.StoresFit

theorem withoutContent_keepsStores {act : State → Answer}
    (h : ∀ s : State, s.StoresFit → (act s).state.StoresFit) : KeepsStores (withoutContent act) := by
  intro content s hs
  unfold withoutContent
  split
  · exact h s hs
  · exact hs

theorem withOperand_keepsStores {α : Type} {form : List Byte → Option α} {act : α → State → Answer}
    (h : ∀ (a : α) (s : State), s.StoresFit → (act a s).state.StoresFit) :
    KeepsStores (withOperand form act) := by
  intro content s hs
  unfold withOperand
  split
  · exact h _ s hs
  · exact hs

theorem dispatch_keepsStores {own : Owner} (h : KeepsStores own) : KeepsStores (dispatch own) := by
  intro content s hs
  unfold dispatch
  split
  · exact hs
  · exact h content s hs

theorem ownBadRequest_keepsStores : KeepsStores ownBadRequest := fun _ _ hs => hs

theorem ownPoll_keepsStores : KeepsStores ownPoll := withoutContent_keepsStores fun _ hs => hs

theorem ownReadStatus_keepsStores : KeepsStores ownReadStatus :=
  withoutContent_keepsStores fun _ hs => hs

theorem ownChargeRequest_keepsStores : KeepsStores ownChargeRequest :=
  withOperand_keepsStores fun _ _ hs =>
    hs.run fun hc => conclude_storesFit (takeRequest_storesFit hc)

theorem ownStop_keepsStores : KeepsStores ownStop := withoutContent_keepsStores fun s hs => by
  split
  · exact hs.run fun hc => conclude_storesFit (stopCause_storesFit hc)
  · exact hs

theorem ownClearWeld_keepsStores : KeepsStores ownClearWeld :=
  withOperand_keepsStores fun _ s hs => by
    split
    · exact hs
    · split
      · exact hs
      · exact hs.run fun hc => conclude_storesFit (hc.frame (by simp))

theorem ownSetDriverTag_keepsStores : KeepsStores ownSetDriverTag :=
  withOperand_keepsStores fun _ _ hs => hs.run fun hc => conclude_storesFit (hc.frame (by simp))

theorem ownClearInsulationFault_keepsStores : KeepsStores ownClearInsulationFault :=
  withoutContent_keepsStores fun s hs => by
    split
    · exact hs
    · exact hs.run fun hc => conclude_storesFit (hc.frame (by simp))

theorem ownReadInsulation_keepsStores : KeepsStores ownReadInsulation :=
  withoutContent_keepsStores fun _ hs => hs

theorem ownWriteConfig_keepsStores : KeepsStores ownWriteConfig := by
  intro content s hs
  unfold ownWriteConfig
  split
  · exact hs
  · split
    · exact hs
    · exact ⟨conclude_storesFit hs.1, hs.2⟩

theorem ownReadConfig_keepsStores : KeepsStores ownReadConfig :=
  withoutContent_keepsStores fun _ hs => hs

theorem ownWriteTempTable_keepsStores : KeepsStores ownWriteTempTable :=
  withOperand_keepsStores fun _ s hs => by
    split
    · exact hs
    · split <;> exact hs

theorem ownSleep_keepsStores : KeepsStores ownSleep := withoutContent_keepsStores fun s hs => by
  split
  · exact hs
  · split <;> exact hs

theorem ownReset_keepsStores : KeepsStores ownReset := withoutContent_keepsStores fun _ hs => hs

theorem ownIdentify_keepsStores : KeepsStores ownIdentify := withoutContent_keepsStores fun _ hs => hs

theorem ownEnableNotices_keepsStores (p : Port) : KeepsStores (ownEnableNotices p) :=
  withOperand_keepsStores fun _ _ hs => hs

theorem ownAckNotices_keepsStores (p : Port) : KeepsStores (ownAckNotices p) :=
  withOperand_keepsStores fun _ _ hs => hs

theorem ownReadOldestRecord_keepsStores : KeepsStores ownReadOldestRecord :=
  withoutContent_keepsStores fun s hs => by split <;> exact hs

theorem ownReleaseRecord_keepsStores : KeepsStores ownReleaseRecord :=
  withOperand_keepsStores fun _ s hs => by
    split
    · exact hs
    · split
      · exact hs.run fun hc =>
          conclude_storesFit (roomReport_storesFit ⟨ExportQueue.release_fits hc.1, hc.2⟩)
      · exact hs

theorem ownReadOpenRecord_keepsStores : KeepsStores ownReadOpenRecord :=
  withoutContent_keepsStores fun _ hs => hs

theorem ownSetTime_keepsStores : KeepsStores ownSetTime := withOperand_keepsStores fun _ s hs => by
  split
  · exact hs
  · exact ⟨hs.1.frame ⟨setClock_queue .., congrArg Auth.allowList (setClock_auth ..)⟩, hs.2⟩

theorem ownSetSpendCap_keepsStores : KeepsStores ownSetSpendCap :=
  withOperand_keepsStores fun _ _ hs => hs

theorem ownAllowAdd_keepsStores : KeepsStores ownAllowAdd := withOperand_keepsStores fun new s hs => by
  have hadd : (s.withAllow (allowAdded s.core.meter new s.core.auth.allowList).1).StoresFit :=
    ⟨⟨hs.1.1, allowAdded_fits _ _ hs.1.2⟩, hs.2⟩
  simp only
  split <;> exact hadd

theorem ownAllowRemove_keepsStores : KeepsStores ownAllowRemove :=
  withOperand_keepsStores fun tag s hs => by
    have hrem : (s.withAllow (s.core.auth.allowList.filter
        fun a => a.tag ≠ tag && !a.expired s.core.meter)).StoresFit :=
      ⟨⟨hs.1.1, hs.1.2.sublist List.filter_sublist⟩, hs.2⟩
    simp only
    split <;> exact hrem

theorem ownAllowRead_keepsStores : KeepsStores ownAllowRead :=
  withoutContent_keepsStores fun _ hs => hs

/-- Every owner that a vehicle request type names keeps the stores. -/
theorem vehicleOwner_keepsStores {n : Nat} {o : Owner × DeferredAction} (h : vehicleOwner n = some o) :
    KeepsStores o.1 := by
  unfold vehicleOwner at h
  split at h <;> cases h
  · exact dispatch_keepsStores ownPoll_keepsStores
  · exact dispatch_keepsStores ownReadStatus_keepsStores
  · exact dispatch_keepsStores ownChargeRequest_keepsStores
  · exact dispatch_keepsStores ownStop_keepsStores
  · exact dispatch_keepsStores ownClearWeld_keepsStores
  · exact dispatch_keepsStores ownSetDriverTag_keepsStores
  · exact dispatch_keepsStores ownClearInsulationFault_keepsStores
  · exact dispatch_keepsStores ownReadInsulation_keepsStores
  · exact dispatch_keepsStores ownWriteConfig_keepsStores
  · exact dispatch_keepsStores ownReadConfig_keepsStores
  · exact dispatch_keepsStores ownWriteTempTable_keepsStores
  · exact dispatch_keepsStores ownSleep_keepsStores
  · exact dispatch_keepsStores ownReset_keepsStores
  · exact ownIdentify_keepsStores
  · exact dispatch_keepsStores (ownEnableNotices_keepsStores _)
  · exact dispatch_keepsStores (ownAckNotices_keepsStores _)

/-- Every owner that a fleet request type names keeps the stores. -/
theorem fleetOwner_keepsStores {n : Nat} {own : Owner} (h : fleetOwner n = some own) :
    KeepsStores own := by
  unfold fleetOwner at h
  split at h <;> cases h
  · exact dispatch_keepsStores ownReadOldestRecord_keepsStores
  · exact dispatch_keepsStores ownReleaseRecord_keepsStores
  · exact dispatch_keepsStores ownReadOpenRecord_keepsStores
  · exact dispatch_keepsStores ownSetTime_keepsStores
  · exact dispatch_keepsStores ownSetSpendCap_keepsStores
  · exact dispatch_keepsStores ownAllowAdd_keepsStores
  · exact dispatch_keepsStores ownAllowRemove_keepsStores
  · exact dispatch_keepsStores ownAllowRead_keepsStores
  · exact ownIdentify_keepsStores
  · exact dispatch_keepsStores (ownEnableNotices_keepsStores _)
  · exact dispatch_keepsStores (ownAckNotices_keepsStores _)

theorem bodyOwner_keepsStores (body : List Byte) : KeepsStores (bodyOwner body) := by
  unfold bodyOwner
  split
  · cases ho : fleetOwner (headerByte body 0).toNat with
    | none => exact ownBadRequest_keepsStores
    | some own => exact fleetOwner_keepsStores ho
  · exact ownBadRequest_keepsStores

/-! ### The transactions of the vehicle port (R170, R172) -/

section
variable {s : State} (h : s.StoresFit)
include h

theorem releaseDeferred_storesFit : (releaseDeferred s).StoresFit :=
  releaseAction_storesFit (s := (shiftHeld s).onVport _) h _

theorem vehicleRequest_storesFit {own : Owner} (hk : KeepsStores own) (kind seq : Byte)
    (action : DeferredAction) (content : List Byte) :
    (vehicleRequest kind seq action own content s).StoresFit := by
  unfold vehicleRequest
  split
  · exact h
  · split
    · exact wakeUp_storesFit h _
    · split
      · exact h
      · split
        · exact releaseDeferred_storesFit h
        · exact hk content (shiftHeld s) h

theorem busyTransaction_storesFit : (busyTransaction s).StoresFit := by
  unfold busyTransaction
  split
  · exact h
  · split
    · exact wakeUp_storesFit h _
    · exact h

theorem answerRequest_storesFit : (answerRequest s).StoresFit := by
  unfold answerRequest
  split
  · split <;> exact h
  all_goals exact h

theorem collectDeferred_storesFit : (collectDeferred s).StoresFit := by
  unfold collectDeferred
  split
  · exact releaseDeferred_storesFit h
  · exact h

theorem vehicleBytes_storesFit (bytes : List Byte) : (vehicleBytes bytes s).StoresFit := by
  unfold vehicleBytes
  split
  next o ho =>
    refine vehicleRequest_storesFit h ?_ _ _ _ _
    split at ho
    · exact vehicleOwner_keepsStores ho
    · cases ho
  · exact vehicleRequest_storesFit h ownBadRequest_keepsStores _ _ _ _

end

/-! ### Bytes and requests of the fleet port (R173 to R176) -/

/-- The FIFO without the frame at its head is no longer than it was (R174). -/
theorem headFrame_rest_length {fifo frame rest : List Byte} (h : headFrame fifo = some (frame, rest)) :
    rest.length ≤ fifo.length := by
  unfold headFrame at h
  split at h
  · cases h
  next flag inner heq =>
    split at h
    · cases h
      calc (inner.dropWhile (· ≠ flagByte)).length
          ≤ inner.length := (List.dropWhile_sublist _).length_le
        _ ≤ (fifo.dropWhile (· ≠ flagByte)).length := by rw [heq]; simp
        _ ≤ fifo.length := (List.dropWhile_sublist _).length_le
    · cases h

/-- A response that begins makes its request outstanding, its next byte within it (R176). -/
theorem respondFleet_storesFit (req : Request) {a : Answer} (h : a.state.StoresFit) :
    (respondFleet req a).StoresFit := by
  obtain ⟨hcore, hfifo, -⟩ := h
  refine ⟨hcore, hfifo, rfl, fun x hx => ?_⟩
  cases hx
  have hpos := frameOf_length_pos (responseBytes (responseTo .fleet req.kind req.seq a))
  simp only [TxProgress.start]
  split <;> omega

/-- A change of the FIFO within its 64 places, with outstanding request and response as they are (R174). -/
theorem State.StoresFit.withFifo {s : State} (h : s.StoresFit) {l : List Byte} (rx : RxState)
    (hl : l.length ≤ 64) : (s.onFport fun p => { p with fifo := l, rx := rx }).StoresFit :=
  ⟨h.1, hl, h.2.2⟩

theorem closingFlag_storesFit {s : State} (h : s.StoresFit) : (s.onFport closingFlag).StoresFit :=
  h.withFifo _ (by decide)

theorem takeBody_storesFit (body : List Byte) {s : State} (h : s.StoresFit) : (takeBody body s).StoresFit :=
  respondFleet_storesFit _ (bodyOwner_keepsStores body _ s h)

theorem takeFrames_storesFit (n : Nat) {s : State} (h : s.StoresFit) : (takeFrames n s).StoresFit := by
  induction n generalizing s with
  | zero => exact h
  | succ n ih =>
    unfold takeFrames
    split
    · exact h
    · split
      · exact h
      next frame rest heq =>
        have hrest : (s.onFport fun p => { p with fifo := rest }).StoresFit :=
          h.withFifo s.fport.rx (Nat.le_trans (headFrame_rest_length heq) h.2.1)
        simp only
        split
        · exact ih hrest
        · exact takeBody_storesFit _ hrest

theorem takeFleet_storesFit {s : State} (h : s.StoresFit) : (takeFleet s).StoresFit :=
  takeFrames_storesFit _ h

theorem arrive_storesFit (bytes : List Byte) {s : State} (h : s.StoresFit) :
    (arrive bytes s).StoresFit := by
  induction bytes generalizing s with
  | nil => exact h
  | cons b bytes ih => exact ih (takeFleet_storesFit ⟨h.1, receiveByte_fits b h.2⟩)

section
variable {s : State} (h : s.StoresFit)
include h

theorem fleetRequest_storesFit {own : Owner} (hk : KeepsStores own) (kind seq : Byte)
    (content : List Byte) : (fleetRequest kind seq own content s).StoresFit := by
  have hawake := wakeByFleet_storesFit h
  unfold fleetRequest
  simp only
  split
  · exact h
  · split
    · exact respondFleet_storesFit _ (hk _ _ (closingFlag_storesFit hawake))
    · exact arrive_storesFit _ hawake

theorem fleetBytes_storesFit (body : List Byte) : (fleetBytes body s).StoresFit := by
  have hawake := wakeByFleet_storesFit h
  unfold fleetBytes
  simp only
  split
  · exact h
  · split
    · split
      · exact closingFlag_storesFit hawake
      · exact takeBody_storesFit _ (closingFlag_storesFit hawake)
    · exact arrive_storesFit _ hawake

theorem flowByte_storesFit (pause : Bool) : (flowByte pause s).StoresFit := by
  obtain ⟨hcore, hport⟩ := wakeByFleet_storesFit h
  exact takeFleet_storesFit ⟨hcore, FleetPort.setFlow_fits pause hport⟩

theorem fleetByte_storesFit (b : Byte) : (fleetByte b s).StoresFit := by
  unfold fleetByte
  split
  · exact flowByte_storesFit h _
  · split
    · exact flowByte_storesFit h _
    · exact arrive_storesFit [b] (wakeByFleet_storesFit h)

theorem framingError_storesFit : (framingError s).StoresFit := by
  obtain ⟨hcore, hfifo, hresp⟩ := wakeByFleet_storesFit h
  exact ⟨hcore, Nat.le_trans (completePart_length _) hfifo, hresp⟩

theorem responseSent_storesFit : (responseSent s).StoresFit := by
  unfold responseSent
  split
  · exact takeFleet_storesFit ⟨h.1, h.2.1, rfl, nofun⟩
  · exact h

theorem State.StoresFit.fleetEvent {f : State → State} (hf : ∀ {s : State}, s.StoresFit → (f s).StoresFit) :
    (s.fleetEvent f).StoresFit := by
  unfold State.fleetEvent
  split
  · exact h
  · exact hf h

/-! ### The other events of the part -/

theorem captureStep_storesFit (f : Mfe → Mfe) : (s.captureStep f).StoresFit := by
  unfold State.captureStep
  split
  · exact ⟨deliverOffer_storesFit h.1, h.2⟩
  · exact h

theorem windowClose_storesFit (w : WindowSamples) (first : Bool) : (s.windowClose w first).StoresFit := by
  unfold State.windowClose
  split
  · exact ⟨windowDeliveries_storesFit h.1, h.2⟩
  · exact h

theorem settledChange_storesFit (d : DigitalInput) (level : LineLevel) :
    (settledChange d level s).StoresFit := by
  unfold settledChange
  split
  · exact h
  · split
    · exact ⟨inputChanged_storesFit h.1, h.2⟩
    · split
      · unfold settledAsleep
        split
        · simp only
          split
          · exact wakeUp_storesFit (s := s.onMfe _) h _
          · exact h
        all_goals exact h
      · exact h

theorem wakeEvent_storesFit (pilot vehicle flap : Bool) (byte : Option Byte) :
    (wakeEvent pilot vehicle flap byte s).StoresFit := by
  have hup := wakeUp_storesFit h (wakeSources pilot vehicle flap byte)
  have hshift : (if vehicle then shiftBusy (wakeUp (wakeSources pilot vehicle flap byte) s)
      else wakeUp (wakeSources pilot vehicle flap byte) s).StoresFit := by
    split <;> exact hup
  unfold wakeEvent
  split
  · simp only
    unfold wakeByte
    split
    · exact fleetByte_storesFit hshift _
    · exact hshift
  · exact h

theorem resetExit_storesFit : (resetExit s).StoresFit := by
  unfold resetExit
  split
  · exact leaveReset_storesFit h _
  · exact h

end

/-! ### Every command (R57, R144, R146, R174 to R176) -/

/-- Every command keeps the stores: an event of the blocks by the rule of its effect, a request by its owner's. -/
theorem exec_storesFit (i : Instr) {s t : State} (h : s.StoresFit) (ht : exec i s = .next t) :
    t.StoresFit := by
  cases i with
  | measurementWindowClose w first => exact (windowClose_storesFit h w first).done ht
  | pilotRisingEdge | pilotFallingEdge | staticTimerExpiry =>
    exact (captureStep_storesFit h _).done ht
  | digitalInputSettledChange d level => exact (settledChange_storesFit h d level).done ht
  | closeConfirmTimeout => exact (h.event closeTimeout_storesFit).done ht
  | openConfirmTimeout => exact (h.event openTimeout_storesFit).done ht
  | currentWaitTimerExpiry => exact (h.event waitTimeout_storesFit).done ht
  | pauseTimerExpiry => exact (h.event pauseTimeout_storesFit).done ht
  | requestExpiry => exact (h.event requestTimeout_storesFit).done ht
  | authTimerExpiry => exact (h.event authTimeout_storesFit).done ht
  | halfPeriodTimerExpiry _ => exact (h.event halfPeriodEnd_storesFit).done ht
  | meteringTimerExpiry => exact (h.event meteringDue_storesFit).done ht
  | allocationTimerExpiry | slotTimerExpiry | quietWindowOpen | powerLimit | tariff | time
  | linkAliveTimerExpiry | postLimitTimerExpiry | statusTimerExpiry | transmitAttemptStart
  | transmitAttemptEnd | messageTimerExpiry => exact (h.event fun hc => hc.frame (by simp)).done ht
  | timeCounterTick =>
    exact State.StoresFit.done (s := s.onCore tick) ⟨h.1.frame (by simp), h.2⟩ ht
  | receiveSegment _ => exact (h.event receiveFrame_storesFit).done ht
  | authVerdict _ _ _ => exact (h.event fun hc => deliverVerdict_storesFit (hc.frame (by simp))).done ht
  | stopMessage => exact (h.event fun hc => deliverStop_storesFit (hc.frame (by simp))).done ht
  | resetPin => exact State.StoresFit.done (s := s.onCore resetPin) ⟨h.1.frame (by simp), h.2⟩ ht
  | supplyHeldReset =>
    have hcut : (cutStop s.core).StoresFit := by
      unfold cutStop
      split
      · exact h.1.frame (by simp)
      · exact h.1
    exact State.StoresFit.done (s := s.onCore fun c => takeReset .supply (cutStop c))
      ⟨hcut.frame (by simp), h.2⟩ ht
  | retentionSupplyFall => exact State.StoresFit.done (s := s.onCore loseRetention) h ht
  | resetExit => exact (resetExit_storesFit h).done ht
  | wake pilot vehicle flap byte => exact (wakeEvent_storesFit h pilot vehicle flap byte).done ht
  | xon => exact (h.fleetEvent fun hs => flowByte_storesFit hs false).done ht
  | xoff => exact (h.fleetEvent fun hs => flowByte_storesFit hs true).done ht
  | framingError => exact (h.fleetEvent framingError_storesFit).done ht
  | fleetByteReceived b => exact (h.fleetEvent fun hs => fleetByte_storesFit hs b).done ht
  | fleetResponseSent => exact (h.fleetEvent responseSent_storesFit).done ht
  | poll _ _ =>
    exact (vehicleRequest_storesFit h (dispatch_keepsStores ownPoll_keepsStores) ..).done ht
  | readStatus _ _ =>
    exact (vehicleRequest_storesFit h (dispatch_keepsStores ownReadStatus_keepsStores) ..).done ht
  | chargeRequest _ _ =>
    exact (vehicleRequest_storesFit h (dispatch_keepsStores ownChargeRequest_keepsStores) ..).done ht
  | stop _ _ =>
    exact (vehicleRequest_storesFit h (dispatch_keepsStores ownStop_keepsStores) ..).done ht
  | clearWeld _ _ =>
    exact (vehicleRequest_storesFit h (dispatch_keepsStores ownClearWeld_keepsStores) ..).done ht
  | setDriverTag _ _ =>
    exact (vehicleRequest_storesFit h (dispatch_keepsStores ownSetDriverTag_keepsStores) ..).done ht
  | clearInsulationFault _ _ =>
    exact (vehicleRequest_storesFit h (dispatch_keepsStores ownClearInsulationFault_keepsStores) ..).done ht
  | readInsulation _ _ =>
    exact (vehicleRequest_storesFit h (dispatch_keepsStores ownReadInsulation_keepsStores) ..).done ht
  | writeConfig _ _ =>
    exact (vehicleRequest_storesFit h (dispatch_keepsStores ownWriteConfig_keepsStores) ..).done ht
  | readConfig _ _ =>
    exact (vehicleRequest_storesFit h (dispatch_keepsStores ownReadConfig_keepsStores) ..).done ht
  | writeTempTable _ _ =>
    exact (vehicleRequest_storesFit h (dispatch_keepsStores ownWriteTempTable_keepsStores) ..).done ht
  | sleep _ _ =>
    exact (vehicleRequest_storesFit h (dispatch_keepsStores ownSleep_keepsStores) ..).done ht
  | reset _ _ =>
    exact (vehicleRequest_storesFit h (dispatch_keepsStores ownReset_keepsStores) ..).done ht
  | busyTransaction => exact (busyTransaction_storesFit h).done ht
  | deferredActionRelease => exact (collectDeferred_storesFit h).done ht
  | requestAnswered => exact (answerRequest_storesFit h).done ht
  | readOldestRecord _ _ =>
    exact (fleetRequest_storesFit h (dispatch_keepsStores ownReadOldestRecord_keepsStores) ..).done ht
  | releaseRecord _ _ =>
    exact (fleetRequest_storesFit h (dispatch_keepsStores ownReleaseRecord_keepsStores) ..).done ht
  | readOpenRecord _ _ =>
    exact (fleetRequest_storesFit h (dispatch_keepsStores ownReadOpenRecord_keepsStores) ..).done ht
  | setTime _ _ =>
    exact (fleetRequest_storesFit h (dispatch_keepsStores ownSetTime_keepsStores) ..).done ht
  | setSpendCap _ _ =>
    exact (fleetRequest_storesFit h (dispatch_keepsStores ownSetSpendCap_keepsStores) ..).done ht
  | allowAdd _ _ =>
    exact (fleetRequest_storesFit h (dispatch_keepsStores ownAllowAdd_keepsStores) ..).done ht
  | allowRemove _ _ =>
    exact (fleetRequest_storesFit h (dispatch_keepsStores ownAllowRemove_keepsStores) ..).done ht
  | allowRead _ _ =>
    exact (fleetRequest_storesFit h (dispatch_keepsStores ownAllowRead_keepsStores) ..).done ht
  | identify p _ _ =>
    cases p with
    | vehicle => exact (vehicleRequest_storesFit h ownIdentify_keepsStores ..).done ht
    | fleet => exact (fleetRequest_storesFit h ownIdentify_keepsStores ..).done ht
  | enableNotices p _ _ =>
    have hk := dispatch_keepsStores (ownEnableNotices_keepsStores p)
    cases p with
    | vehicle => exact (vehicleRequest_storesFit h hk ..).done ht
    | fleet => exact (fleetRequest_storesFit h hk ..).done ht
  | ackNotices p _ _ =>
    have hk := dispatch_keepsStores (ownAckNotices_keepsStores p)
    cases p with
    | vehicle => exact (vehicleRequest_storesFit h hk ..).done ht
    | fleet => exact (fleetRequest_storesFit h hk ..).done ht
  | unknownRequest p bytes =>
    cases p with
    | vehicle => exact (vehicleBytes_storesFit h bytes).done ht
    | fleet => exact (fleetBytes_storesFit h bytes).done ht

/-- Settles O56: a character time keeps the response within bounds, and every command keeps the stores. -/
theorem stepsKeepTheStoresWithinBounds : Obligations.StepsKeepTheStoresWithinBounds := by
  intro s t hqueue hallow hport hstep
  suffices h : t.StoresFit from ⟨h.1.1, h.1.2, h.2⟩
  unfold step at hstep
  split at hstep
  · cases hstep
    exact ⟨⟨by simpa using hqueue, by simpa using hallow⟩, State.characterTime_fits hport⟩
  next i rest _ =>
    exact exec_storesFit i (s := s.withPending rest) ⟨⟨hqueue, hallow⟩, hport⟩ hstep

end Sys2Proof.Machine
end

section
/-! PROOFS. What the commands of the part can do to its blocks, said once: every command moves them by events of a short
list, so that a bound that each event keeps is kept by every step. -/

namespace Sys2Proof.Machine

/-! ### The events of the blocks -/

/-- The events that reach the blocks of a part that is up. -/
inductive BlockEvent : (Env → Core → Core) → Prop
  | window (wasAux : Bool) (faults : Byte) (first : Bool) : BlockEvent (windowDeliveries wasAux faults first)
  | offer (before : Nat) (valid : Bool) : BlockEvent (deliverOffer before valid)
  | input (d : DigitalInput) (wasAux event : Bool) : BlockEvent (inputChanged d wasAux event)
  | closeTimeout : BlockEvent closeTimeout
  | openTimeout : BlockEvent openTimeout
  | waitTimeout : BlockEvent waitTimeout
  | pauseTimeout : BlockEvent pauseTimeout
  | requestTimeout : BlockEvent requestTimeout
  | authTimeout : BlockEvent authTimeout
  | allocation : BlockEvent allocationDue
  | slot : BlockEvent slotDue
  | quietOpen : BlockEvent fun _ => quietOpen
  | halfPeriod (samples : List Int) : BlockEvent (halfPeriodEnd samples)
  | metering : BlockEvent meteringDue
  | frame (f : CanFrame) : BlockEvent (receiveFrame f)
  | powerLimit (limit : Nat) : BlockEvent fun _ c => takePowerLimit limit (messageArrives .powerLimit c)
  | verdict (number : Half) (echo : Tag) (verdict : Byte) :
      BlockEvent fun e c => deliverVerdict number echo verdict e (messageArrives .authVerdict c)
  | tariff (version : Byte) (index count start price : Nat) :
      BlockEvent fun e c => takeTariff e version index count start price (messageArrives .tariff c)
  | time (t : Word) (offset : Option Int) :
      BlockEvent fun _ c => setClock .post t offset (messageArrives .time c)
  | stopMessage : BlockEvent fun e c => deliverStop e (messageArrives .stop c)
  | aliveTimeout : BlockEvent fun _ => aliveTimeout
  | postLimitTimeout : BlockEvent fun _ => postLimitTimeout
  | status : BlockEvent statusDue
  | messageTimeout (k : TxKind) (which : TxWhich) : BlockEvent fun _ => messageTimeout k which
  | attemptStart : BlockEvent fun _ c => c.onLink startAttempt
  | attemptEnd (o : TxOutcome) : BlockEvent fun _ => finishAttempt o
  | chargeRequest (r : ChargeRequest) : BlockEvent fun e c => conclude e (takeRequest e r c)
  | stopRequest : BlockEvent fun e c => conclude e (stopCause e .vehicleStop c)
  | clearLatches (named : Bool × Bool) :
      BlockEvent fun e c => conclude e (c.onSession (Session.clearLatches named))
  | driverTag (tag : Option Tag) :
      BlockEvent fun e c => conclude e (c.onAuth fun a => { a with driverTag := tag })
  | clearFault : BlockEvent fun e c => conclude e (c.onMon clearFault)
  | config : BlockEvent conclude
  | draw : BlockEvent fun _ => Core.draw
  | resetRelease : BlockEvent fun e c => conclude e (releaseReset e c)
  | sleepRefused (sources : Byte) : BlockEvent fun _ => postWake sources

/-- The events that reach the blocks whatever the power state: those of the supply, and those of the requests that the
fleet port takes. -/
inductive AlwaysEvent : (Env → Core → Core) → Prop
  | notices (f : Notices → Notices) : AlwaysEvent fun _ c => c.onNotices f
  | release : AlwaysEvent fun e c => conclude e (roomReport e (c.onQueue ExportQueue.release))
  | setTime (t : Word) (offset : Option Int) : AlwaysEvent fun _ => setClock .fleet t offset
  | spendCap (cap : Nat) : AlwaysEvent fun _ c => c.onMeter fun m => { m with spendCap := min 1000000 cap }
  | allowList (l : List AllowEntry) : AlwaysEvent fun _ c => c.onAuth fun a => { a with allowList := l }
  | tick : AlwaysEvent fun _ => tick
  | resetPin : AlwaysEvent fun _ => resetPin
  | supplyReset : AlwaysEvent fun _ c => takeReset .supply (cutStop c)
  | loseRetention : AlwaysEvent fun _ => loseRetention

/-- The blocks at the entry to SLEEP (R189). -/
def Core.toSleep (c : Core) : Core :=
  { c with
    sup := { c.sup with power := .sleep }
    alloc := Alloc.reset
    heater := Heater.reset
    link := Link.reset
    meter := { c.meter with timer := none } }

/-- What can happen to the blocks at once: an event, the entry to SLEEP, a wake, the end of a reset. -/
inductive Core.Move : Core → Core → Prop
  | block {f : Env → Core → Core} {c : Core} (e : Env) (hf : BlockEvent f) (hu : c.up = true) : Move c (f e c)
  | always {f : Env → Core → Core} (c : Core) (e : Env) (hf : AlwaysEvent f) : Move c (f e c)
  | sleep {c : Core} (hu : c.up = true) (hs : c.session.state = .idle) : Move c c.toSleep
  | wake {c : Core} (sources : Byte) (hp : c.sup.power = .sleep) : Move c (postWake sources c.awake)
  | cold (c : Core) : Move c { Core.reset with drawn := c.drawn }
  | leaveReset (c : Core) (e : Env) (kind : ResetKind) :
      Move c (closeRetained e (c.retained e.cfg.halfPeriod kind))

/-- What a command can do to the blocks: moves one after the other. -/
inductive Core.Moves (c : Core) : Core → Prop
  | refl : Moves c c
  | tail {d d' : Core} (h : Moves c d) (hm : Core.Move d d') : Moves c d'

theorem Core.Moves.trans {c d d' : Core} (h : Core.Moves c d) (h' : Core.Moves d d') : Core.Moves c d' := by
  induction h' with
  | refl => exact h
  | tail _ hm ih => exact ih.tail hm

theorem Core.Move.moves {c d : Core} (h : Core.Move c d) : Core.Moves c d := Core.Moves.refl.tail h

/-- What every move keeps, the moves of a command keep. -/
theorem Core.Moves.keeps {P : Core → Prop} (hP : ∀ c d : Core, Core.Move c d → P c → P d) {c d : Core}
    (h : Core.Moves c d) (hc : P c) : P d := by
  induction h with
  | refl => exact hc
  | tail _ hm ih => exact hP _ _ hm ih

/-! ### Events, sleep, wake and resets at the part (R172, R184, R187 to R189) -/

theorem State.event_moves {f : Env → Core → Core} (s : State) (hf : BlockEvent f) :
    Core.Moves s.core (s.event f).core := by
  unfold State.event
  split
  · exact (Core.Move.block s.env hf ‹_›).moves
  · exact .refl

/-- The next state of a command has the blocks of its effect. -/
theorem Core.Moves.done {c : Core} {s t : State} (h : Core.Moves c s.core) (ht : s.done = .next t) :
    Core.Moves c t.core := by
  rw [State.done_eq] at ht
  cases ht
  exact h

theorem up_of_awake {s : State} (hh : s.core.sup.held.isSome = false) (ha : s.asleep = false) :
    s.core.up = true := by
  cases hs : s.core.sup.held <;> simp_all [State.asleep, Core.up]

theorem wakeUp_moves (sources : Byte) {s : State} (h : s.asleep = true) :
    Core.Moves s.core (wakeUp sources s).core := by
  simp only [State.asleep, Bool.and_eq_true, beq_iff_eq] at h
  exact (Core.Move.wake sources h.2).moves

theorem wakeByFleet_moves (s : State) : Core.Moves s.core (wakeByFleet s).core := by
  unfold wakeByFleet
  split
  · exact wakeUp_moves _ ‹_›
  · exact .refl

theorem resetExit_moves (s : State) : Core.Moves s.core (resetExit s).core := by
  unfold resetExit leaveReset
  split
  · split
    · exact (Core.Move.cold s.core).moves
    all_goals exact (Core.Move.leaveReset s.core { s.env with mfe := Mfe.afterReset s.env.cfg } _).moves
  · exact .refl

theorem releaseAction_moves (a : DeferredAction) {s : State} (hu : s.core.up = true) :
    Core.Moves s.core (releaseAction a s).core := by
  unfold releaseAction releaseSleep
  split
  · exact .refl
  · exact (Core.Move.block s.env .resetRelease hu).moves
  · split
    next hs =>
      split
      · exact (Core.Move.sleep hu (by simpa using hs)).moves
      · exact (Core.Move.block s.env (.sleepRefused _) hu).moves
    · exact .refl

/-! ### The owners of the requests (R177) -/

/-- From blocks with a property, whatever the content, the owner does what events can do. -/
def OwnerMoves (p : Core → Prop) (own : Owner) : Prop :=
  ∀ (content : List Byte) (s : State), p s.core → Core.Moves s.core (own content s).state.core

section
variable {p : Core → Prop}

theorem withoutContent_moves {act : State → Answer}
    (h : ∀ s : State, p s.core → Core.Moves s.core (act s).state.core) : OwnerMoves p (withoutContent act) := by
  intro content s hs
  unfold withoutContent
  split
  · exact h s hs
  · exact .refl

theorem withOperand_moves {α : Type} {form : List Byte → Option α} {act : α → State → Answer}
    (h : ∀ (a : α) (s : State), p s.core → Core.Moves s.core (act a s).state.core) :
    OwnerMoves p (withOperand form act) := by
  intro content s hs
  unfold withOperand
  split
  · exact h _ s hs
  · exact .refl

theorem dispatch_moves {own : Owner} (h : OwnerMoves p own) : OwnerMoves p (dispatch own) := by
  intro content s hs
  unfold dispatch
  split
  · exact .refl
  · exact h content s hs

theorem ownBadRequest_moves : OwnerMoves p ownBadRequest := fun _ _ _ => .refl

theorem ownIdentify_moves : OwnerMoves p ownIdentify := withoutContent_moves fun _ _ => .refl

theorem ownEnableNotices_moves (port : Port) : OwnerMoves p (ownEnableNotices port) :=
  withOperand_moves fun _ s _ => (Core.Move.always s.core s.env (.notices _)).moves

theorem ownAckNotices_moves (port : Port) : OwnerMoves p (ownAckNotices port) :=
  withOperand_moves fun _ s _ => (Core.Move.always s.core s.env (.notices _)).moves

end

/-! ### The owners of the vehicle port's requests -/

/-- The vehicle port hands requests to owners in a part that is up (R170). -/
abbrev VehicleMoves : Owner → Prop := OwnerMoves fun c => c.up = true

theorem ownPoll_moves : VehicleMoves ownPoll := withoutContent_moves fun _ _ => .refl

theorem ownReadStatus_moves : VehicleMoves ownReadStatus :=
  withoutContent_moves fun s hu => (Core.Move.block s.env .draw hu).moves

theorem ownChargeRequest_moves : VehicleMoves ownChargeRequest :=
  withOperand_moves fun r s hu => (Core.Move.block s.env (.chargeRequest r.1) hu).moves

theorem ownStop_moves : VehicleMoves ownStop := withoutContent_moves fun s hu => by
  split
  · exact (Core.Move.block s.env .stopRequest hu).moves
  · exact .refl

theorem ownClearWeld_moves : VehicleMoves ownClearWeld := withOperand_moves fun named s hu => by
  split
  · exact .refl
  · split
    · exact .refl
    · exact (Core.Move.block s.env (.clearLatches named) hu).moves

theorem ownSetDriverTag_moves : VehicleMoves ownSetDriverTag :=
  withOperand_moves fun tag s hu => (Core.Move.block s.env (.driverTag tag) hu).moves

theorem ownClearInsulationFault_moves : VehicleMoves ownClearInsulationFault :=
  withoutContent_moves fun s hu => by
    split
    · exact .refl
    · exact (Core.Move.block s.env .clearFault hu).moves

theorem ownReadInsulation_moves : VehicleMoves ownReadInsulation :=
  withoutContent_moves fun s hu => (Core.Move.block s.env .draw hu).moves

theorem ownWriteConfig_moves : VehicleMoves ownWriteConfig := by
  intro content s hu
  unfold ownWriteConfig
  split
  · exact .refl
  next named g clamped _ =>
    split
    · exact .refl
    · exact (Core.Move.block { s.env with cfg := g } .config hu).moves

theorem ownReadConfig_moves : VehicleMoves ownReadConfig := withoutContent_moves fun _ _ => .refl

theorem ownWriteTempTable_moves : VehicleMoves ownWriteTempTable := withOperand_moves fun _ s _ => by
  split
  · exact .refl
  · split <;> exact .refl

theorem ownSleep_moves : VehicleMoves ownSleep := withoutContent_moves fun s _ => by
  split
  · exact .refl
  · split <;> exact .refl

theorem ownReset_moves : VehicleMoves ownReset := withoutContent_moves fun _ _ => .refl

/-- Every owner that a vehicle request type names does what events can do. -/
theorem vehicleOwner_moves {n : Nat} {o : Owner × DeferredAction} (h : vehicleOwner n = some o) :
    VehicleMoves o.1 := by
  unfold vehicleOwner at h
  split at h <;> cases h
  · exact dispatch_moves ownPoll_moves
  · exact dispatch_moves ownReadStatus_moves
  · exact dispatch_moves ownChargeRequest_moves
  · exact dispatch_moves ownStop_moves
  · exact dispatch_moves ownClearWeld_moves
  · exact dispatch_moves ownSetDriverTag_moves
  · exact dispatch_moves ownClearInsulationFault_moves
  · exact dispatch_moves ownReadInsulation_moves
  · exact dispatch_moves ownWriteConfig_moves
  · exact dispatch_moves ownReadConfig_moves
  · exact dispatch_moves ownWriteTempTable_moves
  · exact dispatch_moves ownSleep_moves
  · exact dispatch_moves ownReset_moves
  · exact ownIdentify_moves
  · exact dispatch_moves (ownEnableNotices_moves _)
  · exact dispatch_moves (ownAckNotices_moves _)

/-! ### The owners of the fleet port's requests -/

/-- The fleet port hands requests to owners whatever the power state (R176). -/
abbrev FleetMoves : Owner → Prop := OwnerMoves fun _ => True

theorem ownReadOldestRecord_moves : FleetMoves ownReadOldestRecord :=
  withoutContent_moves fun s _ => by split <;> exact .refl

theorem ownReleaseRecord_moves : FleetMoves ownReleaseRecord := withOperand_moves fun _ s _ => by
  split
  · exact .refl
  · split
    · exact (Core.Move.always s.core s.env .release).moves
    · exact .refl

theorem ownReadOpenRecord_moves : FleetMoves ownReadOpenRecord := withoutContent_moves fun _ _ => .refl

theorem ownSetTime_moves : FleetMoves ownSetTime := withOperand_moves fun _ s _ => by
  split
  · exact .refl
  · exact (Core.Move.always s.core s.env (.setTime _ _)).moves

theorem ownSetSpendCap_moves : FleetMoves ownSetSpendCap :=
  withOperand_moves fun cap s _ => (Core.Move.always s.core s.env (.spendCap cap)).moves

theorem withAllow_moves (s : State) (l : List AllowEntry) : Core.Moves s.core (s.withAllow l).core :=
  (Core.Move.always s.core s.env (.allowList l)).moves

theorem ownAllowAdd_moves : FleetMoves ownAllowAdd := withOperand_moves fun _ s _ => by
  simp only
  split <;> exact withAllow_moves s _

theorem ownAllowRemove_moves : FleetMoves ownAllowRemove := withOperand_moves fun _ s _ => by
  simp only
  split <;> exact withAllow_moves s _

theorem ownAllowRead_moves : FleetMoves ownAllowRead := withoutContent_moves fun _ _ => .refl

/-- Every owner that a fleet request type names does what events can do. -/
theorem fleetOwner_moves {n : Nat} {own : Owner} (h : fleetOwner n = some own) : FleetMoves own := by
  unfold fleetOwner at h
  split at h <;> cases h
  · exact dispatch_moves ownReadOldestRecord_moves
  · exact dispatch_moves ownReleaseRecord_moves
  · exact dispatch_moves ownReadOpenRecord_moves
  · exact dispatch_moves ownSetTime_moves
  · exact dispatch_moves ownSetSpendCap_moves
  · exact dispatch_moves ownAllowAdd_moves
  · exact dispatch_moves ownAllowRemove_moves
  · exact dispatch_moves ownAllowRead_moves
  · exact ownIdentify_moves
  · exact dispatch_moves (ownEnableNotices_moves _)
  · exact dispatch_moves (ownAckNotices_moves _)

theorem bodyOwner_moves (body : List Byte) : FleetMoves (bodyOwner body) := by
  unfold bodyOwner
  split
  · cases ho : fleetOwner (headerByte body 0).toNat with
    | none => exact ownBadRequest_moves
    | some own => exact fleetOwner_moves ho
  · exact ownBadRequest_moves

/-! ### The transactions of the vehicle port (R170, R172) -/

theorem releaseDeferred_moves {s : State} (hu : s.core.up = true) :
    Core.Moves s.core (releaseDeferred s).core :=
  releaseAction_moves (s := (shiftHeld s).onVport _) _ hu

theorem vehicleRequest_moves (kind seq : Byte) (action : DeferredAction) {own : Owner} (hk : VehicleMoves own)
    (content : List Byte) (s : State) :
    Core.Moves s.core (vehicleRequest kind seq action own content s).core := by
  unfold vehicleRequest
  split
  · exact .refl
  next hh =>
    split
    · exact wakeUp_moves _ ‹_›
    next ha =>
      have hu : s.core.up = true := up_of_awake (by simpa using hh) (by simpa using ha)
      split
      · exact .refl
      · split
        · exact releaseDeferred_moves hu
        · exact hk content (shiftHeld s) hu

theorem busyTransaction_moves (s : State) : Core.Moves s.core (busyTransaction s).core := by
  unfold busyTransaction
  split
  · exact .refl
  · split
    · exact wakeUp_moves _ ‹_›
    · exact .refl

theorem answerRequest_moves (s : State) : Core.Moves s.core (answerRequest s).core := by
  unfold answerRequest
  split
  · split <;> exact .refl
  all_goals exact .refl

theorem collectDeferred_moves (s : State) : Core.Moves s.core (collectDeferred s).core := by
  unfold collectDeferred
  split
  next h =>
    simp only [Bool.and_eq_true] at h
    exact releaseDeferred_moves h.1.1
  · exact .refl

theorem vehicleBytes_moves (bytes : List Byte) (s : State) :
    Core.Moves s.core (vehicleBytes bytes s).core := by
  unfold vehicleBytes
  split
  next o ho =>
    refine vehicleRequest_moves _ _ _ ?_ _ s
    split at ho
    · exact vehicleOwner_moves ho
    · cases ho
  · exact vehicleRequest_moves _ _ _ ownBadRequest_moves _ s

/-! ### Bytes and requests of the fleet port (R173 to R176) -/

theorem takeBody_moves (body : List Byte) (s : State) : Core.Moves s.core (takeBody body s).core :=
  bodyOwner_moves body _ s trivial

theorem takeFrames_moves (n : Nat) (s : State) : Core.Moves s.core (takeFrames n s).core := by
  induction n generalizing s with
  | zero => exact .refl
  | succ n ih =>
    unfold takeFrames
    split
    · exact .refl
    · split
      · exact .refl
      next frame rest _ =>
        simp only
        split
        · exact ih (s.onFport fun p => { p with fifo := rest })
        · exact takeBody_moves _ (s.onFport fun p => { p with fifo := rest })

theorem takeFleet_moves (s : State) : Core.Moves s.core (takeFleet s).core := takeFrames_moves _ s

theorem arrive_moves (bytes : List Byte) (s : State) : Core.Moves s.core (arrive bytes s).core := by
  induction bytes generalizing s with
  | nil => exact .refl
  | cons b bytes ih => exact (takeFleet_moves (s.onFport (receiveByte b))).trans (ih (takeByte s b))

theorem fleetRequest_moves (kind seq : Byte) {own : Owner} (hk : FleetMoves own) (content : List Byte)
    (s : State) : Core.Moves s.core (fleetRequest kind seq own content s).core := by
  unfold fleetRequest
  simp only
  split
  · exact .refl
  · refine (wakeByFleet_moves s).trans ?_
    split
    · exact hk content ((wakeByFleet s).onFport closingFlag) trivial
    · exact arrive_moves _ (wakeByFleet s)

theorem fleetBytes_moves (body : List Byte) (s : State) : Core.Moves s.core (fleetBytes body s).core := by
  unfold fleetBytes
  simp only
  split
  · exact .refl
  · refine (wakeByFleet_moves s).trans ?_
    split
    · split
      · exact .refl
      · exact takeBody_moves _ ((wakeByFleet s).onFport closingFlag)
    · exact arrive_moves _ (wakeByFleet s)

theorem flowByte_moves (pause : Bool) (s : State) : Core.Moves s.core (flowByte pause s).core :=
  (wakeByFleet_moves s).trans (takeFleet_moves ((wakeByFleet s).onFport (FleetPort.setFlow pause)))

theorem fleetByte_moves (b : Byte) (s : State) : Core.Moves s.core (fleetByte b s).core := by
  unfold fleetByte
  split
  · exact flowByte_moves _ s
  · split
    · exact flowByte_moves _ s
    · exact (wakeByFleet_moves s).trans (arrive_moves [b] (wakeByFleet s))

theorem responseSent_moves (s : State) : Core.Moves s.core (responseSent s).core := by
  unfold responseSent
  split
  · exact takeFleet_moves (s.onFport fun p => { p with outstanding := none, transmit := none })
  · exact .refl

theorem State.fleetEvent_moves (s : State) {f : State → State}
    (hf : ∀ s : State, Core.Moves s.core (f s).core) : Core.Moves s.core (s.fleetEvent f).core := by
  unfold State.fleetEvent
  split
  · exact .refl
  · exact hf s

/-! ### The front end, and a wake by a command (R1, R11, R17, R189) -/

theorem captureStep_moves (f : Mfe → Mfe) (s : State) : Core.Moves s.core (s.captureStep f).core := by
  unfold State.captureStep
  split
  · exact (Core.Move.block (s.onMfe f).env (.offer _ _) ‹_›).moves
  · exact .refl

theorem State.windowClose_moves (s : State) (w : WindowSamples) (first : Bool) :
    Core.Moves s.core (s.windowClose w first).core := by
  unfold State.windowClose
  split
  next h =>
    simp only [Bool.and_eq_true] at h
    exact (Core.Move.block (s.windowEnv w) (.window _ _ _) h.1).moves
  · exact .refl

theorem settledChange_moves (d : DigitalInput) (level : LineLevel) (s : State) :
    Core.Moves s.core (settledChange d level s).core := by
  unfold settledChange
  split
  · exact .refl
  · split
    · exact (Core.Move.block (settledAwake d level s).env (.input _ _ _) ‹_›).moves
    · split
      next ha =>
        unfold settledAsleep
        split
        · simp only
          split
          · exact wakeUp_moves (s := s.onMfe _) _ ha
          · exact .refl
        all_goals exact .refl
      · exact .refl

theorem wakeEvent_moves (pilot vehicle flap : Bool) (byte : Option Byte) (s : State) :
    Core.Moves s.core (wakeEvent pilot vehicle flap byte s).core := by
  unfold wakeEvent
  split
  next h =>
    simp only [Bool.and_eq_true] at h
    have hshift : Core.Moves s.core (if vehicle then shiftBusy (wakeUp (wakeSources pilot vehicle flap byte) s)
        else wakeUp (wakeSources pilot vehicle flap byte) s).core := by
      split <;> exact wakeUp_moves _ h.1
    simp only
    unfold wakeByte
    split
    · exact hshift.trans (fleetByte_moves _ _)
    · exact hshift
  · exact .refl

/-! ### Every command -/

/-- Every command moves the blocks by events: an event of the blocks by itself, a request by what its owner does. -/
theorem exec_moves (i : Instr) {s t : State} (ht : exec i s = .next t) : Core.Moves s.core t.core := by
  cases i with
  | measurementWindowClose w first => exact (s.windowClose_moves w first).done ht
  | pilotRisingEdge | pilotFallingEdge | staticTimerExpiry => exact (captureStep_moves _ s).done ht
  | digitalInputSettledChange d level => exact (settledChange_moves d level s).done ht
  | closeConfirmTimeout => exact (s.event_moves .closeTimeout).done ht
  | openConfirmTimeout => exact (s.event_moves .openTimeout).done ht
  | currentWaitTimerExpiry => exact (s.event_moves .waitTimeout).done ht
  | pauseTimerExpiry => exact (s.event_moves .pauseTimeout).done ht
  | requestExpiry => exact (s.event_moves .requestTimeout).done ht
  | authTimerExpiry => exact (s.event_moves .authTimeout).done ht
  | allocationTimerExpiry => exact (s.event_moves .allocation).done ht
  | slotTimerExpiry => exact (s.event_moves .slot).done ht
  | quietWindowOpen => exact (s.event_moves .quietOpen).done ht
  | halfPeriodTimerExpiry samples => exact (s.event_moves (.halfPeriod samples)).done ht
  | meteringTimerExpiry => exact (s.event_moves .metering).done ht
  | receiveSegment f => exact (s.event_moves (.frame f)).done ht
  | powerLimit _ => exact (s.event_moves (.powerLimit _)).done ht
  | authVerdict number echo verdict => exact (s.event_moves (.verdict number echo verdict)).done ht
  | tariff _ _ _ _ _ => exact (s.event_moves (.tariff _ _ _ _ _)).done ht
  | time _ _ => exact (s.event_moves (.time _ _)).done ht
  | stopMessage => exact (s.event_moves .stopMessage).done ht
  | linkAliveTimerExpiry => exact (s.event_moves .aliveTimeout).done ht
  | postLimitTimerExpiry => exact (s.event_moves .postLimitTimeout).done ht
  | statusTimerExpiry => exact (s.event_moves .status).done ht
  | messageTimerExpiry k which => exact (s.event_moves (.messageTimeout k which)).done ht
  | transmitAttemptStart => exact (s.event_moves .attemptStart).done ht
  | transmitAttemptEnd o => exact (s.event_moves (.attemptEnd o)).done ht
  | timeCounterTick =>
    exact Core.Moves.done (s := s.onCore tick) (Core.Move.always s.core s.env .tick).moves ht
  | resetPin =>
    exact Core.Moves.done (s := s.onCore resetPin) (Core.Move.always s.core s.env .resetPin).moves ht
  | supplyHeldReset =>
    exact Core.Moves.done (s := s.onCore fun c => takeReset .supply (cutStop c))
      (Core.Move.always s.core s.env .supplyReset).moves ht
  | retentionSupplyFall =>
    exact Core.Moves.done (s := s.onCore loseRetention)
      (Core.Move.always s.core s.env .loseRetention).moves ht
  | resetExit => exact (resetExit_moves s).done ht
  | wake pilot vehicle flap byte => exact (wakeEvent_moves pilot vehicle flap byte s).done ht
  | xon => exact (s.fleetEvent_moves (flowByte_moves false)).done ht
  | xoff => exact (s.fleetEvent_moves (flowByte_moves true)).done ht
  | framingError => exact (s.fleetEvent_moves (f := framingError) wakeByFleet_moves).done ht
  | fleetByteReceived b => exact (s.fleetEvent_moves (fleetByte_moves b)).done ht
  | fleetResponseSent => exact (s.fleetEvent_moves responseSent_moves).done ht
  | poll _ _ => exact (vehicleRequest_moves _ _ _ (dispatch_moves ownPoll_moves) _ s).done ht
  | readStatus _ _ => exact (vehicleRequest_moves _ _ _ (dispatch_moves ownReadStatus_moves) _ s).done ht
  | chargeRequest _ _ =>
    exact (vehicleRequest_moves _ _ _ (dispatch_moves ownChargeRequest_moves) _ s).done ht
  | stop _ _ => exact (vehicleRequest_moves _ _ _ (dispatch_moves ownStop_moves) _ s).done ht
  | clearWeld _ _ => exact (vehicleRequest_moves _ _ _ (dispatch_moves ownClearWeld_moves) _ s).done ht
  | setDriverTag _ _ =>
    exact (vehicleRequest_moves _ _ _ (dispatch_moves ownSetDriverTag_moves) _ s).done ht
  | clearInsulationFault _ _ =>
    exact (vehicleRequest_moves _ _ _ (dispatch_moves ownClearInsulationFault_moves) _ s).done ht
  | readInsulation _ _ =>
    exact (vehicleRequest_moves _ _ _ (dispatch_moves ownReadInsulation_moves) _ s).done ht
  | writeConfig _ _ => exact (vehicleRequest_moves _ _ _ (dispatch_moves ownWriteConfig_moves) _ s).done ht
  | readConfig _ _ => exact (vehicleRequest_moves _ _ _ (dispatch_moves ownReadConfig_moves) _ s).done ht
  | writeTempTable _ _ =>
    exact (vehicleRequest_moves _ _ _ (dispatch_moves ownWriteTempTable_moves) _ s).done ht
  | sleep _ _ => exact (vehicleRequest_moves _ _ _ (dispatch_moves ownSleep_moves) _ s).done ht
  | reset _ _ => exact (vehicleRequest_moves _ _ _ (dispatch_moves ownReset_moves) _ s).done ht
  | busyTransaction => exact (busyTransaction_moves s).done ht
  | deferredActionRelease => exact (collectDeferred_moves s).done ht
  | requestAnswered => exact (answerRequest_moves s).done ht
  | readOldestRecord _ _ =>
    exact (fleetRequest_moves _ _ (dispatch_moves ownReadOldestRecord_moves) _ s).done ht
  | releaseRecord _ _ => exact (fleetRequest_moves _ _ (dispatch_moves ownReleaseRecord_moves) _ s).done ht
  | readOpenRecord _ _ =>
    exact (fleetRequest_moves _ _ (dispatch_moves ownReadOpenRecord_moves) _ s).done ht
  | setTime _ _ => exact (fleetRequest_moves _ _ (dispatch_moves ownSetTime_moves) _ s).done ht
  | setSpendCap _ _ => exact (fleetRequest_moves _ _ (dispatch_moves ownSetSpendCap_moves) _ s).done ht
  | allowAdd _ _ => exact (fleetRequest_moves _ _ (dispatch_moves ownAllowAdd_moves) _ s).done ht
  | allowRemove _ _ => exact (fleetRequest_moves _ _ (dispatch_moves ownAllowRemove_moves) _ s).done ht
  | allowRead _ _ => exact (fleetRequest_moves _ _ (dispatch_moves ownAllowRead_moves) _ s).done ht
  | identify p _ _ =>
    cases p with
    | vehicle => exact (vehicleRequest_moves _ _ _ ownIdentify_moves _ s).done ht
    | fleet => exact (fleetRequest_moves _ _ ownIdentify_moves _ s).done ht
  | enableNotices p _ _ =>
    cases p with
    | vehicle => exact (vehicleRequest_moves _ _ _ (dispatch_moves (ownEnableNotices_moves _)) _ s).done ht
    | fleet => exact (fleetRequest_moves _ _ (dispatch_moves (ownEnableNotices_moves _)) _ s).done ht
  | ackNotices p _ _ =>
    cases p with
    | vehicle => exact (vehicleRequest_moves _ _ _ (dispatch_moves (ownAckNotices_moves _)) _ s).done ht
    | fleet => exact (fleetRequest_moves _ _ (dispatch_moves (ownAckNotices_moves _)) _ s).done ht
  | unknownRequest p bytes =>
    cases p with
    | vehicle => exact (vehicleBytes_moves bytes s).done ht
    | fleet => exact (fleetBytes_moves bytes s).done ht

/-- A step moves the blocks by events; a character time leaves them. -/
theorem step_moves {s t : State} (h : step s = .next t) : Core.Moves s.core t.core := by
  unfold step at h
  split at h
  · cases h
    rw [State.characterTime_core]
    exact .refl
  next i rest _ => exact exec_moves i (s := s.withPending rest) h

end Sys2Proof.Machine
end

section
/-! PROOFS. The allocation record stays within P_out (R77 to R81): what replaces it, what gives up its ramp, what applies
its pending increase, and that every event of the blocks keeps it. -/

namespace Sys2Proof.Machine

/-- The allocation record of the blocks keeps its bounds (R77 to R81). -/
def Core.AllocFits (c : Core) : Prop := c.alloc.record.Fits

/-- What leaves the record as it is keeps its bounds. -/
theorem Core.AllocFits.frame {c d : Core} (h : c.AllocFits) (hd : d.alloc.record = c.alloc.record) :
    d.AllocFits := by
  rw [Core.AllocFits, hd]; exact h

/-! ### What the record becomes -/

/-- The zero allocation of a reset commands nothing (R85). -/
theorem AllocRecord.zero_fits : AllocRecord.zero.Fits := by simp [AllocRecord.Fits, AllocRecord.zero]

/-- A record that gives up its ramp keeps its bounds (R78, R79). -/
theorem AllocRecord.Fits.withoutRamp {r : AllocRecord} (h : r.Fits) :
    ({ r with rampValid := false, pendingIncrease := none } : AllocRecord).Fits := by
  obtain ⟨hcommand, hshares, hcharge, -⟩ := h
  exact ⟨hcommand, hshares, hcharge, nofun⟩

/-- A pending increase, applied, stays within its allocation and the command within P_out (R80). -/
theorem AllocRecord.Fits.withIncrease {r : AllocRecord} {p : Nat} (h : r.Fits)
    (hp : r.pendingIncrease = some p) :
    ({ r with pChgCmd := p, pendingIncrease := none, command := p + r.pHeatAlloc } : AllocRecord).Fits := by
  obtain ⟨-, hshares, -, hpending⟩ := h
  have hle : p ≤ r.pChgAlloc := hpending p hp
  refine ⟨?_, hshares, hle, nofun⟩
  show p + r.pHeatAlloc ≤ r.pOut
  omega

/-! ### A message goes to the owner of its kind (R158) -/

/-- What the five owners of messages keep, the delivery of a message keeps, of whatever layout. -/
theorem deliver_keeps {P : Core → Prop} {e : Env} {c : Core} (h : P c)
    (hlimit : ∀ limit, P (takePowerLimit limit c))
    (hverdict : ∀ number echo verdict, P (deliverVerdict number echo verdict e c))
    (htariff : ∀ version index count start price, P (takeTariff e version index count start price c))
    (htime : ∀ t offset, P (setClock .post t offset c)) (hstop : P (deliverStop e c)) :
    ∀ (k : PostKind) (content : List Byte), P (deliver k content e c)
  | .powerLimit, [_, _] => hlimit _
  | .authVerdict, a :: b :: rest => by
    show P (match Tag.ofBytes (rest.take 8), rest.drop 8 with
      | some echo, [verdict] => deliverVerdict (BitVec.ofNat 16 (leVal [a, b])) echo verdict e c
      | _, _ => c)
    split
    · exact hverdict _ _ _
    · exact h
  | .tariff, [_, _, _, _, _, _, _] => htariff _ _ _ _ _
  | .time, [_, _, _, _] => htime _ _
  | .time, [_, _, _, _, _, _] => htime _ _
  | .stop, [] => hstop
  | .powerLimit, [] | .powerLimit, [_] | .powerLimit, _ :: _ :: _ :: _ => h
  | .authVerdict, [] | .authVerdict, [_] => h
  | .tariff, [] | .tariff, [_] | .tariff, [_, _] | .tariff, [_, _, _] | .tariff, [_, _, _, _]
  | .tariff, [_, _, _, _, _] | .tariff, [_, _, _, _, _, _]
  | .tariff, _ :: _ :: _ :: _ :: _ :: _ :: _ :: _ :: _ => h
  | .time, [] | .time, [_] | .time, [_, _] | .time, [_, _, _] | .time, [_, _, _, _, _]
  | .time, _ :: _ :: _ :: _ :: _ :: _ :: _ :: _ => h
  | .stop, _ :: _ => h

/-! ### Changes of state, pauses and allocations (R30, R62, R78 to R80) -/

section
variable {e : Env} {c : Core} (h : c.AllocFits)
include h

theorem changeState_allocFits (new : SessionState) : (changeState e new c).AllocFits := by
  rw [Core.AllocFits, changeState_record]
  split
  · exact AllocRecord.Fits.withoutRamp h
  · exact h

theorem settlePause_allocFits : (settlePause e c).AllocFits := by
  unfold settlePause
  split
  case h_1 | h_2 =>
    split
    · exact changeState_allocFits h _
    · exact h
  case h_3 =>
    split
    · exact changeState_allocFits h _
    · exact h
  all_goals exact h

theorem temperatureMove_allocFits : (temperatureMove e c).AllocFits := by
  unfold temperatureMove
  split
  case h_1 | h_2 =>
    split
    · exact changeState_allocFits h _
    · exact h
  all_goals exact h

theorem applyPending_allocFits : (applyPending c).AllocFits := by
  unfold applyPending
  split
  · exact h
  next p hp => exact AllocRecord.Fits.withIncrease h hp

theorem closeWindow_allocFits : (closeWindow e c).AllocFits := by
  unfold closeWindow
  split
  · exact (applyPending_allocFits (c := c.onMon fun m => { m with window := false }) h).frame (by simp)
  · exact h

theorem leaveMeasuring_allocFits (new : MonitorState) : (leaveMeasuring e new c).AllocFits :=
  closeWindow_allocFits (h.frame (by simp))

end

/-- Whatever the record was, an allocation replaces it by one within bounds (R62, R81). -/
theorem allocate_allocFits (immediate : Bool) (e : Env) (c : Core) : (allocate immediate e c).AllocFits := by
  have hnext : (c.onAlloc fun a => { a with record := nextRecord immediate e c }).AllocFits :=
    nextRecord_fits immediate e c
  exact settlePause_allocFits (hnext.frame (by simp))

theorem allocationDue_allocFits {e : Env} {c : Core} (h : c.AllocFits) : (allocationDue e c).AllocFits := by
  unfold allocationDue
  split
  · exact allocate_allocFits ..
  · exact h

/-! ### The meter (R137, R138) -/

section
variable {e : Env} {c : Core} (h : c.AllocFits)
include h

theorem roomReport_allocFits : (roomReport e c).AllocFits := by
  unfold roomReport
  split
  · exact h
  · split
    · exact h
    · split
      · exact h.frame (by simp)
      · split
        · exact settlePause_allocFits (h.frame (by simp))
        · exact h

theorem creditInterval_allocFits (energies : List (LineKey × Nat)) : (creditInterval e energies c).AllocFits := by
  unfold creditInterval
  split
  · exact h
  · simp only
    split
    · exact h.frame (by simp)
    · split
      · exact h.frame (by simp)
      · split
        · split
          · exact h.frame (by simp)
          · exact settlePause_allocFits (h.frame (by simp))
        · exact h.frame (by simp)

theorem meteringDue_allocFits : (meteringDue e c).AllocFits := by
  unfold meteringDue
  split
  · simp only
    split
    · exact h
    · exact creditInterval_allocFits (h.frame (by simp)) _
  · exact h

/-! ### The stop sequence (R32 to R37) -/

theorem monitorOnStopping_allocFits : (monitorOnStopping e c).AllocFits := by
  unfold monitorOnStopping
  split
  · exact leaveMeasuring_allocFits h _
  · exact h

theorem monitorOnClosed_allocFits : (monitorOnClosed e c).AllocFits := by
  unfold monitorOnClosed
  split
  · exact leaveMeasuring_allocFits h _
  · exact h

theorem enterClosed_allocFits : (enterClosed e c).AllocFits := by
  have hmon : (monitorOnClosed e (authOnClosed ((changeState e .closed c).onSession
      fun s => { s with closePending := true }))).AllocFits :=
    monitorOnClosed_allocFits ((changeState_allocFits (e := e) h .closed).frame (by simp))
  exact hmon.frame (by simp [enterClosed])

theorem confirmOpen_allocFits : (confirmOpen e c).AllocFits := enterClosed_allocFits (h.frame (by simp))

theorem beginOpening_allocFits : (beginOpening c).AllocFits := h.frame (by simp [beginOpening])

theorem openContactor_allocFits : (openContactor e c).AllocFits := by
  unfold openContactor
  split
  · exact beginOpening_allocFits h
  · exact confirmOpen_allocFits (beginOpening_allocFits h)

theorem startOpening_allocFits (cause : StopCause) : (startOpening e cause c).AllocFits := by
  unfold startOpening
  split
  · exact enterClosed_allocFits h
  · exact beginOpening_allocFits h
  · split
    · exact openContactor_allocFits h
    · exact h
  · exact h

omit h in
/-- The entry to STOPPING replaces the record before the contactor is dealt with (R34). -/
theorem enterStopping_allocFits (cause : StopCause) : (enterStopping e cause c).AllocFits :=
  startOpening_allocFits (allocate_allocFits true e _) cause

theorem stopCause_allocFits (cause : StopCause) : (stopCause e cause c).AllocFits := by
  unfold stopCause
  split
  case h_1 | h_2 | h_3 | h_4 => exact enterStopping_allocFits cause
  case h_5 =>
    have hadd : (addFault cause c).AllocFits := h.frame (by simp)
    simp only
    split
    · exact openContactor_allocFits hadd
    · exact hadd
  case h_6 | h_7 | h_8 => exact h

theorem converterFault_allocFits : (converterFault e c).AllocFits :=
  stopCause_allocFits (h.frame (by simp)) _

/-! ### Contactor, authorization and start (R24 to R28, R48 to R54) -/

theorem confirmClose_allocFits : (confirmClose e c).AllocFits := changeState_allocFits (h.frame (by simp)) _

theorem auxChanged_allocFits (now : Bool) : (auxChanged e now c).AllocFits := by
  unfold auxChanged
  split
  case h_1 =>
    split
    · exact confirmClose_allocFits h
    · exact h
  case h_2 =>
    split
    · exact h
    · exact stopCause_allocFits h _
  case h_3 =>
    split
    · exact h
    · exact confirmOpen_allocFits h
  case h_4 => exact h

theorem energizeIfReady_allocFits : (energizeIfReady e c).AllocFits := by
  unfold energizeIfReady beginEnergizing
  split
  · split
    · exact stopCause_allocFits (h.frame (by simp)) _
    · exact h.frame (by simp)
  · exact h

theorem reportGrant_allocFits : (reportGrant e c).AllocFits := by
  unfold reportGrant
  split
  · exact energizeIfReady_allocFits (h.frame (by simp))
  · exact h

theorem reportTestPassed_allocFits : (reportTestPassed e c).AllocFits := by
  unfold reportTestPassed
  split
  · exact energizeIfReady_allocFits (h.frame (by simp))
  · exact h

theorem reportTestFailed_allocFits : (reportTestFailed e c).AllocFits :=
  stopCause_allocFits (h.frame (by simp)) _

theorem grant_allocFits (st : AuthState) (mode : AuthMode) : (grant e st mode c).AllocFits :=
  reportGrant_allocFits (h.frame (by simp))

theorem refuse_allocFits (cause : StopCause) : (refuse e cause c).AllocFits :=
  stopCause_allocFits (h.frame (by simp)) _

theorem offlineDecision_allocFits : (offlineDecision e c).AllocFits := by
  unfold offlineDecision
  split
  · exact refuse_allocFits h _
  · simp only
    split
    · exact grant_allocFits (h.frame (by simp)) _ _
    · exact refuse_allocFits (h.frame (by simp)) _

theorem decideAtEntry_allocFits : (decideAtEntry e c).AllocFits := by
  unfold decideAtEntry
  split
  · exact grant_allocFits h _ _
  · split
    · exact offlineDecision_allocFits h
    · exact h.frame (by simp)

theorem takeVerdict_allocFits (number : Half) (echo : Tag) (verdict : Byte) :
    (takeVerdict e number echo verdict c).AllocFits := by
  unfold takeVerdict
  split
  · split
    · split
      · exact grant_allocFits (h.frame (by simp)) _ _
      · exact refuse_allocFits h _
    · split
      · exact h.frame (by simp)
      · exact refuse_allocFits h _
    all_goals exact h
  · exact h

theorem evaluateStart_allocFits : (evaluateStart e c).AllocFits := by
  unfold evaluateStart
  split
  · have hentry : (changeState e .authorizing (c.onSession Session.begin)).AllocFits :=
      changeState_allocFits (h.frame (by simp)) _
    exact decideAtEntry_allocFits (hentry.frame (by simp))
  · exact h

theorem enterIdle_allocFits : (enterIdle e c).AllocFits :=
  (changeState_allocFits (e := e) h .idle).frame (by simp [enterIdle])

theorem attach_allocFits : (attach e c).AllocFits :=
  evaluateStart_allocFits ((changeState_allocFits (e := e) h .attached).frame (by simp))

theorem conclude_allocFits : (conclude e c).AllocFits := by
  have hstart : (evaluateStart e c).AllocFits := evaluateStart_allocFits h
  unfold conclude leaveClosed
  split
  · split
    · exact enterIdle_allocFits hstart
    · split
      · exact evaluateStart_allocFits (changeState_allocFits hstart _)
      · exact hstart
  · exact hstart

/-! ### Sets, inputs and requests at the session (R1, R16 to R18, R21, R41, R190) -/

theorem sessionTakeSet_allocFits (stopping : Bool) : (sessionTakeSet stopping e c).AllocFits := by
  unfold sessionTakeSet
  split
  case h_1 =>
    split
    · exact attach_allocFits h
    · exact h
  case h_2 =>
    split
    · exact enterIdle_allocFits h
    · exact evaluateStart_allocFits h
  case h_3 | h_4 | h_5 | h_6 =>
    split
    · exact stopCause_allocFits h _
    · exact temperatureMove_allocFits (settlePause_allocFits (h.frame (by simp)))
  case h_7 =>
    split
    · exact stopCause_allocFits h _
    · split
      · exact openContactor_allocFits h
      · exact h
  case h_8 => exact h

theorem takeSupply_allocFits : (takeSupply e c).AllocFits := by
  unfold takeSupply
  split
  · exact h
  · split
    · split
      · exact h.frame (by simp)
      · exact h
    · split
      · exact stopCause_allocFits (h.frame (by simp)) _
      · exact h

theorem deliverSet_allocFits (stopping : Bool) : (deliverSet stopping e c).AllocFits := by
  have hses : (if c.active then sessionTakeSet stopping e c else c).AllocFits := by
    split
    · exact sessionTakeSet_allocFits h _
    · exact h
  exact takeSupply_allocFits (hses.frame (by simp))

theorem reviewAux_allocFits (was : Bool) : (reviewAux was e c).AllocFits := by
  unfold reviewAux
  split
  · exact h
  · exact auxChanged_allocFits h _

theorem windowFault_allocFits : (windowFault e c).AllocFits := by
  unfold windowFault
  split
  · exact converterFault_allocFits h
  · exact h

theorem windowDeliveries_allocFits (wasAux : Bool) (faults : Byte) (first : Bool) :
    (windowDeliveries wasAux faults first e c).AllocFits := by
  have haux : (reviewAux wasAux e (postSensorFault faults c)).AllocFits :=
    reviewAux_allocFits (h.frame (by simp)) _
  refine conclude_allocFits ?_
  split
  · exact deliverSet_allocFits (windowFault_allocFits haux) _
  · exact windowFault_allocFits (deliverSet_allocFits haux _)

theorem deliverOffer_allocFits (before : Nat) (valid : Bool) : (deliverOffer before valid e c).AllocFits := by
  unfold deliverOffer
  split
  · exact h
  · have hfall : (if 0 < before ∧ e.mfe.offer = 0 then allocate true e c else c).AllocFits := by
      split
      · exact allocate_allocFits ..
      · exact h
    exact conclude_allocFits (settlePause_allocFits (hfall.frame (by simp)))

theorem inputChanged_allocFits (d : DigitalInput) (wasAux event : Bool) :
    (inputChanged d wasAux event e c).AllocFits := by
  unfold inputChanged
  split
  · exact conclude_allocFits (reviewAux_allocFits h _)
  · split
    · exact conclude_allocFits (converterFault_allocFits h)
    · exact h
  · exact h

theorem reviewRequest_allocFits : (reviewRequest e c).AllocFits := by
  unfold reviewRequest
  split
  · exact temperatureMove_allocFits (settlePause_allocFits (h.frame (by simp)))
  · exact h

theorem takeRelease_allocFits : (takeRelease e c).AllocFits := by
  unfold takeRelease
  split
  case h_1 | h_2 | h_3 | h_4 => exact stopCause_allocFits h _
  case h_5 => exact stopCause_allocFits (h.frame (by simp)) _
  all_goals exact h

theorem takeRequest_allocFits (r : ChargeRequest) : (takeRequest e r c).AllocFits := by
  have hreq : (c.onSession fun s => { s with request := some r, requestTimer := some 1000 }).AllocFits :=
    h.frame (by simp)
  unfold takeRequest
  simp only
  split
  · exact takeRelease_allocFits hreq
  · exact reviewRequest_allocFits hreq

theorem releaseReset_allocFits : (releaseReset e c).AllocFits := by
  unfold releaseReset
  split
  case h_1 | h_2 | h_3 => exact h.frame (by simp)
  all_goals exact stopCause_allocFits (h.frame (by simp)) _

/-! ### Timers of the session (R22, R27, R31, R35, R36, R53) -/

theorem closeTimeout_allocFits : (closeTimeout e c).AllocFits := by
  unfold closeTimeout
  split
  · exact conclude_allocFits (stopCause_allocFits (h.frame (by simp)) _)
  · exact h

theorem openTimeout_allocFits : (openTimeout e c).AllocFits := by
  unfold openTimeout
  split
  · refine conclude_allocFits ?_
    split
    · exact confirmOpen_allocFits (h.frame (by simp))
    · exact confirmOpen_allocFits h
  · exact h

theorem waitTimeout_allocFits : (waitTimeout e c).AllocFits := by
  unfold waitTimeout
  split
  · exact conclude_allocFits (openContactor_allocFits h)
  · exact h

theorem pauseTimeout_allocFits : (pauseTimeout e c).AllocFits := by
  unfold pauseTimeout
  split
  · exact conclude_allocFits (stopCause_allocFits h _)
  · exact h

theorem requestTimeout_allocFits : (requestTimeout e c).AllocFits := by
  unfold requestTimeout
  split
  · exact conclude_allocFits (reviewRequest_allocFits (h.frame (by simp)))
  · exact h

theorem authTimeout_allocFits : (authTimeout e c).AllocFits := by
  unfold authTimeout
  split
  · simp only
    split
    · exact conclude_allocFits (offlineDecision_allocFits (h.frame (by simp)))
    · exact h
  · exact h

/-! ### The insulation monitor (R108 to R117) -/

theorem failTest_allocFits : (failTest e c).AllocFits := by
  have hfail : (reportTestFailed e (leaveMeasuring e .inoperative c)).AllocFits :=
    reportTestFailed_allocFits (leaveMeasuring_allocFits h _)
  unfold failTest
  simp only
  split
  · exact hfail.frame rfl
  · exact hfail

theorem passTest_allocFits : (passTest e c).AllocFits := by
  unfold passTest
  split
  · exact (leaveMeasuring_allocFits (e := e) h .off).frame rfl
  · exact reportTestPassed_allocFits ((leaveMeasuring_allocFits (e := e) h .monitoring).frame (by simp))

theorem judgeTest_allocFits (r : RIso) : (judgeTest e r c).AllocFits := by
  unfold judgeTest
  split
  · simp only
    split
    · exact passTest_allocFits (h.frame (by simp))
    · exact h
  · exact failTest_allocFits h

omit h in
/-- The change to FAULT ends with an allocation and the heater OFF (R114). -/
theorem enterFault_allocFits : (enterFault e c).AllocFits := by
  unfold enterFault
  rw [Core.AllocFits, heaterOff_alloc]
  exact allocate_allocFits true e _

theorem setResult_allocFits (new : ResultState) : (setResult e new c).AllocFits := by
  unfold setResult
  split
  · exact h
  · split
    case h_1 => exact enterFault_allocFits
    all_goals exact h.frame (by simp)

theorem judgeBus_allocFits (r : RIso) : (judgeBus e r c).AllocFits := by
  unfold judgeBus
  split
  · exact h
  · exact setResult_allocFits (h.frame (by simp)) _

theorem discardHalf_allocFits : (discardHalf e c).AllocFits := by
  unfold discardHalf endWithoutResult
  split
  · exact h
  · split
    · exact h
    · split
      · exact failTest_allocFits (h.frame (by simp))
      all_goals exact reportTestFailed_allocFits (leaveMeasuring_allocFits (h.frame (by simp)) _)

theorem takeResult_allocFits (r : RIso) : (takeResult e r c).AllocFits := by
  unfold takeResult
  split
  · exact judgeTest_allocFits (h.frame (by simp)) _
  all_goals exact judgeBus_allocFits (h.frame (by simp)) _

theorem decideHalf_allocFits : (decideHalf e c).AllocFits := by
  have haccept : (acceptHalf e c).AllocFits := by
    unfold acceptHalf
    simp only
    split
    · exact h
    · exact h
    · exact takeResult_allocFits (h.frame (by simp)) _
  unfold decideHalf
  split
  · exact discardHalf_allocFits h
  · exact haccept

theorem halfPeriodEnd_allocFits (samples : List Int) : (halfPeriodEnd samples e c).AllocFits := by
  unfold halfPeriodEnd
  split
  · exact conclude_allocFits (closeWindow_allocFits (decideHalf_allocFits (h.frame (by simp))))
  · exact h

/-! ### Messages of the post (R156 to R158) -/

theorem deliverVerdict_allocFits (number : Half) (echo : Tag) (verdict : Byte) :
    (deliverVerdict number echo verdict e c).AllocFits :=
  conclude_allocFits (takeVerdict_allocFits h ..)

theorem deliverStop_allocFits : (deliverStop e c).AllocFits := conclude_allocFits (stopCause_allocFits h _)

theorem deliver_allocFits (k : PostKind) (content : List Byte) : (deliver k content e c).AllocFits :=
  deliver_keeps h (fun _ => h.frame (by simp)) (fun _ _ _ => deliverVerdict_allocFits h ..)
    (fun _ _ _ _ _ => h.frame (by simp)) (fun _ _ => h.frame (by simp)) (deliverStop_allocFits h) k content

theorem receiveFrame_allocFits (f : CanFrame) : (receiveFrame f e c).AllocFits := by
  unfold receiveFrame
  split
  · split
    · unfold takeSegment
      simp only
      split
      · split
        · exact deliver_allocFits (h.frame (by simp)) _ _
        · exact h.frame (by simp)
      · exact h.frame (by simp)
    · exact h
  · exact h

end

/-! ### Every event, every move, every step -/

theorem BlockEvent.allocFits {f : Env → Core → Core} (hf : BlockEvent f) {e : Env} {c : Core}
    (h : c.AllocFits) : (f e c).AllocFits := by
  cases hf with
  | window => exact windowDeliveries_allocFits h ..
  | offer => exact deliverOffer_allocFits h ..
  | input => exact inputChanged_allocFits h ..
  | closeTimeout => exact closeTimeout_allocFits h
  | openTimeout => exact openTimeout_allocFits h
  | waitTimeout => exact waitTimeout_allocFits h
  | pauseTimeout => exact pauseTimeout_allocFits h
  | requestTimeout => exact requestTimeout_allocFits h
  | authTimeout => exact authTimeout_allocFits h
  | allocation => exact allocationDue_allocFits h
  | halfPeriod => exact halfPeriodEnd_allocFits h _
  | metering => exact meteringDue_allocFits h
  | frame => exact receiveFrame_allocFits h _
  | verdict => exact deliverVerdict_allocFits (h.frame (by simp)) ..
  | stopMessage => exact deliverStop_allocFits (h.frame (by simp))
  | chargeRequest r => exact conclude_allocFits (takeRequest_allocFits h r)
  | stopRequest => exact conclude_allocFits (stopCause_allocFits h _)
  | config => exact conclude_allocFits h
  | resetRelease => exact conclude_allocFits (releaseReset_allocFits h)
  | clearLatches | driverTag | clearFault => exact conclude_allocFits (h.frame (by simp))
  | draw => exact h
  | slot | quietOpen | powerLimit | tariff | time | aliveTimeout | postLimitTimeout | status
  | messageTimeout | attemptStart | attemptEnd | sleepRefused => exact h.frame (by simp)

theorem AlwaysEvent.allocFits {f : Env → Core → Core} (hf : AlwaysEvent f) {e : Env} {c : Core}
    (h : c.AllocFits) : (f e c).AllocFits := by
  cases hf with
  | release => exact conclude_allocFits (roomReport_allocFits (h.frame (by simp)))
  | supplyReset =>
    have hcut : (cutStop c).AllocFits := by
      unfold cutStop
      split
      · exact h.frame (by simp)
      · exact h
    exact hcut.frame (by simp)
  | notices | setTime | spendCap | allowList | tick | resetPin | loseRetention => exact h.frame (by simp)

/-- Every move keeps the record's bounds; SLEEP, a wake and a reset leave the zero allocation (R85). -/
theorem Core.Move.allocFits {c d : Core} (hm : Core.Move c d) (h : c.AllocFits) : d.AllocFits := by
  cases hm with
  | block _ hf _ => exact hf.allocFits h
  | always _ _ hf => exact hf.allocFits h
  | sleep | cold => exact AllocRecord.zero_fits
  | wake sources _ =>
    show (postWake sources c.awake).alloc.record.Fits
    rw [postWake_alloc]
    exact AllocRecord.zero_fits
  | leaveReset _ e kind =>
    show (closeRetained e (c.retained e.cfg.halfPeriod kind)).alloc.record.Fits
    rw [closeRetained_alloc]
    exact AllocRecord.zero_fits

/-- Settles O57: every step moves the blocks by events, and each keeps the bounds of the allocation record. -/
theorem stepsKeepTheCommandWithinTheOutput : Obligations.StepsKeepTheCommandWithinTheOutput :=
  fun _ _ h hstep => (step_moves hstep).keeps (P := Core.AllocFits) (fun _ _ hm hc => hm.allocFits hc) h

end Sys2Proof.Machine
end

section
/-! PROOFS. The stages of an allocation: the inlet terms and the one that binds (R65 to R69), and what the later stages
make of them (R70 to R79). -/

namespace Sys2Proof.Machine

/-! ### The smallest term and its name (R69) -/

/-- A term takes the place of the smallest so far if it is smaller, with its own name; otherwise that one stays
(R69). -/
theorem tighter_cases (b : Binding) (term : Option Nat) (best : Nat × Binding) :
    (tighter b term best = best ∧ ∀ x, term = some x → best.1 ≤ x)
      ∨ ∃ x, term = some x ∧ x < best.1 ∧ tighter b term best = (x, b) := by
  cases term with
  | none => exact .inl ⟨rfl, nofun⟩
  | some x =>
    by_cases hx : x < best.1
    · exact .inr ⟨x, rfl, hx, if_pos hx⟩
    · exact .inl ⟨if_neg hx, by rintro _ ⟨⟩; omega⟩

/-- The term that binds: below no term, and the first in the order of the names that has its value (R69). -/
theorem smallestTerm_binds {pilot cable cfg v : Nat} {post spend : Option Nat} {b : Binding}
    (h : smallestTerm pilot cable post spend cfg = (v, b)) :
    (v ≤ pilot ∧ v ≤ cable ∧ v ≤ cfg ∧ (∀ x, post = some x → v ≤ x) ∧ ∀ x, spend = some x → v ≤ x)
      ∧ (b = .pilot ↔ pilot = v)
      ∧ (b = .cable ↔ pilot ≠ v ∧ cable = v)
      ∧ (b = .post ↔ pilot ≠ v ∧ cable ≠ v ∧ post = some v)
      ∧ (b = .spend ↔ pilot ≠ v ∧ cable ≠ v ∧ post ≠ some v ∧ spend = some v)
      ∧ (b = .config ↔ pilot ≠ v ∧ cable ≠ v ∧ post ≠ some v ∧ spend ≠ some v ∧ cfg = v) := by
  unfold smallestTerm at h
  rcases tighter_cases .cable (some cable) (pilot, .pilot) with ⟨h1, hcable⟩ | ⟨_, ⟨⟩, hcable, h1⟩
  all_goals
    rw [h1] at h
    rcases tighter_cases .post post _ with ⟨h2, hpost⟩ | ⟨_, rfl, hpost, h2⟩
  all_goals
    rw [h2] at h
    rcases tighter_cases .spend spend _ with ⟨h3, hspend⟩ | ⟨_, rfl, hspend, h3⟩
  all_goals
    rw [h3] at h
    rcases tighter_cases .config (some cfg) _ with ⟨h4, hcfg⟩ | ⟨_, ⟨⟩, hcfg, h4⟩
  all_goals
    rw [h4] at h
    cases h
    grind

/-! ### The inlet terms (R65 to R68) -/

/-- The inlet voltage of a term is that of the set published last (R65, R66). -/
theorem vIn_of_published {m : Mfe} {p : MeasurementSet} (h : m.published = some p) : m.vIn = p.vIn := by
  simp [Mfe.vIn, h]

theorem vIn_of_unpublished {m : Mfe} (h : m.published = none) : m.vIn = 0 := by simp [Mfe.vIn, h]

/-- Settles O38: the term that binds by the steps of `tighter`, each inlet term by its definition. -/
theorem smallestTermBinds : Obligations.SmallestTermBinds := by
  refine ⟨fun _ _ _ _ _ _ _ h => smallestTerm_binds h, fun e c r vIn hr hvIn => ?_⟩
  have hv : e.mfe.vIn = vIn := by
    rw [hvIn]
    cases hp : e.mfe.published with
    | none => exact vIn_of_unpublished hp
    | some p => exact vIn_of_published hp
  subst hr hv
  refine ⟨rfl, fun k hk => ?_, fun hnone => ?_, fun h => ?_, fun limit hheard hlimit => ?_, fun h => ?_,
    fun hcap hprice => ?_, rfl, _, rfl⟩
  · simp [limitRecord, cableTerm, hk]
  · simp [limitRecord, cableTerm, hnone]
  · rcases h with h | h <;> simp [limitRecord, postTerm, h]
  · simp [limitRecord, postTerm, hheard, hlimit]
  · exact if_pos h
  · exact if_neg (by omega)

/-! ### The current of the temperature table (R72) -/

/-- Below the first row the current found so far stands (R72). -/
theorem tableCurrent_below {t : Int} {table : List TempRow} (found : Nat)
    (h : ∀ row ∈ table, t < row.breakpoint) : tableCurrent t found table = found := by
  cases table with
  | nil => rfl
  | cons row rest => exact if_neg (by have := h row List.mem_cons_self; omega)

/-- In a table that ascends, the last row at or below the temperature gives the current (R72). -/
theorem tableCurrent_row {t : Int} {table : List TempRow} {i : Nat} {row : TempRow} (found : Nat)
    (hasc : (table.map (·.breakpoint)).Pairwise (· < ·)) (hrow : table[i]? = some row)
    (hle : row.breakpoint ≤ t) (hnext : ∀ next, table[i + 1]? = some next → t < next.breakpoint) :
    tableCurrent t found table = row.current := by
  induction table generalizing found i with
  | nil => cases hrow
  | cons first rest ih =>
    rw [List.map_cons, List.pairwise_cons] at hasc
    obtain ⟨hfirst, hrest⟩ := hasc
    cases i with
    | zero =>
      cases hrow
      rw [tableCurrent, if_pos hle]
      cases rest with
      | nil => rfl
      | cons second _ => exact if_neg (by have := hnext second rfl; omega)
    | succ i =>
      have hmem : row ∈ rest := List.mem_of_getElem? hrow
      have hlt := hfirst row.breakpoint (List.mem_map_of_mem hmem)
      rw [tableCurrent, if_pos (by omega)]
      exact ih _ hrest hrow hnext

/-! ### Demands, shares and ramp (R73 to R79) -/

/-- In PREHEAT, without charge enable or without V_bus no charge is demanded (R73). -/
theorem chargeDemand_zero {e : Env} {s : Session}
    (h : s.state = .preheat ∨ s.chargeEnable = false ∨ e.mfe.vBus? = none) : chargeDemand e s = 0 := by
  unfold chargeDemand
  split
  next req _ hreq hbus =>
    rcases h with h | h | h
    · simp [h]
    · rw [Session.chargeEnable, hreq] at h
      have hoff : req.chargeEnable = false := h
      simp [hoff]
    · simp [h] at hbus
  · rfl

/-- The charge demand of a request: nothing from its target voltage up, else its current, held to that of the table, at
the bus voltage (R73). -/
theorem chargeDemand_of_request {e : Env} {s : Session} {req : ChargeRequest} {v : Nat}
    (hs : s.state ≠ .preheat) (hreq : s.request = some req) (hon : req.chargeEnable = true)
    (hbus : e.mfe.vBus? = some v) :
    chargeDemand e s = if req.vTarget ≤ v then 0 else min req.iReq (iTab e) * v / 100 := by
  simp [chargeDemand, hs, hreq, hon, hbus]

/-- In CHARGING the heater's first share goes before the charge, and what is left to the heater (R76). -/
theorem shareOut_charging {chgReq heatReq reserve pOut h1 chg : Nat}
    (hh1 : h1 = min (min heatReq reserve) pOut) (hchg : chg = min chgReq (pOut - h1)) :
    shareOut false chgReq heatReq reserve pOut = (chg, h1 + min (heatReq - h1) (pOut - h1 - chg)) := by
  subst hchg hh1
  simp only [shareOut, firstShare, Nat.min_assoc, Bool.false_eq_true, if_false]

/-- Without an increase, or outside the quiet window, the command takes the target (R78, R79). -/
theorem rampStep_taken {window : Bool} {target base : Nat} (h : target ≤ base ∨ window = false) :
    rampStep window target base = (target, none) := by
  refine if_neg fun ⟨hlt, hwindow⟩ => ?_
  rcases h with h | h
  · omega
  · simp [h] at hwindow

/-- In the quiet window an increase is held as pending (R79). -/
theorem rampStep_held {target base : Nat} (h : base < target) :
    rampStep true target base = (base, some target) := if_pos ⟨h, rfl⟩

/-! ### The record of a full allocation -/

section
variable (immediate : Bool) (e : Env) (c : Core)

/-- The shares of a full allocation before rounding (R75, R76). -/
def allocationShares : Nat × Nat :=
  shareOut (c.session.state == .preheat) (chargeDemand e c.session) (heatDemand e c) e.cfg.reserve
    (limitRecord e c).pOut

/-- The command and the pending increase of a full allocation (R78, R79). -/
def allocationRamp : Nat × Option Nat :=
  rampStep c.mon.window
    (rampTarget immediate (tens (allocationShares e c).1) (rampBase c.alloc.record)) (rampBase c.alloc.record)

/-- A full allocation is the limit-only one with stages 4 to 8 added (R62). -/
theorem fullRecord_eq :
    fullRecord immediate e c =
      { limitRecord e c with
        iTab := iTab e
        pChgReq := chargeDemand e c.session
        pHeatReq := heatDemand e c
        pChgAlloc := tens (allocationShares e c).1
        pHeatAlloc := tens (allocationShares e c).2
        pChgCmd := (allocationRamp immediate e c).1
        pendingIncrease := (allocationRamp immediate e c).2
        rampValid := true
        command := if c.mon.result == .fault then 0
          else (allocationRamp immediate e c).1 + tens (allocationShares e c).2 } := rfl

end

/-- The two allocations are the shares, rounded (R77). -/
theorem fullRecord_shares {e : Env} {c : Core} {chg heat : Nat} (immediate : Bool)
    (h : allocationShares e c = (chg, heat)) :
    (fullRecord immediate e c).pChgAlloc = chg / 10 * 10
      ∧ (fullRecord immediate e c).pHeatAlloc = heat / 10 * 10 := by
  rw [fullRecord_eq, h]
  exact ⟨rfl, rfl⟩

/-- Settles O39: each stage by the lemma about its function. -/
theorem allocationsShareTheOutput : Obligations.AllocationsShareTheOutput := by
  intro immediate e c r l term hr hl hterm
  subst hr hl hterm
  refine ⟨fun h => ?_, fun h => ?_, fun h => ?_, rfl, rfl, rfl, rfl, rfl, rfl, fun h => ?_,
    fun t ht hbelow => ?_, fun t i row ht hasc hrow hle hnext => ?_, chargeDemand_zero,
    fun req v hs hreq hon hbus => chargeDemand_of_request hs hreq hon hbus, rfl, fun h => ?_,
    fun h h1 chg hh1 hchg => ?_, ?_, fun base target hbase htarget => ?_⟩
  case refine_1 => rcases h with h | h <;> simp [limitRecord, deratingOf, derate, h]
  case refine_2 | refine_3 => simp [limitRecord, deratingOf, derate, h]
  case refine_4 => simp [fullRecord_eq, iTab, h]
  case refine_5 => simp [fullRecord_eq, iTab, ht, tableCurrent_below 0 hbelow]
  case refine_6 => simp [fullRecord_eq, iTab, ht, tableCurrent_row 0 hasc hrow hle hnext]
  case refine_7 =>
    have hshares : allocationShares e c = (0, min (heatDemand e c) (limitRecord e c).pOut) := by
      rw [allocationShares, h]; rfl
    exact fullRecord_shares immediate hshares
  case refine_8 =>
    have hshares : allocationShares e c =
        (chg, h1 + min (heatDemand e c - h1) ((limitRecord e c).pOut - h1 - chg)) := by
      rw [allocationShares, h]; exact shareOut_charging hh1 hchg
    exact fullRecord_shares immediate hshares
  case refine_9 =>
    obtain ⟨-, hshares, -⟩ := fullRecord_fits immediate e c
    exact hshares
  case refine_10 =>
    have hramp : allocationRamp immediate e c = rampStep c.mon.window target base := by
      rw [htarget, hbase]; rfl
    simp only [fullRecord_eq, hramp]
    refine ⟨fun h => ?_, fun hlt hwindow => ?_, trivial, fun h => ?_, fun h => ?_⟩
    · simp [rampStep_taken h]
    · simp [hwindow, rampStep_held hlt]
    · simp [h]
    · simp [h]

end Sys2Proof.Machine
end

section
/-! PROOFS. The half-period of the insulation monitor (R106, R108, R109, R115): the quiet window, the decision at the
expiry, and what a stop leaves of the monitor. -/

namespace Sys2Proof.Machine

/-! ### A disturbance marks the monitor and changes nothing else in it (R109) -/

/-- The monitor but for the mark of its quiet window. -/
def Monitor.unmarked (m : Monitor) : Monitor := { m with mark := false }

@[simp] theorem disturb_unmarked (c : Core) : (disturb c).mon.unmarked = c.mon.unmarked := by
  rw [disturb_eq]; rfl

@[simp] theorem reportFall_unmarked (before : Nat) (c : Core) :
    (reportFall before c).mon.unmarked = c.mon.unmarked := by
  rcases reportFall_cases before c with h | h <;> simp [h]

@[simp] theorem forcedEdge_unmarked (c : Core) : (forcedEdge c).mon.unmarked = c.mon.unmarked := by
  unfold forcedEdge
  split <;> simp

@[simp] theorem heaterOff_unmarked (c : Core) : (heaterOff c).mon.unmarked = c.mon.unmarked := by
  simp [heaterOff]

@[simp] theorem heaterFollow_unmarked (e : Env) (old new : SessionState) (c : Core) :
    (heaterFollow e old new c).mon.unmarked = c.mon.unmarked := by
  simp only [heaterFollow]
  split
  · simp
  · split <;> simp

@[simp] theorem changeState_unmarked (e : Env) (new : SessionState) (c : Core) :
    (changeState e new c).mon.unmarked = c.mon.unmarked := by simp [changeState]

@[simp] theorem settlePause_unmarked (e : Env) (c : Core) :
    (settlePause e c).mon.unmarked = c.mon.unmarked := by
  unfold settlePause chooseRunning
  split
  case h_1 | h_2 | h_3 => split <;> simp
  all_goals rfl

@[simp] theorem trim_unmarked (cfg : ConfigRecord) (v : Nat) (c : Core) :
    (trim cfg v c).mon.unmarked = c.mon.unmarked := by
  unfold trim
  simp only
  split
  · rfl
  · split <;> simp

@[simp] theorem handHeat_unmarked (e : Env) (v : Nat) (c : Core) :
    (handHeat e v c).mon.unmarked = c.mon.unmarked := by
  unfold handHeat
  simp only
  split
  · simp
  · simp
  · split <;> simp

@[simp] theorem allocate_unmarked (immediate : Bool) (e : Env) (c : Core) :
    (allocate immediate e c).mon.unmarked = c.mon.unmarked := by simp [allocate, reportLimit]

/-- A stop on the current does not touch a monitor that is not in SELF-TEST, but for its mark (R34, R107). -/
theorem stopCause_unmarked {e : Env} {cause : StopCause} {c : Core} (hl : c.session.state.live = true)
    (hk : c.session.contactor = .closed) (ha : cause.atOnce = false) (hm : c.mon.state ≠ .selfTest) :
    (stopCause e cause c).mon.unmarked = c.mon.unmarked := by
  have hstays (d : Core) (hd : d.mon.unmarked = c.mon.unmarked) : monitorOnStopping e d = d := by
    have hstate : d.mon.state = c.mon.state := (congrArg Monitor.state hd :)
    simp [monitorOnStopping, hstate, hm]
  rw [stopCause_live hl, enterStopping, hstays _ (by simp)]
  have hwait (d : Core) (hd : d.session.contactor = .closed) : (startOpening e cause d).mon = d.mon := by
    simp [startOpening, hd, ha]
  rw [hwait]
  · simp
  · rw [allocate_session_notLive (by simp; rfl)]
    simpa using hk

/-! ### The quiet window (R80, R108) -/

/-- The end of the window changes nothing else in the monitor (R108). -/
@[simp] theorem closeWindow_mon (e : Env) (c : Core) :
    (closeWindow e c).mon = { c.mon with window := false } := by
  unfold closeWindow
  split
  · simp
  next h => rw [← eq_false_of_ne_true h]

/-- Outside the window there is nothing to end. -/
theorem closeWindow_closed {e : Env} {c : Core} (h : c.mon.window = false) : closeWindow e c = c := by
  simp [closeWindow, h]

/-- The end of the window applies a pending increase (R80). -/
theorem closeWindow_pending {e : Env} {c : Core} {p : Nat} (h : c.mon.window = true)
    (hp : c.alloc.record.pendingIncrease = some p) :
    (closeWindow e c).alloc.record =
      { c.alloc.record with
        pChgCmd := p, pendingIncrease := none, command := p + c.alloc.record.pHeatAlloc } := by
  simp [closeWindow, h, applyPending, hp]

/-- The samples of an open window, clamped, join its sum (R7, R108). -/
theorem takeSamples_open {samples : List Int} {m : Monitor} {sum : Int} {n : Nat} (h : m.window = true)
    (hsum : sum = m.windowSum + (samples.map fun v => max (-30000) (min 30000 v)).sum)
    (hn : n = m.windowCount + samples.length) :
    takeSamples samples m = { m with windowSum := sum, windowCount := n } := by
  subst hsum hn
  exact if_pos h

/-! ### The decision at the expiry (R108, R109, R115) -/

/-- A half-period with a clear mark and samples in its window is accepted (R108). -/
theorem Monitor.discarded_eq_false {m : Monitor} (h : m.mark = false) (hw : m.window = true)
    (hn : 0 < m.windowCount) : m.discarded = false := by
  simp [Monitor.discarded, h, hw]
  omega

/-- A half-period with a mark or without a sample is discarded (R109). -/
theorem Monitor.discarded_eq_true {m : Monitor} (h : m.mark = true ∨ m.windowCount = 0) :
    m.discarded = true := by
  rcases h with h | h <;> simp [Monitor.discarded, h]

/-- An accepted POSITIVE half-period stores its settled sample and turns NEGATIVE (R108). -/
theorem decideHalf_positive {e : Env} {c : Core} (h : c.mon.discarded = false)
    (hp : c.mon.polarity = .positive) :
    decideHalf e c = c.onMon fun m =>
      { m with
        vPos := some m.settled, polarity := .negative, timer := some e.cfg.halfPeriod, discards := 0
        mark := false } := by
  simp only [decideHalf, h, acceptHalf, hp]
  rfl

/-- A discarded half-period before the fourth running is repeated with its polarity (R109). -/
theorem decideHalf_repeats {e : Env} {c : Core} (h : c.mon.discarded = true)
    (hd : c.mon.discards + 1 < 4) :
    decideHalf e c = c.onMon fun m =>
      { m with timer := some e.cfg.halfPeriod, discards := m.discards + 1 } := by
  rw [decideHalf, if_pos h, discardHalf, if_pos hd]
  rfl

/-- The fourth discard running ends the cycle without a result (R109). -/
theorem decideHalf_fourth {e : Env} {c : Core} (h : c.mon.discarded = true) (hd : c.mon.discards = 3) :
    decideHalf e c = endWithoutResult e
      (c.onMon fun m => { m with vPos := none, discards := 0, noResults := m.noResults + 1 }) := by
  rw [decideHalf, if_pos h, discardHalf, if_neg (by omega)]

/-- Before the eighth cycle without a result a new one begins POSITIVE (R106, R109). -/
theorem endWithoutResult_begins {e : Env} {c : Core} (h : c.mon.noResults < 8) :
    endWithoutResult e c = c.onMon fun m =>
      { m with polarity := .positive, vPos := none, timer := some e.cfg.halfPeriod } := if_pos h

/-- The eighth cycle without a result in MONITORING makes the monitor INOPERATIVE (R115). -/
theorem endWithoutResult_fails {e : Env} {c : Core} (h : c.mon.noResults = 8)
    (hs : c.mon.state = .monitoring) :
    endWithoutResult e c = reportTestFailed e (leaveMeasuring e .inoperative c) := by
  simp [endWithoutResult, h, hs]

/-- A monitor that leaves SELF-TEST or MONITORING has no half-period and no window (R107, R119). -/
theorem leaveMeasuring_mon (e : Env) (new : MonitorState) (c : Core) :
    (leaveMeasuring e new c).mon =
      { c.mon with
        state := new, kind := none, timer := none, vPos := none, discards := 0, mark := false
        window := false } := by
  simp [leaveMeasuring]

/-- A monitor that is INOPERATIVE drives no generator (R106). -/
theorem linesOf_inoperative {c : Core} (h : c.mon.state = .inoperative) : (linesOf c).generator = 0 := by
  unfold linesOf
  split
  · rfl
  · simp [generatorOut, h]

/-- A monitor that fails in a session with the contactor CLOSED is INOPERATIVE without a half-period or a window, and
the session stops on the current with SELF-TEST-FAIL (R34, R107, R115). -/
theorem monitorFails_stops {e : Env} {c : Core} (hl : c.session.state.live = true)
    (hk : c.session.contactor = .closed) :
    (reportTestFailed e (leaveMeasuring e .inoperative c)).mon.unmarked =
        { c.mon with
          state := .inoperative, kind := none, timer := none, vPos := none, discards := 0, mark := false
          window := false }
      ∧ (reportTestFailed e (leaveMeasuring e .inoperative c)).session =
        { ({ c.session with monitorFailure := true } : Session).stopped .selfTestFail with
          waitTimer := some 500 }
      ∧ (reportTestFailed e (leaveMeasuring e .inoperative c)).alloc.record = AllocRecord.zero
      ∧ (reportTestFailed e (leaveMeasuring e .inoperative c)).sup = c.sup := by
  have hmon := leaveMeasuring_mon e .inoperative c
  obtain ⟨hses, hrec, -, hsup⟩ := stopCause_stopsOnCurrent (e := e) (cause := .selfTestFail)
    (c := (leaveMeasuring e .inoperative c).onSession fun s => { s with monitorFailure := true })
    (by simpa using hl) (by simpa using hk) rfl
  refine ⟨(stopCause_unmarked (by simpa using hl) (by simpa using hk) rfl (by simp [hmon])).trans ?_, ?_, hrec, ?_⟩
  · simp [hmon, Monitor.unmarked]
  · rw [Core.onSession_session, leaveMeasuring_session] at hses
    exact hses
  · exact hsup.trans (leaveMeasuring_sup ..)

/-! ### The expiry in a session -/

/-- The blocks when the samples of the window have come (R108, log 34). -/
def Core.sampled (sum : Int) (n : Nat) (c : Core) : Core :=
  c.onMon fun m => { m with windowSum := sum, windowCount := n }

/-- The expiry of a half-period whose window is open, when what it decides leaves the session in a state that no start
condition moves: the decision, then the end of the window (R108). -/
theorem halfPeriod_done {samples : List Int} {sum : Int} {n : Nat} {s : State} {d : Core}
    (hu : s.core.up = true) (hm : s.core.mon.state.measuring = true) (ht : s.core.mon.timer.isSome = true)
    (hw : s.core.mon.window = true)
    (hsum : sum = s.core.mon.windowSum + (samples.map fun v => max (-30000) (min 30000 v)).sum)
    (hn : n = s.core.mon.windowCount + samples.length)
    (hd : decideHalf s.env (s.core.sampled sum n) = d)
    (ha : d.session.state ≠ .attached) (hc : d.session.state ≠ .closed) :
    exec (.halfPeriodTimerExpiry samples) s = .next (afterBlocks s (closeWindow s.env d)) := by
  have hsampled : s.core.onMon (takeSamples samples) = s.core.sampled sum n := by
    simp only [Core.sampled, Core.onMon, takeSamples_open hw hsum hn]
  have hend : halfPeriodEnd samples s.env s.core = closeWindow s.env d := by
    rw [halfPeriodEnd, if_pos (by simp [hm, ht]), hsampled, hd, conclude_other (by simpa using ha) (by simpa using hc)]
  rw [show exec (.halfPeriodTimerExpiry samples) s = (s.event (halfPeriodEnd samples)).done from rfl,
    State.event_done _ hu, hend]

/-- Settles O43: the opening, and the expiry by what the half-period decides. -/
theorem halfPeriodsAreAcceptedOrRepeated : Obligations.HalfPeriodsAreAcceptedOrRepeated := by
  intro samples sum n s hu hm ht
  refine ⟨fun hw => ?opens, fun hw hsum hn hatt hclosed =>
    ⟨fun hmark hpos hpol => ?accepted, fun hdisc => ?discarded⟩⟩
  case opens =>
    have hopen : quietOpen s.core = openWindow s.core := by simp [quietOpen, hm, ht, hw]
    rw [show exec .quietWindowOpen s = (s.event fun _ => quietOpen).done from rfl, State.event_done _ hu, hopen]
    rfl
  case accepted =>
    have hd := decideHalf_positive (e := s.env) (c := s.core.sampled sum n)
      (Monitor.discarded_eq_false hmark hw hpos) hpol
    refine ⟨_, halfPeriod_done hu hm ht hw hsum hn hd hatt hclosed, ?_, closeWindow_session .., closeWindow_meter ..,
      fun p hp => closeWindow_pending hw hp⟩
    simp only [afterBlocks, closeWindow_mon]
    rw [← hmark]
    rfl
  case discarded =>
    have hdiscarded : (s.core.sampled sum n).mon.discarded = true := Monitor.discarded_eq_true hdisc
    refine ⟨fun hlt => ?again, fun h3 hlt => ?begins, fun h3 h7 hmon hses hk => ?fails⟩
    case again =>
      have hd := decideHalf_repeats (e := s.env) hdiscarded hlt
      exact ⟨_, halfPeriod_done hu hm ht hw hsum hn hd hatt hclosed, closeWindow_mon .., closeWindow_session ..⟩
    all_goals have hfourth := decideHalf_fourth (e := s.env) hdiscarded h3
    case begins =>
      have hd := hfourth.trans (endWithoutResult_begins (Nat.succ_lt_succ hlt))
      exact ⟨_, halfPeriod_done hu hm ht hw hsum hn hd hatt hclosed, closeWindow_mon .., closeWindow_session ..⟩
    case fails =>
      have hd := hfourth.trans (endWithoutResult_fails (congrArg Nat.succ h7) hmon)
      have hlive : s.core.session.state.live = true := by rcases hses with h | h | h <;> rw [h] <;> rfl
      obtain ⟨hunmarked, hsession, hrecord, hsup⟩ := monitorFails_stops (e := s.env)
        (c := (s.core.sampled sum n).onMon fun m =>
          { m with vPos := none, discards := 0, noResults := m.noResults + 1 }) hlive hk
      rw [← hd] at hunmarked hsession hrecord hsup
      have hstate : (decideHalf s.env (s.core.sampled sum n)).mon.state = .inoperative :=
        (congrArg Monitor.state hunmarked :)
      have hwindow : (decideHalf s.env (s.core.sampled sum n)).mon.window = false :=
        (congrArg Monitor.window hunmarked :)
      have hdone := halfPeriod_done hu hm ht hw hsum hn rfl (by rw [hsession]; nofun) (by rw [hsession]; nofun)
      rw [closeWindow_closed hwindow] at hdone
      refine ⟨_, hdone, hstate, (congrArg Monitor.timer hunmarked :), hwindow,
        (congrArg Monitor.result hunmarked :), congrArg Session.monitorFailure hsession,
        stoppedOnCurrent_of (x := { s.core.session with monitorFailure := true }) hk hsession hrecord
          ((congrArg Supply.held hsup).trans (held_of_up hu)) rfl,
        linesOf_inoperative hstate⟩

end Sys2Proof.Machine
end

section
/-! PROOFS. The heater scheduler (chapter 5): what each of its operations does to the heater, and the power and session
state that the operations of the other blocks leave alone. -/

namespace Sys2Proof.Machine

/-! ### Forced edges, OFF and trims (R86, R96, R99) -/

/-- A forced edge leaves no segment energized (R99). -/
@[simp] theorem forcedEdge_heater (c : Core) : (forcedEdge c).heater = { c.heater with energized := none } := by
  unfold forcedEdge
  split
  · simp
  next h => rw [← Option.not_isSome_iff_eq_none.1 h]

/-- A forced edge of an energized segment in an open quiet window marks it (R99, R109). -/
theorem forcedEdge_mark {c : Core} (hen : c.heater.energized.isSome = true) (hw : c.mon.window = true) :
    (forcedEdge c).mon.mark = true := by
  rw [forcedEdge, if_pos hen, disturb_eq]
  simp [hw]

@[simp] theorem heaterOff_heater (c : Core) : (heaterOff c).heater = c.heater.off := by
  simp [heaterOff, Heater.off]

/-- The value handed leaves enough slots for the list: no trim (R96). -/
theorem trim_fits {cfg : ConfigRecord} {v p : Nat} {c : Core} (hp : c.heater.position = some p)
    (hb : c.heater.started + (c.heater.slots.length - (p + 1)) ≤ slotBound cfg v) : trim cfg v c = c := by
  simp [trim, hp, hb]

/-- A trim from the end of the list (R96). -/
theorem trim_cuts {cfg : ConfigRecord} {v p : Nat} {c : Core} (hp : c.heater.position = some p)
    (hs : c.heater.started ≤ slotBound cfg v)
    (hb : slotBound cfg v < c.heater.started + (c.heater.slots.length - (p + 1))) :
    trim cfg v c = c.onHeater fun h =>
      { h with slots := h.slots.take (p + 1 + (slotBound cfg v - h.started)) } := by
  simp [trim, hp, hs, Nat.not_le.2 hb]

/-- A trim below the slots started: the rest of the frame is cut and the running segment de-energized (R96). -/
theorem trim_cutsRunning {cfg : ConfigRecord} {v p : Nat} {c : Core} (hp : c.heater.position = some p)
    (hs : slotBound cfg v < c.heater.started) :
    trim cfg v c = forcedEdge (c.onHeater fun h => { h with slots := h.slots.take (p + 1) }) := by
  have hb : ¬ c.heater.started + (c.heater.slots.length - (p + 1)) ≤ slotBound cfg v := by omega
  simp [trim, hp, hb, Nat.not_le.2 hs]

/-! ### Slots and frames (R90, R91, R93, R97) -/

theorem boundaryDue_open {e : Env} {c : Core} (h : c.mon.window = true) :
    boundaryDue e c = c.onHeater fun h => { h with deferred := true, slotTimer := none } := if_pos h

theorem boundaryDue_closed {e : Env} {c : Core} (h : c.mon.window = false) :
    boundaryDue e c = c.onHeater (Heater.takeBoundary e) := if_neg (by simp [h])

/-- The first boundary in ARMED starts a frame (R91). -/
theorem Heater.takeBoundary_armed {e : Env} {h : Heater} (hr : h.run = .armed) :
    h.takeBoundary e = h.startFrame e := by simp [Heater.takeBoundary, hr]

/-- The heater at slot `p`, before the decision about its segment (R90, R93). -/
def Heater.atSlot (p : Nat) (h : Heater) : Heater :=
  { h with position := some p, deferred := false, slotTimer := some 50 }

/-- Before position 63 the next slot begins (R90). -/
theorem Heater.takeBoundary_next {e : Env} {h : Heater} {p : Nat} (hr : h.run = .running)
    (hp : h.position = some p) (hlt : p < 63) :
    h.takeBoundary e = (h.atSlot (p + 1)).beginSlot e.cfg (p + 1) := by
  simp [Heater.takeBoundary, Heater.atSlot, hr, hp, hlt]

/-- At position 63 the frame ends and a new one starts (R90, R91). -/
theorem Heater.takeBoundary_last {e : Env} {h : Heater} (hr : h.run = .running)
    (hp : h.position = some 63) : h.takeBoundary e = h.startFrame e := by
  simp [Heater.takeBoundary, hr, hp]

/-- The beginning of a slot leaves the run state. -/
@[simp] theorem Heater.beginSlot_run (cfg : ConfigRecord) (p : Nat) (h : Heater) :
    (h.beginSlot cfg p).run = h.run := by
  unfold Heater.beginSlot
  split
  · rfl
  · split
    · rfl
    · split <;> rfl

/-- A frame runs from its start (R91). -/
@[simp] theorem Heater.startFrame_run (e : Env) (h : Heater) : (h.startFrame e).run = .running := by
  simp [Heater.startFrame]

/-- A boundary taken by a scheduler that is not OFF leaves it RUNNING (R90, R91). -/
theorem Heater.takeBoundary_run {e : Env} {h : Heater} (hrun : h.run ≠ .off) :
    (h.takeBoundary e).run = .running := by
  unfold Heater.takeBoundary
  split
  next hoff => exact absurd hoff hrun
  next hr _ =>
    split
    · simpa using hr
    · simp
  all_goals simp

/-- In OFF no boundary is taken (R86). -/
theorem Heater.takeBoundary_off {e : Env} {h : Heater} (hr : h.run = .off) : h.takeBoundary e = h := by
  simp [Heater.takeBoundary, hr]

/-! ### A value is handed (R82, R95) -/

theorem handHeat_off {e : Env} {v : Nat} {c : Core} (hr : c.heater.run = .off) :
    handHeat e v c = c.onHeater fun h => { h with lastHanded := v, held := v } := by
  simp only [handHeat, hr]
  rfl

theorem handHeat_armed {e : Env} {v : Nat} {c : Core} (hr : c.heater.run = .armed) :
    handHeat e v c = boundaryDue e (c.onHeater fun h => { h with lastHanded := v }) := by
  simp only [handHeat, hr]

theorem handHeat_lower {e : Env} {v : Nat} {c : Core} (hr : c.heater.run = .running)
    (hv : v < c.heater.lastHanded) :
    handHeat e v c = trim e.cfg v (c.onHeater fun h => { h with lastHanded := v }) := by
  simp only [handHeat, hr, if_pos hv]

theorem handHeat_notLower {e : Env} {v : Nat} {c : Core} (hr : c.heater.run = .running)
    (hv : c.heater.lastHanded ≤ v) :
    handHeat e v c = c.onHeater fun h => { h with lastHanded := v } := by
  simp only [handHeat, hr, if_neg (Nat.not_lt.2 hv)]

/-! ### What leaves session state and power alone -/

@[simp] theorem setPause_state (p : PauseCause) (on : Bool) (c : Core) :
    (setPause p on c).session.state = c.session.state := by
  unfold setPause
  split <;> rfl

@[simp] theorem pauseOnSet_state (e : Env) (c : Core) : (pauseOnSet e c).session.state = c.session.state := by
  simp [pauseOnSet]

@[simp] theorem pauseOnRequest_state (e : Env) (c : Core) :
    (pauseOnRequest e c).session.state = c.session.state := by simp [pauseOnRequest]

@[simp] theorem addFault_state (cause : StopCause) (c : Core) :
    (addFault cause c).session.state = c.session.state := by
  unfold addFault
  split
  · rfl
  · simp

@[simp] theorem handOver_state (e : Env) (r : BillingRecord) (c : Core) :
    (handOver e r c).session.state = c.session.state := by simp [handOver]

@[simp] theorem closeRecord_state (e : Env) (c : Core) : (closeRecord e c).session.state = c.session.state := by
  obtain ⟨b, hb⟩ := closeRecord_session e c
  rw [hb]

@[simp] theorem closeRetained_state (e : Env) (c : Core) :
    (closeRetained e c).session.state = c.session.state := by
  unfold closeRetained
  split
  · rfl
  · split
    · rfl
    · simp only
      split
      · simp
      · rfl

@[simp] theorem setWeld_state (c : Core) : (setWeld c).session.state = c.session.state := by simp [setWeld]

@[simp] theorem takeReset_power (cause : ResetCause) (c : Core) :
    (takeReset cause c).sup.power = c.sup.power := rfl

@[simp] theorem resetIfDeferred_power (c : Core) : (resetIfDeferred c).sup.power = c.sup.power := by
  unfold resetIfDeferred
  split <;> rfl

@[simp] theorem resetPin_power (c : Core) : (resetPin c).sup.power = c.sup.power := by
  unfold resetPin
  split <;> rfl

/-! ### A stop cause leaves no session that keeps pause causes (R32 to R37) -/

@[simp] theorem enterClosed_state (e : Env) (c : Core) : (enterClosed e c).session.state = .closed := by
  obtain ⟨b, hb⟩ := enterClosed_session e c
  rw [hb]
  rfl

theorem openContactor_notLive {e : Env} {c : Core} (h : c.session.state.live = false) :
    (openContactor e c).session.state.live = false := by
  unfold openContactor
  split
  · simpa using h
  · simp [confirmOpen, SessionState.live]

theorem startOpening_notLive {e : Env} {cause : StopCause} {c : Core} (h : c.session.state.live = false) :
    (startOpening e cause c).session.state.live = false := by
  unfold startOpening
  split
  · simp [SessionState.live]
  · simpa using h
  · split
    · exact openContactor_notLive h
    · exact h
  · exact h

/-- A live session stops, and the other states are none that a cause makes live (R32). -/
theorem stopCause_notLive (e : Env) (cause : StopCause) (c : Core) :
    (stopCause e cause c).session.state.live = false := by
  obtain ⟨d, hd, hses, -⟩ := enterStopping_split e cause c
  have hstopped : (enterStopping e cause c).session.state.live = false := by
    rw [hd]
    exact startOpening_notLive (by rw [hses]; rfl)
  unfold stopCause
  split
  case h_1 | h_2 | h_3 | h_4 => exact hstopped
  case h_5 hs =>
    have hadd : (addFault cause c).session.state.live = false := by simp [hs, SessionState.live]
    simp only
    split
    · exact openContactor_notLive hadd
    · exact hadd
  all_goals
    rename_i hs
    simp [hs, SessionState.live]

/-- A part that is up is not asleep (R189). -/
theorem power_of_up {c : Core} (hu : c.up = true) : c.sup.power ≠ .sleep := by
  simp only [Core.up, Bool.and_eq_true, bne_iff_ne] at hu
  exact hu.2

end Sys2Proof.Machine
end

section
/-! PROOFS. The heater goes with the session (R86, R94, R101, R103): the scheduler is OFF outside PREHEAT and CHARGING,
a frame runs only in RUNNING, and every event of the blocks keeps both. -/

namespace Sys2Proof.Machine

/-- The scheduler is OFF in the session states without power and in no other, and no frame runs and no segment is
energized unless it is RUNNING (R86, R94). -/
def Heater.Agrees (x : SessionState) (h : Heater) : Prop :=
  (h.run ≠ .off ↔ x.powered = true)
    ∧ (h.run ≠ .running → h.position = none ∧ h.slots = [] ∧ h.energized = none)

/-- The heater of a part that is not asleep goes with its session. -/
def Core.HeaterAgrees (c : Core) : Prop := c.heater.Agrees c.session.state ∧ c.sup.power ≠ .sleep

/-- What leaves heater, session state and power as they are keeps the agreement. -/
theorem Core.HeaterAgrees.frame {c d : Core} (h : c.HeaterAgrees)
    (hd : d.heater = c.heater ∧ d.session.state = c.session.state ∧ d.sup.power = c.sup.power) :
    d.HeaterAgrees := by
  obtain ⟨hheater, hstate, hpower⟩ := hd
  rwa [Core.HeaterAgrees, hheater, hstate, hpower]

/-- Whichever of two courses an event takes, each keeps the agreement. -/
theorem Core.HeaterAgrees.ite {p : Prop} [Decidable p] {c d : Core} (hc : c.HeaterAgrees) (hd : d.HeaterAgrees) :
    (if p then c else d).HeaterAgrees := by
  split
  · exact hc
  · exact hd

/-- A new heater that agrees with the session takes the place of the old one. -/
theorem Core.HeaterAgrees.withHeater {c d : Core} (h : c.HeaterAgrees) (hheater : d.heater.Agrees c.session.state)
    (hs : d.session = c.session) (hp : d.sup = c.sup) : d.HeaterAgrees := by
  rw [Core.HeaterAgrees, hs, hp]
  exact ⟨hheater, h.2⟩

/-- A part that is not asleep keeps the invariant exactly when its heater agrees. -/
theorem Core.heaterFits_iff {c : Core} (hp : c.sup.power ≠ .sleep) : c.HeaterFits ↔ c.HeaterAgrees := by
  simp [Core.HeaterFits, Core.HeaterAgrees, Heater.Agrees, hp]

/-- A state that keeps no pause causes has no power (R30). -/
theorem SessionState.powered_of_notLive {x : SessionState} (h : x.live = false) : x.powered = false :=
  Bool.eq_false_iff.2 fun hp => by simp [SessionState.live_of_powered hp] at h

/-! ### The scheduler (R86, R91, R93, R97) -/

/-- An OFF scheduler agrees with every state without power (R86). -/
theorem Heater.off_agrees {x : SessionState} (hx : x.powered = false) (h : Heater) : h.off.Agrees x := by
  simp [Heater.Agrees, Heater.off, hx]

/-- The heater of a reset agrees with every state without power (R103). -/
theorem Heater.reset_agrees {x : SessionState} (hx : x.powered = false) : Heater.reset.Agrees x := by
  simp [Heater.Agrees, Heater.reset, hx]

/-- Only the run state counts while a frame runs. -/
theorem Heater.agrees_of_running {x : SessionState} {h : Heater} (hrun : h.run = .running)
    (hx : x.powered = true) : h.Agrees x := by simp [Heater.Agrees, hrun, hx]

/-- A scheduler that is not OFF has a session with power (R86). -/
theorem Heater.Agrees.powered {x : SessionState} {h : Heater} (hag : h.Agrees x) (hrun : h.run ≠ .off) :
    x.powered = true := hag.1.1 hrun

theorem Heater.Agrees.takeBoundary {e : Env} {x : SessionState} {h : Heater} (hag : h.Agrees x) :
    (h.takeBoundary e).Agrees x := by
  by_cases hrun : h.run = .off
  · rwa [Heater.takeBoundary_off hrun]
  · exact Heater.agrees_of_running (Heater.takeBoundary_run hrun) (hag.powered hrun)

/-- What changes neither the run state nor the frame keeps the agreement. -/
theorem Heater.Agrees.frame {x : SessionState} {h g : Heater} (hag : h.Agrees x)
    (hg : g.run = h.run ∧ g.position = h.position ∧ g.slots = h.slots ∧ g.energized = h.energized) :
    g.Agrees x := by
  obtain ⟨hrun, hpos, hslots, hen⟩ := hg
  rwa [Heater.Agrees, hrun, hpos, hslots, hen]

/-- A segment de-energized keeps the agreement (R99). -/
theorem Heater.Agrees.deEnergized {x : SessionState} {h : Heater} (hag : h.Agrees x) :
    ({ h with energized := none } : Heater).Agrees x := by
  refine ⟨hag.1, fun hrun => ?_⟩
  obtain ⟨hpos, hslots, -⟩ := hag.2 hrun
  exact ⟨hpos, hslots, rfl⟩

/-- The end of the running pair turns the scheduler OFF, its entry ARMS it, and within the pair or outside it the frame
goes on as it was (R86, R101). -/
theorem heaterFollow_agrees {e : Env} {old new : SessionState} {c : Core} (hag : c.heater.Agrees old) :
    (heaterFollow e old new c).heater.Agrees new := by
  refine Heater.Agrees.frame (h := (if new.powered && !old.powered then
      c.onHeater fun h => { h with run := .armed }
    else if old.powered && !new.powered then heaterOff c else c).heater) ?_ ⟨rfl, rfl, rfl, rfl⟩
  cases hnew : new.powered <;> cases hold : old.powered
  case false.true => simpa using Heater.off_agrees hnew c.heater
  case true.false =>
    have hoff : c.heater.run = .off :=
      Decidable.byContradiction fun hrun => Bool.false_ne_true (hold.symm.trans (hag.powered hrun))
    exact ⟨by simp [hnew], fun _ => hag.2 (by simp [hoff])⟩
  all_goals
    have hsame : new.powered = old.powered := hnew.trans hold.symm
    have hstays : c.heater.Agrees new := by rwa [Heater.Agrees, hsame]
    simpa using hstays

/-! ### Changes of state, pauses and allocations (R30, R62, R86, R87, R95 to R97) -/

section
variable {e : Env} {c : Core} (h : c.HeaterAgrees)
include h

theorem changeState_heaterAgrees (new : SessionState) : (changeState e new c).HeaterAgrees := by
  refine ⟨?_, by simpa using h.2⟩
  have hfollow : (heaterFollow e c.session.state new
      (post .sessionState (c.onSession (Session.moveTo new)))).heater.Agrees new :=
    heaterFollow_agrees (by simpa using h.1)
  simpa [changeState] using hfollow

theorem settlePause_heaterAgrees : (settlePause e c).HeaterAgrees := by
  unfold settlePause
  split
  case h_1 | h_2 | h_3 => exact .ite (changeState_heaterAgrees h _) h
  all_goals exact h

theorem temperatureMove_heaterAgrees : (temperatureMove e c).HeaterAgrees := by
  unfold temperatureMove
  split
  case h_1 | h_2 => exact .ite (changeState_heaterAgrees h _) h
  all_goals exact h

theorem forcedEdge_heaterAgrees : (forcedEdge c).HeaterAgrees :=
  h.withHeater (by simpa using h.1.deEnergized) (by simp) (by simp)

theorem boundaryDue_heaterAgrees : (boundaryDue e c).HeaterAgrees := by
  cases hw : c.mon.window
  · rw [boundaryDue_closed hw]
    exact h.withHeater h.1.takeBoundary rfl rfl
  · rw [boundaryDue_open hw]
    exact h.withHeater (h.1.frame ⟨rfl, rfl, rfl, rfl⟩) rfl rfl

theorem heaterWindowEnd_heaterAgrees : (heaterWindowEnd e c).HeaterAgrees :=
  .ite (h.withHeater h.1.takeBoundary rfl rfl) h

theorem slotDue_heaterAgrees : (slotDue e c).HeaterAgrees := .ite (boundaryDue_heaterAgrees h) h

/-- A trim cuts the list of a frame that runs (R96). -/
theorem trim_heaterAgrees (hrun : c.heater.run = .running) (v : Nat) : (trim e.cfg v c).HeaterAgrees := by
  have hcut (n : Nat) : (c.onHeater fun h => { h with slots := h.slots.take n }).HeaterAgrees :=
    h.withHeater (Heater.agrees_of_running hrun (h.1.powered (by simp [hrun]))) rfl rfl
  exact .ite h (.ite (hcut _) (forcedEdge_heaterAgrees (hcut _)))

theorem handHeat_heaterAgrees (v : Nat) : (handHeat e v c).HeaterAgrees := by
  have hhanded : (c.onHeater fun h => { h with lastHanded := v }).HeaterAgrees :=
    h.withHeater (h.1.frame ⟨rfl, rfl, rfl, rfl⟩) rfl rfl
  cases hr : c.heater.run with
  | off =>
    rw [handHeat_off hr]
    exact h.withHeater (h.1.frame ⟨rfl, rfl, rfl, rfl⟩) rfl rfl
  | armed =>
    rw [handHeat_armed hr]
    exact boundaryDue_heaterAgrees hhanded
  | running =>
    rcases Nat.lt_or_ge v c.heater.lastHanded with hv | hv
    · rw [handHeat_lower hr hv]
      exact trim_heaterAgrees hhanded hr v
    · rw [handHeat_notLower hr hv]
      exact hhanded

theorem heaterTakeSet_heaterAgrees : (heaterTakeSet e c).HeaterAgrees := by
  have hinhibited : (inhibitZones e c).HeaterAgrees := by
    have hset : (c.onHeater fun h => { h with
        inhibited := e.mfe.zones.map fun z => z.validity != .valid }).HeaterAgrees :=
      h.withHeater (h.1.frame ⟨rfl, rfl, rfl, rfl⟩) rfl rfl
    unfold inhibitZones
    simp only
    split
    · exact .ite (forcedEdge_heaterAgrees hset) hset
    · exact hset
  exact hinhibited.withHeater (hinhibited.1.frame ⟨rfl, rfl, rfl, rfl⟩) rfl rfl

theorem allocate_heaterAgrees (immediate : Bool) : (allocate immediate e c).HeaterAgrees := by
  have hrecord : (reportFall (commandLine c)
      (c.onAlloc fun a => { a with record := nextRecord immediate e c })).HeaterAgrees := h.frame (by simp)
  have hhanded := handHeat_heaterAgrees (e := e) hrecord (nextRecord immediate e c).pHeatAlloc
  exact settlePause_heaterAgrees (hhanded.frame (by simp))

theorem allocationDue_heaterAgrees : (allocationDue e c).HeaterAgrees :=
  .ite (allocate_heaterAgrees (h.frame (by simp)) _) h

theorem closeWindow_heaterAgrees : (closeWindow e c).HeaterAgrees :=
  .ite (heaterWindowEnd_heaterAgrees (h.frame (by simp))) h

theorem leaveMeasuring_heaterAgrees (new : MonitorState) : (leaveMeasuring e new c).HeaterAgrees :=
  closeWindow_heaterAgrees (h.frame (by simp))

end

/-! ### The meter (R137, R138) -/

section
variable {e : Env} {c : Core} (h : c.HeaterAgrees)
include h

theorem roomReport_heaterAgrees : (roomReport e c).HeaterAgrees := by
  unfold roomReport
  split
  · exact h
  · exact .ite h (.ite (h.frame (by simp)) (.ite (settlePause_heaterAgrees (h.frame (by simp))) h))

theorem creditInterval_heaterAgrees (energies : List (LineKey × Nat)) :
    (creditInterval e energies c).HeaterAgrees := by
  unfold creditInterval
  split
  · exact h
  · exact .ite (h.frame (by simp)) (.ite (h.frame (by simp)) (.ite
      (.ite (h.frame (by simp)) (settlePause_heaterAgrees (h.frame (by simp)))) (h.frame (by simp))))

theorem meteringDue_heaterAgrees : (meteringDue e c).HeaterAgrees :=
  .ite (.ite h (creditInterval_heaterAgrees (h.frame (by simp)) _)) h

/-! ### The stop sequence (R32 to R37) -/

theorem monitorOnStopping_heaterAgrees : (monitorOnStopping e c).HeaterAgrees :=
  .ite (leaveMeasuring_heaterAgrees h _) h

theorem monitorOnClosed_heaterAgrees : (monitorOnClosed e c).HeaterAgrees :=
  .ite (leaveMeasuring_heaterAgrees h _) h

theorem enterClosed_heaterAgrees : (enterClosed e c).HeaterAgrees := by
  have hmon : (monitorOnClosed e (authOnClosed ((changeState e .closed c).onSession
      fun s => { s with closePending := true }))).HeaterAgrees :=
    monitorOnClosed_heaterAgrees ((changeState_heaterAgrees (e := e) h .closed).frame (by simp))
  exact hmon.frame (by simp [enterClosed])

theorem confirmOpen_heaterAgrees : (confirmOpen e c).HeaterAgrees :=
  enterClosed_heaterAgrees (h.frame (by simp))

theorem beginOpening_heaterAgrees : (beginOpening c).HeaterAgrees := h.frame (by simp [beginOpening])

theorem openContactor_heaterAgrees : (openContactor e c).HeaterAgrees :=
  .ite (beginOpening_heaterAgrees h) (confirmOpen_heaterAgrees (beginOpening_heaterAgrees h))

theorem startOpening_heaterAgrees (cause : StopCause) : (startOpening e cause c).HeaterAgrees := by
  unfold startOpening
  split
  · exact enterClosed_heaterAgrees h
  · exact beginOpening_heaterAgrees h
  · exact .ite (openContactor_heaterAgrees h) h
  · exact h

/-- The entry to STOPPING turns the scheduler OFF with the change of state; the allocation and the contactor follow
(R34, R86). -/
theorem enterStopping_heaterAgrees (cause : StopCause) : (enterStopping e cause c).HeaterAgrees := by
  have hstate : (changeState e .stopping (copyFaults
      (c.onSession fun s => { s with endReason := some cause }))).HeaterAgrees :=
    changeState_heaterAgrees (h.frame (by simp)) _
  have hauth : (authOnStopping ((changeState e .stopping (copyFaults
      (c.onSession fun s => { s with endReason := some cause }))).onSession
        fun s => { s with pauseCauses := 0 })).HeaterAgrees := hstate.frame (by simp)
  exact startOpening_heaterAgrees (allocate_heaterAgrees (monitorOnStopping_heaterAgrees hauth) true) cause

theorem stopCause_heaterAgrees (cause : StopCause) : (stopCause e cause c).HeaterAgrees := by
  have hadd : (addFault cause c).HeaterAgrees := h.frame (by simp)
  unfold stopCause
  split
  case h_1 | h_2 | h_3 | h_4 => exact enterStopping_heaterAgrees h cause
  case h_5 => exact .ite (openContactor_heaterAgrees hadd) hadd
  case h_6 | h_7 | h_8 => exact h

theorem converterFault_heaterAgrees : (converterFault e c).HeaterAgrees :=
  stopCause_heaterAgrees (h.frame (by simp)) _

/-! ### Contactor, authorization and start (R24 to R28, R48 to R54) -/

theorem confirmClose_heaterAgrees : (confirmClose e c).HeaterAgrees :=
  changeState_heaterAgrees (h.frame (by simp)) _

theorem auxChanged_heaterAgrees (now : Bool) : (auxChanged e now c).HeaterAgrees := by
  unfold auxChanged
  split
  · exact .ite (confirmClose_heaterAgrees h) h
  · exact .ite h (stopCause_heaterAgrees h _)
  · exact .ite h (confirmOpen_heaterAgrees h)
  · exact h

theorem energizeIfReady_heaterAgrees : (energizeIfReady e c).HeaterAgrees :=
  .ite (.ite (stopCause_heaterAgrees (h.frame (by simp)) _) (h.frame (by simp))) h

theorem reportGrant_heaterAgrees : (reportGrant e c).HeaterAgrees :=
  .ite (energizeIfReady_heaterAgrees (h.frame (by simp))) h

theorem reportTestPassed_heaterAgrees : (reportTestPassed e c).HeaterAgrees :=
  .ite (energizeIfReady_heaterAgrees (h.frame (by simp))) h

theorem reportTestFailed_heaterAgrees : (reportTestFailed e c).HeaterAgrees :=
  stopCause_heaterAgrees (h.frame (by simp)) _

theorem grant_heaterAgrees (st : AuthState) (mode : AuthMode) : (grant e st mode c).HeaterAgrees :=
  reportGrant_heaterAgrees (h.frame (by simp))

theorem refuse_heaterAgrees (cause : StopCause) : (refuse e cause c).HeaterAgrees :=
  stopCause_heaterAgrees (h.frame (by simp)) _

theorem offlineDecision_heaterAgrees : (offlineDecision e c).HeaterAgrees := by
  unfold offlineDecision
  split
  · exact refuse_heaterAgrees h _
  · exact .ite (grant_heaterAgrees (h.frame (by simp)) _ _) (refuse_heaterAgrees (h.frame (by simp)) _)

theorem decideAtEntry_heaterAgrees : (decideAtEntry e c).HeaterAgrees :=
  .ite (grant_heaterAgrees h _ _) (.ite (offlineDecision_heaterAgrees h) (h.frame (by simp)))

theorem takeVerdict_heaterAgrees (number : Half) (echo : Tag) (verdict : Byte) :
    (takeVerdict e number echo verdict c).HeaterAgrees := by
  refine .ite ?_ h
  split
  · exact .ite (grant_heaterAgrees (h.frame (by simp)) _ _) (refuse_heaterAgrees h _)
  · exact .ite (h.frame (by simp)) (refuse_heaterAgrees h _)
  all_goals exact h

theorem evaluateStart_heaterAgrees : (evaluateStart e c).HeaterAgrees := by
  have hbegun : (c.onSession Session.begin).HeaterAgrees := h.frame ⟨rfl, rfl, rfl⟩
  have hentry : (changeState e .authorizing (c.onSession Session.begin)).HeaterAgrees :=
    changeState_heaterAgrees hbegun _
  exact .ite (decideAtEntry_heaterAgrees (hentry.frame (by simp))) h

theorem enterIdle_heaterAgrees : (enterIdle e c).HeaterAgrees :=
  (changeState_heaterAgrees (e := e) h .idle).frame (by simp [enterIdle])

theorem attach_heaterAgrees : (attach e c).HeaterAgrees :=
  evaluateStart_heaterAgrees ((changeState_heaterAgrees (e := e) h .attached).frame (by simp))

theorem leaveClosed_heaterAgrees : (leaveClosed e c).HeaterAgrees :=
  .ite (.ite (enterIdle_heaterAgrees h)
    (.ite (evaluateStart_heaterAgrees (changeState_heaterAgrees h _)) h)) h

theorem conclude_heaterAgrees : (conclude e c).HeaterAgrees :=
  leaveClosed_heaterAgrees (evaluateStart_heaterAgrees h)

/-! ### Sets, inputs and requests at the session (R1, R16 to R18, R21, R41, R190) -/

theorem sessionTakeSet_heaterAgrees (stopping : Bool) : (sessionTakeSet stopping e c).HeaterAgrees := by
  unfold sessionTakeSet
  split
  case h_1 => exact .ite (attach_heaterAgrees h) h
  case h_2 => exact .ite (enterIdle_heaterAgrees h) (evaluateStart_heaterAgrees h)
  case h_3 | h_4 | h_5 | h_6 =>
    exact .ite (stopCause_heaterAgrees h _)
      (temperatureMove_heaterAgrees (settlePause_heaterAgrees (h.frame (by simp))))
  case h_7 => exact .ite (stopCause_heaterAgrees h _) (.ite (openContactor_heaterAgrees h) h)
  case h_8 => exact h

theorem takeSupply_heaterAgrees : (takeSupply e c).HeaterAgrees := by
  unfold takeSupply
  split
  · exact h
  · exact .ite (.ite (h.frame (by simp)) h) (.ite (stopCause_heaterAgrees (h.frame (by simp)) _) h)

theorem deliverSet_heaterAgrees (stopping : Bool) : (deliverSet stopping e c).HeaterAgrees :=
  takeSupply_heaterAgrees (heaterTakeSet_heaterAgrees (.ite (sessionTakeSet_heaterAgrees h _) h))

theorem reviewAux_heaterAgrees (was : Bool) : (reviewAux was e c).HeaterAgrees :=
  .ite h (auxChanged_heaterAgrees h _)

theorem windowFault_heaterAgrees : (windowFault e c).HeaterAgrees := .ite (converterFault_heaterAgrees h) h

theorem windowDeliveries_heaterAgrees (wasAux : Bool) (faults : Byte) (first : Bool) :
    (windowDeliveries wasAux faults first e c).HeaterAgrees := by
  have haux : (reviewAux wasAux e (postSensorFault faults c)).HeaterAgrees :=
    reviewAux_heaterAgrees (h.frame (by simp)) _
  exact conclude_heaterAgrees (.ite (deliverSet_heaterAgrees (windowFault_heaterAgrees haux) _)
    (windowFault_heaterAgrees (deliverSet_heaterAgrees haux _)))

theorem deliverOffer_heaterAgrees (before : Nat) (valid : Bool) :
    (deliverOffer before valid e c).HeaterAgrees := by
  have hfall : (if 0 < before ∧ e.mfe.offer = 0 then allocate true e c else c).HeaterAgrees :=
    .ite (allocate_heaterAgrees h true) h
  exact .ite h (conclude_heaterAgrees (settlePause_heaterAgrees (hfall.frame (by simp))))

theorem inputChanged_heaterAgrees (d : DigitalInput) (wasAux event : Bool) :
    (inputChanged d wasAux event e c).HeaterAgrees := by
  unfold inputChanged
  split
  · exact conclude_heaterAgrees (reviewAux_heaterAgrees h _)
  · exact .ite (conclude_heaterAgrees (converterFault_heaterAgrees h)) h
  · exact h

theorem reviewRequest_heaterAgrees : (reviewRequest e c).HeaterAgrees :=
  .ite (temperatureMove_heaterAgrees (settlePause_heaterAgrees (h.frame (by simp)))) h

theorem takeRelease_heaterAgrees : (takeRelease e c).HeaterAgrees := by
  unfold takeRelease
  split
  case h_1 | h_2 | h_3 | h_4 => exact stopCause_heaterAgrees h _
  case h_5 => exact stopCause_heaterAgrees (h.frame (by simp)) _
  all_goals exact h

theorem takeRequest_heaterAgrees (r : ChargeRequest) : (takeRequest e r c).HeaterAgrees := by
  have hreq : (c.onSession fun s => { s with request := some r, requestTimer := some 1000 }).HeaterAgrees :=
    h.frame (by simp)
  exact .ite (takeRelease_heaterAgrees hreq) (reviewRequest_heaterAgrees hreq)

theorem releaseReset_heaterAgrees : (releaseReset e c).HeaterAgrees := by
  unfold releaseReset
  split
  case h_1 | h_2 | h_3 => exact h.frame (by simp)
  all_goals exact stopCause_heaterAgrees (h.frame (by simp)) _

/-! ### Timers of the session (R22, R27, R31, R35, R36, R53) -/

theorem closeTimeout_heaterAgrees : (closeTimeout e c).HeaterAgrees :=
  .ite (conclude_heaterAgrees (stopCause_heaterAgrees (h.frame (by simp)) _)) h

theorem openTimeout_heaterAgrees : (openTimeout e c).HeaterAgrees :=
  .ite (conclude_heaterAgrees
    (.ite (confirmOpen_heaterAgrees (h.frame (by simp))) (confirmOpen_heaterAgrees h))) h

theorem waitTimeout_heaterAgrees : (waitTimeout e c).HeaterAgrees :=
  .ite (conclude_heaterAgrees (openContactor_heaterAgrees h)) h

theorem pauseTimeout_heaterAgrees : (pauseTimeout e c).HeaterAgrees :=
  .ite (conclude_heaterAgrees (stopCause_heaterAgrees h _)) h

theorem requestTimeout_heaterAgrees : (requestTimeout e c).HeaterAgrees :=
  .ite (conclude_heaterAgrees (reviewRequest_heaterAgrees (h.frame (by simp)))) h

theorem authTimeout_heaterAgrees : (authTimeout e c).HeaterAgrees :=
  .ite (.ite (conclude_heaterAgrees (offlineDecision_heaterAgrees (h.frame (by simp)))) h) h

/-! ### The insulation monitor (R108 to R117) -/

/-- The end of STARTING is the start of ACTIVE (R185). -/
theorem endStarting_heaterAgrees (outcome : TestOutcome) : (endStarting outcome c).HeaterAgrees :=
  ⟨h.1, nofun⟩

theorem failTest_heaterAgrees : (failTest e c).HeaterAgrees := by
  have hfail : (reportTestFailed e (leaveMeasuring e .inoperative c)).HeaterAgrees :=
    reportTestFailed_heaterAgrees (leaveMeasuring_heaterAgrees h _)
  exact .ite (endStarting_heaterAgrees hfail _) hfail

theorem passTest_heaterAgrees : (passTest e c).HeaterAgrees :=
  .ite (endStarting_heaterAgrees (leaveMeasuring_heaterAgrees h .off) _)
    (reportTestPassed_heaterAgrees ((leaveMeasuring_heaterAgrees (e := e) h .monitoring).frame (by simp)))

theorem judgeTest_heaterAgrees (r : RIso) : (judgeTest e r c).HeaterAgrees :=
  .ite (.ite (passTest_heaterAgrees (h.frame (by simp))) h) (failTest_heaterAgrees h)

/-- At the change to FAULT the heater goes OFF in a session that the cause has stopped (R101, R114). -/
theorem enterFault_heaterAgrees : (enterFault e c).HeaterAgrees := by
  have hreported : (reportFall (commandLine c) (post .insulationFault
      (c.onMon fun m => { m with result := .fault, faultResult := m.last }))).HeaterAgrees :=
    h.frame (by simp)
  have hstopped := stopCause_heaterAgrees (e := e) hreported .insulationFault
  have hlive := stopCause_notLive e .insulationFault (reportFall (commandLine c) (post .insulationFault
      (c.onMon fun m => { m with result := .fault, faultResult := m.last })))
  have halloc := allocate_heaterAgrees (e := e) hstopped true
  refine halloc.withHeater ?_ (by simp [enterFault]) (by simp [enterFault])
  rw [allocate_session_notLive hlive, enterFault, heaterOff_heater]
  exact Heater.off_agrees (SessionState.powered_of_notLive hlive) _

theorem setResult_heaterAgrees (new : ResultState) : (setResult e new c).HeaterAgrees := by
  refine .ite h ?_
  split
  case h_1 => exact enterFault_heaterAgrees h
  all_goals exact h.frame (by simp)

theorem judgeBus_heaterAgrees (r : RIso) : (judgeBus e r c).HeaterAgrees := by
  unfold judgeBus
  split
  · exact h
  · exact setResult_heaterAgrees (h.frame (by simp)) _

theorem endWithoutResult_heaterAgrees : (endWithoutResult e c).HeaterAgrees := by
  refine .ite h ?_
  split
  · exact failTest_heaterAgrees h
  all_goals exact reportTestFailed_heaterAgrees (leaveMeasuring_heaterAgrees h _)

theorem discardHalf_heaterAgrees : (discardHalf e c).HeaterAgrees :=
  .ite h (endWithoutResult_heaterAgrees (h.frame (by simp)))

theorem takeResult_heaterAgrees (r : RIso) : (takeResult e r c).HeaterAgrees := by
  unfold takeResult
  split
  · exact judgeTest_heaterAgrees (h.frame (by simp)) _
  all_goals exact judgeBus_heaterAgrees (h.frame (by simp)) _

theorem acceptHalf_heaterAgrees : (acceptHalf e c).HeaterAgrees := by
  unfold acceptHalf
  simp only
  split
  · exact h
  · exact h
  · exact takeResult_heaterAgrees (h.frame (by simp)) _

theorem decideHalf_heaterAgrees : (decideHalf e c).HeaterAgrees :=
  .ite (discardHalf_heaterAgrees h) ((acceptHalf_heaterAgrees (e := e) h).frame (by simp))

theorem halfPeriodEnd_heaterAgrees (samples : List Int) : (halfPeriodEnd samples e c).HeaterAgrees :=
  .ite (conclude_heaterAgrees (closeWindow_heaterAgrees (decideHalf_heaterAgrees (h.frame (by simp))))) h

/-! ### Messages of the post (R156 to R158) -/

theorem deliverVerdict_heaterAgrees (number : Half) (echo : Tag) (verdict : Byte) :
    (deliverVerdict number echo verdict e c).HeaterAgrees :=
  conclude_heaterAgrees (takeVerdict_heaterAgrees h ..)

theorem deliverStop_heaterAgrees : (deliverStop e c).HeaterAgrees :=
  conclude_heaterAgrees (stopCause_heaterAgrees h _)

theorem deliver_heaterAgrees (k : PostKind) (content : List Byte) : (deliver k content e c).HeaterAgrees :=
  deliver_keeps h (fun _ => h.frame (by simp)) (fun _ _ _ => deliverVerdict_heaterAgrees h ..)
    (fun _ _ _ _ _ => h.frame (by simp)) (fun _ _ => h.frame (by simp)) (deliverStop_heaterAgrees h) k content

theorem takeSegment_heaterAgrees (k : PostKind) (segByte : Byte) (bytes : List Byte) :
    (takeSegment k segByte bytes e c).HeaterAgrees := by
  unfold takeSegment
  simp only
  split
  · exact .ite (deliver_heaterAgrees (h.frame (by simp)) _ _) (h.frame (by simp))
  · exact h.frame (by simp)

theorem receiveFrame_heaterAgrees (f : CanFrame) : (receiveFrame f e c).HeaterAgrees := by
  refine .ite ?_ h
  split
  · exact takeSegment_heaterAgrees h ..
  · exact h

end

/-! ### Every event, every move, every step -/

theorem BlockEvent.heaterAgrees {f : Env → Core → Core} (hf : BlockEvent f) {e : Env} {c : Core}
    (h : c.HeaterAgrees) : (f e c).HeaterAgrees := by
  cases hf with
  | window => exact windowDeliveries_heaterAgrees h ..
  | offer => exact deliverOffer_heaterAgrees h ..
  | input => exact inputChanged_heaterAgrees h ..
  | closeTimeout => exact closeTimeout_heaterAgrees h
  | openTimeout => exact openTimeout_heaterAgrees h
  | waitTimeout => exact waitTimeout_heaterAgrees h
  | pauseTimeout => exact pauseTimeout_heaterAgrees h
  | requestTimeout => exact requestTimeout_heaterAgrees h
  | authTimeout => exact authTimeout_heaterAgrees h
  | allocation => exact allocationDue_heaterAgrees h
  | slot => exact slotDue_heaterAgrees h
  | halfPeriod => exact halfPeriodEnd_heaterAgrees h _
  | metering => exact meteringDue_heaterAgrees h
  | frame => exact receiveFrame_heaterAgrees h _
  | verdict => exact deliverVerdict_heaterAgrees (h.frame (by simp)) ..
  | stopMessage => exact deliverStop_heaterAgrees (h.frame (by simp))
  | chargeRequest r => exact conclude_heaterAgrees (takeRequest_heaterAgrees h r)
  | stopRequest => exact conclude_heaterAgrees (stopCause_heaterAgrees h _)
  | config => exact conclude_heaterAgrees h
  | resetRelease => exact conclude_heaterAgrees (releaseReset_heaterAgrees h)
  | clearLatches => exact conclude_heaterAgrees (h.frame ⟨rfl, rfl, rfl⟩)
  | driverTag | clearFault => exact conclude_heaterAgrees (h.frame (by simp))
  | draw => exact h
  | quietOpen | powerLimit | tariff | time | aliveTimeout | postLimitTimeout | status | messageTimeout
  | attemptStart | attemptEnd | sleepRefused => exact h.frame (by simp)

/-- In IDLE a report of room leaves the heater and the session state: no pause is kept there (R30, R149). -/
theorem roomReport_idle {e : Env} {c : Core} (hs : c.session.state = .idle) :
    (roomReport e c).heater = c.heater ∧ (roomReport e c).session.state = .idle := by
  unfold roomReport
  split
  · exact ⟨rfl, hs⟩
  · split
    · exact ⟨rfl, hs⟩
    · split
      · exact ⟨by simp, by simpa using hs⟩
      · split
        · rw [settlePause_stays (by simp [hs, SessionState.powered]) (by simp [hs])]
          exact ⟨by simp, by simpa using hs⟩
        · exact ⟨rfl, hs⟩

/-- What changes neither heater nor session state keeps the invariant, unless it puts the part to sleep. -/
theorem Core.HeaterFits.frame {c d : Core} (h : c.HeaterFits)
    (hd : d.heater = c.heater ∧ d.session.state = c.session.state ∧ d.sup.power = c.sup.power) :
    d.HeaterFits := by
  obtain ⟨hheater, hstate, hpower⟩ := hd
  rwa [Core.HeaterFits, hheater, hstate, hpower]

theorem AlwaysEvent.heaterFits {f : Env → Core → Core} (hf : AlwaysEvent f) {e : Env} {c : Core}
    (h : c.HeaterFits) : (f e c).HeaterFits := by
  cases hf with
  | release =>
    by_cases hp : c.sup.power = .sleep
    · have hidle : c.session.state = .idle := h.2.2 hp
      obtain ⟨hheater, hstate⟩ := roomReport_idle (e := e) (c := c.onQueue ExportQueue.release) hidle
      have hends : conclude e (roomReport e (c.onQueue ExportQueue.release))
          = roomReport e (c.onQueue ExportQueue.release) :=
        conclude_other (by simp [hstate]) (by simp [hstate])
      show (conclude e (roomReport e (c.onQueue ExportQueue.release))).HeaterFits
      rw [hends]
      exact h.frame ⟨hheater, hstate.trans hidle.symm, by simp⟩
    · have hagrees : c.HeaterAgrees := (Core.heaterFits_iff hp).1 h
      have hafter := conclude_heaterAgrees (e := e) (roomReport_heaterAgrees (e := e)
        (hagrees.frame (d := c.onQueue ExportQueue.release) (by simp)))
      exact (Core.heaterFits_iff hafter.2).2 hafter
  | supplyReset =>
    have hcut : (cutStop c).HeaterFits := by
      unfold cutStop
      split
      · exact h.frame (by simp)
      · exact h
    exact hcut.frame (by simp)
  | loseRetention => exact h.frame ⟨rfl, rfl, rfl⟩
  | notices | setTime | spendCap | allowList | tick | resetPin => exact h.frame (by simp)

/-- The heater of a reset keeps the invariant in an IDLE session, asleep or not (R103, R188). -/
theorem Core.heaterFits_of_reset {c : Core} (hh : c.heater = Heater.reset)
    (hs : c.session.state = .idle) : c.HeaterFits := by
  obtain ⟨hrun, hframe⟩ : c.heater.Agrees c.session.state := by
    rw [hh, hs]
    exact Heater.reset_agrees rfl
  exact ⟨hrun, hframe, fun _ => hs⟩

/-- Every move keeps the invariant; SLEEP, a wake and a reset leave a scheduler that is OFF in an IDLE session
(R103, R188). -/
theorem Core.Move.heaterFits {c d : Core} (hm : Core.Move c d) (h : c.HeaterFits) : d.HeaterFits := by
  cases hm with
  | block e hf hu =>
    have hafter := hf.heaterAgrees (e := e) ((Core.heaterFits_iff (power_of_up hu)).1 h)
    exact (Core.heaterFits_iff hafter.2).2 hafter
  | always _ _ hf => exact hf.heaterFits h
  | sleep _ hs => exact Core.heaterFits_of_reset rfl hs
  | wake sources hp => exact Core.heaterFits_of_reset (by simp [Core.awake]) (by simpa [Core.awake] using h.2.2 hp)
  | cold => exact Core.heaterFits_of_reset rfl rfl
  | leaveReset _ e kind => exact Core.heaterFits_of_reset (by simp [Core.retained]; rfl) (by simp; rfl)

/-- Settles O59: every step moves the blocks by events, and each keeps the heater with the session. -/
theorem stepsKeepTheHeaterWithTheSession : Obligations.StepsKeepTheHeaterWithTheSession :=
  fun _ _ h hstep => (step_moves hstep).keeps (P := Core.HeaterFits) (fun _ _ hm hc => hm.heaterFits hc) h

end Sys2Proof.Machine
end

section
/-! PROOFS. The slots of a frame (R90 to R99): what a boundary and a value handed to the heater do. -/

namespace Sys2Proof.Machine

/-! ### The beginning of a slot (R93) -/

/-- Past the end of the list no segment is energized (R93). -/
theorem Heater.beginSlot_noEntry {cfg : ConfigRecord} {p : Nat} {h : Heater} (hk : h.slots[p]? = none) :
    h.beginSlot cfg p = { h with energized := none } := by
  simp only [Heater.beginSlot, hk]

/-- The slot of an INHIBITED zone is left empty (R93). -/
theorem Heater.beginSlot_inhibited {cfg : ConfigRecord} {p : Nat} {h : Heater} {k : ZoneIx}
    (hk : h.slots[p]? = some k) (hi : h.inhibited.get k = true) :
    h.beginSlot cfg p = { h with energized := none } := by
  simp only [Heater.beginSlot, hk, hi, if_true]

/-- Within the bound the zone's segment is energized (R93). -/
theorem Heater.beginSlot_energizes {cfg : ConfigRecord} {p : Nat} {h : Heater} {k : ZoneIx}
    (hk : h.slots[p]? = some k) (hi : ¬ h.inhibited.get k = true)
    (hb : h.started + 1 ≤ slotBound cfg h.lastHanded) :
    h.beginSlot cfg p = { h with started := h.started + 1, energized := some k } := by
  simp only [Heater.beginSlot, hk, if_neg hi, if_pos hb]

/-- Beyond the bound the rest of the list is cut (R93). -/
theorem Heater.beginSlot_cuts {cfg : ConfigRecord} {p : Nat} {h : Heater} {k : ZoneIx}
    (hk : h.slots[p]? = some k) (hi : ¬ h.inhibited.get k = true)
    (hb : ¬ h.started + 1 ≤ slotBound cfg h.lastHanded) :
    h.beginSlot cfg p = { h with slots := h.slots.take p, energized := none } := by
  simp only [Heater.beginSlot, hk, if_neg hi, if_neg hb]

/-! ### The start of a frame (R91) -/

/-- A list of no more than `n` entries (R92). -/
theorem buildSlots_length_le (zones : Quad Zone) (d : Quad Nat) (n : Nat) :
    (buildSlots zones d n).length ≤ n := List.length_take_le ..

/-- The heater with the list of a new frame, before slot 0 begins (R91). -/
def Heater.listed (e : Env) (h : Heater) : Heater :=
  { h.atSlot 0 with
    run := .running
    held := h.lastHanded
    slots := buildSlots e.mfe.zones h.d (min h.demand (slotBound e.cfg h.lastHanded))
    frameS := min h.demand (slotBound e.cfg h.lastHanded)
    started := 0 }

/-- A frame starts with its first slot: an entry there is within the bound, as the list is no longer (R91, R93). -/
theorem Heater.startFrame_eq (e : Env) (h : Heater) : h.startFrame e = frameStarted e h := by
  have hlen : (h.listed e).slots.length ≤ min h.demand (slotBound e.cfg h.lastHanded) :=
    buildSlots_length_le ..
  have hstarted : frameStarted e h =
      { h.listed e with
        started := if ((h.listed e).slots.head?.filter fun k => !h.inhibited.get k).isSome then 1 else 0
        energized := (h.listed e).slots.head?.filter fun k => !h.inhibited.get k } := rfl
  rw [hstarted, show h.startFrame e = (h.listed e).beginSlot e.cfg 0 from rfl]
  cases hs : (h.listed e).slots with
  | nil =>
    rw [Heater.beginSlot_noEntry (by simp [hs])]
    rfl
  | cons k rest =>
    have hk : (h.listed e).slots[0]? = some k := by simp [hs]
    rw [hs, List.length_cons] at hlen
    by_cases hi : h.inhibited.get k = true
    · rw [Heater.beginSlot_inhibited hk hi]
      simp [hi, Heater.listed, Option.filter]
    · have hb : (h.listed e).started + 1 ≤ slotBound e.cfg (h.listed e).lastHanded := by
        show 0 + 1 ≤ slotBound e.cfg h.lastHanded
        omega
      rw [Heater.beginSlot_energizes hk hi hb]
      simp [hi, Heater.listed, Option.filter]

/-! ### The slot timer (R90, R97) -/

/-- The slot timer of a running frame brings a boundary (R90). -/
theorem slotTimer_done {s : State} (hu : s.core.up = true) (hr : s.core.heater.run = .running)
    (ht : s.core.heater.slotTimer.isSome = true) :
    exec .slotTimerExpiry s = .next (afterBlocks s (boundaryDue s.env s.core)) := by
  have hdue : slotDue s.env s.core = boundaryDue s.env s.core := if_pos ⟨hr, ht⟩
  rw [show exec .slotTimerExpiry s = (s.event slotDue).done from rfl, State.event_done _ hu, hdue]

/-! ### An allocation in the running pair (R62, R69, R82) -/

/-- A cause that a set without members does not hold is not taken out of it (R30). -/
theorem setPause_none {c : Core} (p : PauseCause) (h : c.session.pauseCauses = 0) : setPause p false c = c := by
  unfold setPause
  split
  · have hsame : putBit c.session.pauseCauses p.code false = c.session.pauseCauses := by simp [h, putBit]
    show { c with session := { c.session with pauseCauses := putBit c.session.pauseCauses p.code false } } = c
    rw [hsame]
  · rfl

theorem nextRecord_powered {immediate : Bool} {e : Env} {c : Core} (h : c.session.state.powered = true) :
    nextRecord immediate e c = fullRecord immediate e c := by
  unfold nextRecord
  cases hs : c.session.state <;> simp_all [SessionState.powered]

/-- An allocation that leaves power at the inlet ends with the value handed to the heater: the report of the limit
finds no pause cause (R69, R82). -/
theorem allocate_limitStands {immediate : Bool} {e : Env} {c : Core} (hp : c.session.state.powered = true)
    (h0 : c.session.pauseCauses = 0) (hlim : 0 < (fullRecord immediate e c).pInLim) :
    allocate immediate e c =
      handHeat e (fullRecord immediate e c).pHeatAlloc (reportFall (commandLine c)
        (c.onAlloc fun a => { a with record := fullRecord immediate e c })) := by
  have hzero : ((fullRecord immediate e c).pInLim == 0) = false := beq_eq_false_iff_ne.2 (by omega)
  simp only [allocate, nextRecord_powered hp, reportLimit]
  rw [show (handHeat e (fullRecord immediate e c).pHeatAlloc (reportFall (commandLine c)
      (c.onAlloc fun a => { a with record := fullRecord immediate e c }))).alloc.record
        = fullRecord immediate e c by simp, hzero, setPause_none _ (by simpa using h0)]
  exact settlePause_stays (fun _ => by simpa using h0) (fun hpaused => by
    rw [show c.session.state = .paused by simpa using hpaused] at hp
    simp [SessionState.powered] at hp)

/-- The report of a fall neither opens nor ends the quiet window (R83). -/
@[simp] theorem reportFall_window (before : Nat) (c : Core) :
    (reportFall before c).mon.window = c.mon.window :=
  (congrArg Monitor.window (reportFall_unmarked before c) :)

/-- The allocation timer in the running pair hands the heater its value, the heater and the quiet window being as they
were (R62, R82). -/
theorem allocationTimer_hands {s : State} (hu : s.core.up = true) (ht : s.core.alloc.timer.isSome = true)
    (hp : s.core.session.state.powered = true) (h0 : s.core.session.pauseCauses = 0)
    (hlim : 0 < (fullRecord false s.env s.core).pInLim) :
    ∃ d : Core, d.heater = s.core.heater ∧ d.mon.window = s.core.mon.window ∧
      exec .allocationTimerExpiry s = .next (afterBlocks s
        (handHeat s.env (fullRecord false s.env s.core).pHeatAlloc d)) := by
  have hdue : allocationDue s.env s.core =
      allocate false s.env (s.core.onAlloc fun a => { a with timer := some 100 }) := if_pos ht
  rw [show exec .allocationTimerExpiry s = (s.event allocationDue).done from rfl, State.event_done _ hu, hdue,
    allocate_limitStands (c := s.core.onAlloc fun a => { a with timer := some 100 }) hp h0 hlim]
  exact ⟨_, by simp, by simp, rfl⟩

/-! ### What a handed value does to the frame (R91, R95 to R97, R99) -/

section
variable {e : Env} {v : Nat} {c : Core}

/-- The first value handed in ARMED starts a frame (R91, R95). -/
theorem handHeat_startsFrame (hr : c.heater.run = .armed) (hw : c.mon.window = false) :
    (handHeat e v c).heater = frameStarted e { c.heater with lastHanded := v } := by
  rw [handHeat_armed hr, boundaryDue_closed (by simpa using hw), ← Heater.startFrame_eq]
  exact Heater.takeBoundary_armed hr

/-- In an open quiet window the first frame waits (R97). -/
theorem handHeat_defersFrame (hr : c.heater.run = .armed) (hw : c.mon.window = true) :
    (handHeat e v c).heater = { c.heater with lastHanded := v, deferred := true, slotTimer := none } := by
  rw [handHeat_armed hr, boundaryDue_open (by simpa using hw)]
  rfl

section
variable {p : Nat} (hr : c.heater.run = .running) (hp : c.heater.position = some p)
include hr hp

/-- A value that is not lower, or that covers the rest of the list, leaves the frame (R95, R96). -/
theorem handHeat_keepsFrame (h : c.heater.lastHanded ≤ v
      ∨ c.heater.started + (c.heater.slots.length - (p + 1)) ≤ slotBound e.cfg v) :
    (handHeat e v c).heater = { c.heater with lastHanded := v } := by
  rcases Nat.lt_or_ge v c.heater.lastHanded with hv | hv
  · have hfits := h.resolve_left (Nat.not_le.2 hv)
    rw [handHeat_lower hr hv, trim_fits (c := c.onHeater fun h => { h with lastHanded := v }) hp hfits]
    rfl
  · rw [handHeat_notLower hr hv]
    rfl

/-- A lower value trims the list from its end (R96). -/
theorem handHeat_cutsEnd (hv : v < c.heater.lastHanded) (hs : c.heater.started ≤ slotBound e.cfg v)
    (hb : slotBound e.cfg v < c.heater.started + (c.heater.slots.length - (p + 1))) :
    (handHeat e v c).heater =
      { c.heater with
        lastHanded := v
        slots := c.heater.slots.take (p + 1 + (slotBound e.cfg v - c.heater.started)) } := by
  rw [handHeat_lower hr hv, trim_cuts (c := c.onHeater fun h => { h with lastHanded := v }) hp hs hb]
  rfl

/-- A value below the slots started cuts the rest of the frame and the running segment, by an edge that marks an open
quiet window (R96, R99, R109). -/
theorem handHeat_cutsFrame (hv : v < c.heater.lastHanded) (hs : slotBound e.cfg v < c.heater.started) :
    (handHeat e v c).heater =
        { c.heater with lastHanded := v, slots := c.heater.slots.take (p + 1), energized := none }
      ∧ (c.heater.energized.isSome = true → c.mon.window = true → (handHeat e v c).mon.mark = true) := by
  rw [handHeat_lower hr hv, trim_cutsRunning (c := c.onHeater fun h => { h with lastHanded := v }) hp hs]
  exact ⟨forcedEdge_heater _, fun hen hw => forcedEdge_mark hen hw⟩

end

end

/-- Settles O41: the slot timer by where the frame stands, the value handed by the run state and the bound it gives. -/
theorem slotBoundariesAreTakenOrDeferred : Obligations.SlotBoundariesAreTakenOrDeferred := by
  intro p s hu
  refine ⟨fun hr ht hpos => ?slotTimer, fun v ht hp h0 hlim hv => ?handed⟩
  case slotTimer =>
    rw [slotTimer_done hu hr ht]
    refine ⟨fun hw => ?deferred, fun hw hlast => ?newFrame, fun hw hlt => ?nextSlot⟩
    case deferred => rw [boundaryDue_open hw]; rfl
    case newFrame =>
      subst hlast
      rw [boundaryDue_closed hw, Core.onHeater, Heater.takeBoundary_last hr hpos, Heater.startFrame_eq]
    case nextSlot =>
      rw [boundaryDue_closed hw, Core.onHeater, Heater.takeBoundary_next hr hpos hlt]
      split
      next hk => rw [Heater.beginSlot_noEntry (h := s.core.heater.atSlot (p + 1)) hk]; rfl
      next k hk =>
        split
        next hi => rw [Heater.beginSlot_inhibited (h := s.core.heater.atSlot (p + 1)) hk hi]; rfl
        next hi =>
          split
          next hb => rw [Heater.beginSlot_energizes (h := s.core.heater.atSlot (p + 1)) hk hi hb]; rfl
          next hb => rw [Heater.beginSlot_cuts (h := s.core.heater.atSlot (p + 1)) hk hi hb]; rfl
  case handed =>
    obtain ⟨d, hheater, hwindow, hexec⟩ := allocationTimer_hands hu ht hp h0 hlim
    rw [← hv] at hexec
    rw [← hwindow, ← hheater]
    refine ⟨fun hr hw => ⟨_, hexec, handHeat_startsFrame hr hw⟩,
      fun hr hw => ⟨_, hexec, handHeat_defersFrame hr hw⟩, fun bound hr hpos hbound => ?running⟩
    subst hbound
    exact ⟨fun hkeeps => ⟨_, hexec, handHeat_keepsFrame hr hpos hkeeps⟩, fun hlt =>
      ⟨fun hs hb => ⟨_, hexec, handHeat_cutsEnd hr hpos hlt hs hb⟩,
        fun hs => ⟨_, hexec, handHeat_cutsFrame hr hpos hlt hs⟩⟩⟩

end Sys2Proof.Machine
end

section
/-! PROOFS. The slot list (R88, R92): the order of the zones, the rounds of the list, and the list that a frame
follows. -/

namespace Sys2Proof.Machine

/-! ### The order of the zones (R92) -/

/-- The zone comes first in a round: a lower value, or an equal one and the lower index (R92). -/
def ZoneIx.Before (value : ZoneIx → Int) (k j : ZoneIx) : Prop :=
  value k < value j ∨ (value k = value j ∧ k.code ≤ j.code)

/-- An insertion keeps the zones of the list and adds its own. -/
theorem insertZone_perm (value : ZoneIx → Int) (k : ZoneIx) (l : List ZoneIx) :
    (insertZone value k l).Perm (k :: l) := by
  induction l with
  | nil => exact .refl _
  | cons j rest ih =>
    unfold insertZone
    split
    · exact .refl _
    · exact (ih.cons j).trans (.swap k j rest)

theorem mem_insertZone {value : ZoneIx → Int} {k x : ZoneIx} {l : List ZoneIx} :
    x ∈ insertZone value k l ↔ x = k ∨ x ∈ l := by
  rw [(insertZone_perm value k l).mem_iff, List.mem_cons]

/-- A zone whose index is below those of the list finds its place by its value (R92). -/
theorem insertZone_pairwise {value : ZoneIx → Int} {k : ZoneIx} {l : List ZoneIx}
    (hl : l.Pairwise (ZoneIx.Before value)) (hk : ∀ j ∈ l, k.code ≤ j.code) :
    (insertZone value k l).Pairwise (ZoneIx.Before value) := by
  induction l with
  | nil => simp [insertZone]
  | cons j rest ih =>
    obtain ⟨hj, hrest⟩ := List.pairwise_cons.1 hl
    have hle (x : ZoneIx) (hx : x ∈ j :: rest) : value j ≤ value x := by
      rcases List.mem_cons.1 hx with rfl | hx
      · exact Int.le_refl _
      · rcases hj x hx with h | h <;> omega
    unfold insertZone
    split
    next hfirst =>
      refine List.pairwise_cons.2 ⟨fun x hx => ?_, hl⟩
      rcases Int.lt_or_eq_of_le (Int.le_trans hfirst (hle x hx)) with hlt | heq
      · exact .inl hlt
      · exact .inr ⟨heq, hk x hx⟩
    next hlater =>
      refine List.pairwise_cons.2 ⟨fun x hx => ?_, ih hrest fun x hx => hk x (List.mem_cons_of_mem j hx)⟩
      rcases mem_insertZone.1 hx with rfl | hx
      · exact .inl (Int.not_le.1 hlater)
      · exact hj x hx

/-- The value by which a zone takes its place (R92). -/
def orderValue (zones : Quad Zone) (k : ZoneIx) : Int := (zones.get k).value.getD 0

theorem foldr_insertZone_perm (value : ZoneIx → Int) (l : List ZoneIx) :
    (l.foldr (insertZone value) []).Perm l := by
  induction l with
  | nil => exact .refl _
  | cons k l ih => exact (insertZone_perm value k _).trans (ih.cons k)

theorem foldr_insertZone_pairwise (value : ZoneIx → Int) {l : List ZoneIx}
    (h : l.Pairwise fun k j => k.code ≤ j.code) :
    (l.foldr (insertZone value) []).Pairwise (ZoneIx.Before value) := by
  induction l with
  | nil => exact List.Pairwise.nil
  | cons k l ih =>
    obtain ⟨hk, hl⟩ := List.pairwise_cons.1 h
    exact insertZone_pairwise (ih hl) fun j hj => hk j ((foldr_insertZone_perm value l).mem_iff.1 hj)

/-- The order has every zone of the part. -/
theorem zoneOrder_perm (zones : Quad Zone) : (zoneOrder zones).Perm ZoneIx.all :=
  foldr_insertZone_perm (orderValue zones) ZoneIx.all

/-- The zones stand in the order of their values, the lower index first among equal ones (R92). -/
theorem zoneOrder_pairwise (zones : Quad Zone) :
    (zoneOrder zones).Pairwise (ZoneIx.Before (orderValue zones)) :=
  foldr_insertZone_pairwise (orderValue zones) (by decide)

/-- Every zone stands once in the order. -/
theorem zoneOrder_count (zones : Quad Zone) (k : ZoneIx) : (zoneOrder zones).count k = 1 := by
  rw [(zoneOrder_perm zones).count_eq]
  cases k <;> rfl

/-! ### Rounds (R92) -/

/-- Round `r` of the list: the zones with demand left, in their order (R92). -/
def slotRound (zones : Quad Zone) (d : Quad Nat) (r : Nat) : List ZoneIx :=
  (zoneOrder zones).filter fun k => r < d.get k

/-- The first `r` rounds. -/
def slotRounds (zones : Quad Zone) (d : Quad Nat) (r : Nat) : List ZoneIx :=
  (List.range r).flatMap (slotRound zones d)

theorem slotRounds_succ (zones : Quad Zone) (d : Quad Nat) (r : Nat) :
    slotRounds zones d (r + 1) = slotRounds zones d r ++ slotRound zones d r := by
  simp [slotRounds, List.range_succ]

theorem buildSlots_eq (zones : Quad Zone) (d : Quad Nat) (bound : Nat) :
    buildSlots zones d bound = (slotRounds zones d 64).take bound := rfl

/-- A round has one entry of every zone with demand left. -/
theorem slotRound_count (zones : Quad Zone) (d : Quad Nat) (r : Nat) (k : ZoneIx) :
    (slotRound zones d r).count k = if r < d.get k then 1 else 0 := by
  split
  next hlt => rw [slotRound, List.count_filter (by simpa using hlt), zoneOrder_count]
  next hge => exact List.count_eq_zero.2 fun hk => hge (by simpa using (List.mem_filter.1 hk).2)

/-- After `r` rounds a zone has `r` entries, or as many as it demands. -/
theorem slotRounds_count (zones : Quad Zone) (d : Quad Nat) (r : Nat) (k : ZoneIx) :
    (slotRounds zones d r).count k = min r (d.get k) := by
  induction r with
  | zero => simp [slotRounds]
  | succ r ih =>
    rw [slotRounds_succ, List.count_append, ih, slotRound_count]
    split <;> omega

/-- Every place of the list lies in a round: before it stand the rounds that are over and the part of its own that is
taken, and the entry at the place is the next of that round. -/
theorem slotRounds_take (zones : Quad Zone) (d : Quad Nat) (m n : Nat) :
    ∃ (r : Nat) (taken left : List ZoneIx), slotRound zones d r = taken ++ left
      ∧ (slotRounds zones d m).take n = slotRounds zones d r ++ taken
      ∧ ∀ k, (slotRounds zones d m)[n]? = some k → left.head? = some k := by
  induction m with
  | zero => exact ⟨0, [], slotRound zones d 0, rfl, by simp [slotRounds], by simp [slotRounds]⟩
  | succ m ih =>
    rw [slotRounds_succ]
    rcases Nat.lt_or_ge n (slotRounds zones d m).length with hlt | hge
    · rwa [List.take_append_of_le_length (Nat.le_of_lt hlt), List.getElem?_append_left hlt]
    · refine ⟨m, (slotRound zones d m).take (n - (slotRounds zones d m).length),
        (slotRound zones d m).drop (n - (slotRounds zones d m).length), (List.take_append_drop ..).symm, ?_, ?_⟩
      · rw [List.take_append, List.take_of_length_le hge]
      · rw [List.getElem?_append_right hge, List.head?_drop]
        exact fun _ hk => hk

/-- The entries before place `n` of the list: some rounds, and the part of a further one whose next entry stands at
the place. -/
theorem buildSlots_take (zones : Quad Zone) (d : Quad Nat) (bound n : Nat) :
    ∃ (r : Nat) (taken left : List ZoneIx), slotRound zones d r = taken ++ left
      ∧ (∀ k, ((buildSlots zones d bound).take n).count k = min r (d.get k) + taken.count k)
      ∧ ∀ k, (buildSlots zones d bound)[n]? = some k → left.head? = some k := by
  obtain ⟨r, taken, left, hround, htake, hnext⟩ := slotRounds_take zones d 64 (min n bound)
  refine ⟨r, taken, left, hround, fun k => ?_, fun k hk => hnext k ?_⟩
  · rw [buildSlots_eq, List.take_take, htake, List.count_append, slotRounds_count]
  · rw [buildSlots_eq, List.getElem?_take] at hk
    split at hk
    next hlt => rwa [Nat.min_eq_left (Nat.le_of_lt hlt)]
    next => cases hk

/-- A zone's entries in a part of a round and in the rest of it: one if it has demand left. -/
theorem count_taken_left {zones : Quad Zone} {d : Quad Nat} {r : Nat} {taken left : List ZoneIx}
    (h : slotRound zones d r = taken ++ left) (k : ZoneIx) :
    taken.count k + left.count k = if r < d.get k then 1 else 0 := by
  rw [← List.count_append, ← h, slotRound_count]

/-! ### The list (R92) -/

/-- The entries of a list are those of its four zones. -/
theorem length_eq_counts (l : List ZoneIx) :
    l.length = l.count .z0 + l.count .z1 + l.count .z2 + l.count .z3 := by
  induction l with
  | nil => rfl
  | cons k l ih => cases k <;> simp [ih] <;> omega

theorem buildSlots_length {zones : Quad Zone} {d : Quad Nat} (hd : ∀ k, d.get k ≤ 64) (bound : Nat) :
    (buildSlots zones d bound).length = min bound d.toList.sum := by
  have hall : (slotRounds zones d 64).length = d.toList.sum := by
    simp only [length_eq_counts, slotRounds_count, Nat.min_eq_right (hd _)]
    simp [Quad.toList, Quad.get]
    omega
  rw [buildSlots_eq, List.length_take, hall]

/-- At no place has a zone more entries before it than its demand. -/
theorem buildSlots_take_count_le (zones : Quad Zone) (d : Quad Nat) (bound n : Nat) (k : ZoneIx) :
    ((buildSlots zones d bound).take n).count k ≤ d.get k := by
  obtain ⟨r, taken, left, hround, hcount, -⟩ := buildSlots_take zones d bound n
  have hk := count_taken_left hround k
  rw [hcount]
  split at hk <;> omega

/-- No zone has more entries than its demand. -/
theorem buildSlots_count_le (zones : Quad Zone) (d : Quad Nat) (bound : Nat) (k : ZoneIx) :
    (buildSlots zones d bound).count k ≤ d.get k := by
  have hle := buildSlots_take_count_le zones d bound (buildSlots zones d bound).length k
  rwa [List.take_length] at hle

/-- A zone is at most one entry ahead of any other that has demand left. -/
theorem buildSlots_ahead (zones : Quad Zone) (d : Quad Nat) (bound n : Nat) (k j : ZoneIx) :
    ((buildSlots zones d bound).take n).count k ≤ ((buildSlots zones d bound).take n).count j + 1
      ∨ ((buildSlots zones d bound).take n).count j = d.get j := by
  obtain ⟨r, taken, left, hround, hcount, -⟩ := buildSlots_take zones d bound n
  have hk := count_taken_left hround k
  have hj := count_taken_left hround j
  rw [hcount, hcount]
  split at hk <;> split at hj <;> omega

/-- The zone at a place is behind every other that has demand left, or level with it and first in the order. -/
theorem buildSlots_next {zones : Quad Zone} {d : Quad Nat} {bound n : Nat} {k j : ZoneIx}
    (hk : (buildSlots zones d bound)[n]? = some k)
    (hj : ((buildSlots zones d bound).take n).count j < d.get j) :
    ((buildSlots zones d bound).take n).count k < ((buildSlots zones d bound).take n).count j
      ∨ (((buildSlots zones d bound).take n).count k = ((buildSlots zones d bound).take n).count j
        ∧ k.Before (orderValue zones) j) := by
  obtain ⟨r, taken, left, hround, hcount, hnext⟩ := buildSlots_take zones d bound n
  obtain ⟨rest, rfl⟩ : ∃ rest, left = k :: rest := List.head?_eq_some_iff.1 (hnext k hk)
  have hkround := count_taken_left hround k
  have hjround := count_taken_left hround j
  rw [hcount] at hj
  rw [List.count_cons_self] at hkround
  simp only [hcount]
  by_cases hjk : j = k
  · exact .inr ⟨by rw [hjk], .inr (by simp [hjk])⟩
  · by_cases hin : j ∈ rest
    · have hsorted : (taken ++ k :: rest).Pairwise (ZoneIx.Before (orderValue zones)) :=
        hround ▸ (zoneOrder_pairwise zones).filter _
      obtain ⟨-, hleft, -⟩ := List.pairwise_append.1 hsorted
      have hfirst := List.rel_of_pairwise_cons hleft hin
      have hone : 0 < rest.count j := List.count_pos_iff.2 hin
      rw [List.count_cons_of_ne (Ne.symm hjk)] at hjround
      refine .inr ⟨?_, hfirst⟩
      split at hkround <;> split at hjround <;> omega
    · have hnone : (k :: rest).count j = 0 := List.count_eq_zero.2 (by simp [hjk, hin])
      refine .inl ?_
      split at hkround <;> split at hjround <;> omega

/-! ### The list of a frame (R88, R91) -/

theorem Quad.get_zipWith {α β γ : Type} (f : α → β → γ) (a : Quad α) (b : Quad β) (k : ZoneIx) :
    (Quad.zipWith f a b).get k = f (a.get k) (b.get k) := by cases k <;> rfl

/-- An INHIBITED zone demands nothing (R88). -/
theorem zoneDemand_inhibited (target : Option Int) (gain : Nat) (z : Zone) : zoneDemand target gain true z = 0 := by
  unfold zoneDemand
  split <;> rfl

/-- A zone demands no more than the slots of a frame (R88). -/
theorem zoneDemand_le (target : Option Int) (gain : Nat) (inhibited : Bool) (z : Zone) :
    zoneDemand target gain inhibited z ≤ 64 := by
  unfold zoneDemand
  split
  · split
    · omega
    · unfold clampInt
      omega
  · omega

/-- A frame follows the list of the demands formed, an INHIBITED zone having none, for as many slots as demand and
bound give; the slots after them have no entry (R91, R92). -/
theorem frameStarted_follows {e : Env} {h g : Heater} {entries : Nat} (hg : g = h.formDemand e)
    (hentries : entries = min g.demand (g.lastHanded * 64 / e.cfg.pSeg)) :
    (∀ k, h.inhibited.get k = true → g.d.get k = 0)
      ∧ (frameStarted e g).slots = buildSlots e.mfe.zones g.d entries
      ∧ (frameStarted e g).slots.length = entries
      ∧ ∀ p, entries ≤ p → (frameStarted e g).slots[p]? = none := by
  have hd (k : ZoneIx) : g.d.get k =
      zoneDemand h.target e.cfg.gain (h.inhibited.get k) (e.mfe.zones.get k) := by
    rw [hg]
    exact Quad.get_zipWith ..
  have hdemand : g.demand = min 64 g.d.toList.sum := by rw [hg]; rfl
  have hslots : (frameStarted e g).slots = buildSlots e.mfe.zones g.d entries := by rw [hentries]; rfl
  have hlength : (frameStarted e g).slots.length = entries := by
    rw [hslots, buildSlots_length (fun k => by rw [hd]; exact zoneDemand_le ..)]
    omega
  refine ⟨fun k hk => ?_, hslots, hlength, fun p hp => ?_⟩
  · rw [hd, hk, zoneDemand_inhibited]
  · exact List.getElem?_eq_none (by omega)

/-- Settles O42: lengths and counts by the rounds that stand before a place, the order within a round by the order of
the zones. The clause about the frame, which the statement has under its last case, holds of every frame. -/
theorem slotListIsBuiltInRounds : Obligations.SlotListIsBuiltInRounds := by
  intro zones d bound t hd ht
  refine ⟨buildSlots_length hd bound, buildSlots_count_le zones d bound, buildSlots_ahead zones d bound,
    fun n k j hk hj => ?_⟩
  have hvalue (x : ZoneIx) (hx : d.get x ≠ 0) : orderValue zones x = t x := by simp [orderValue, ht x hx]
  have hkd : d.get k ≠ 0 := by
    have hle := buildSlots_count_le zones d bound k
    have hpos := List.count_pos_iff.2 (List.mem_of_getElem? hk)
    omega
  rcases buildSlots_next hk hj with hbehind | ⟨hlevel, hbefore⟩
  · exact .inl hbehind
  · rw [ZoneIx.Before, hvalue k hkd, hvalue j (by omega)] at hbefore
    exact .inr ⟨⟨hlevel, hbefore⟩, fun e h g entries => frameStarted_follows⟩

end Sys2Proof.Machine
end

section
/-! PROOFS. The reads of the vehicle port (R122, R165, R171, R177, R182, R184, R186). -/

namespace Sys2Proof.Machine

/-! ### A vehicle request that is taken (R170, R177) -/

/-- A vehicle request, in STARTING or after it, whose owner leaves environment and blocks as `e` and `core` is
answered, and nothing else changes. -/
theorem vehicleRequest_done {s : State} {k q : Byte} {own : Owner} {c content : List Byte} {e : Env} {core : Core}
    {status : Status} (hu : s.core.up = true) (hr : s.vport.ready = true) (hd : s.vport.deferred = .none)
    (hown : own c (shiftHeld s) = { state := { shiftHeld s with env := e, core := core }, status, content }) :
    (vehicleRequest k q .none own c s).done
      = .next { afterVehicle s core k q status content .none with env := e } := by
  rw [vehicleRequest_taken _ _ _ _ _ hu hr hd, hown]
  simp [State.done, process, State.settle_eq, afterVehicle, vportAfter, respond, responseTo, shiftHeld,
    State.onVport, hd]

/-- The dispatch hands a request that is taken to its owner, and the answer is the owner's. -/
theorem vehicleDispatch_done {s : State} {k q : Byte} {own : Owner} {c content : List Byte} {e : Env}
    {core : Core} {status : Status} (h : VehicleTakes s)
    (hown : own c (shiftHeld s) = { state := { shiftHeld s with env := e, core := core }, status, content }) :
    (vehicleRequest k q .none (dispatch own) c s).done
      = .next { afterVehicle s core k q status content .none with env := e } := by
  obtain ⟨hheld, hpower, hready, hdeferred⟩ := id h
  exact vehicleRequest_done (Core.up_of_active hheld hpower) hready hdeferred ((dispatch_vehicle own c h).trans hown)

/-- A request that its owner refuses is answered with the status alone. -/
theorem vehicleDispatch_refused {s : State} {k q : Byte} {own : Owner} {c : List Byte} {status : Status}
    (h : VehicleTakes s) (hown : own c (shiftHeld s) = refusedWith status (shiftHeld s)) :
    (vehicleRequest k q .none (dispatch own) c s).done = .next (afterVehicle s s.core k q status [] .none) :=
  vehicleDispatch_done h hown

/-! ### IDENTIFY (R186) -/

theorem identifyContent_kind (p : Supply) : (identifyContent p)[4]? = some (BitVec.ofNat 8 p.kind.code) := by
  obtain ⟨-, -, -, kind, -, -, -⟩ := p
  cases kind <;> rfl

/-- Bytes carry the number they were made of, as far as it fits them (R192). -/
theorem leVal_le (n v : Nat) : leVal (le n v) = v % 256 ^ n := by
  induction n generalizing v with
  | zero => simp [le, leVal, Nat.mod_one]
  | succ n ih => rw [le, leVal, ih, BitVec.toNat_ofNat, Nat.pow_succ' (m := 256), Nat.mod_mul]

/-- The revision code reads 0 in STARTING and nowhere else (R186, log 14). -/
theorem identifyContent_revision (p : Supply) :
    leVal (((identifyContent p).drop 2).take 2) = 0 ↔ p.power = .starting := by
  have hcode : ((identifyContent p).drop 2).take 2
      = le 2 (if p.power == .starting then 0 else Config.revisionIndex.val + 1) := by
    simp [identifyContent]
  have hlt := Config.revisionIndex.isLt
  rw [hcode]
  by_cases h : p.power = .starting
  · simp [h, le, leVal]
  · rw [if_neg (by simpa using h), leVal_le, Nat.mod_eq_of_lt (by omega)]
    simp [h]

/-! ### READ-CONFIG -/

/-- The 74 bytes of READ-CONFIG: the fields and eight rows (R182). -/
theorem configContent_length {e : Env} (h : e.table.length = 8) : (configContent e).length = 74 := by
  have hrows : configContent e = configFields e.cfg ++ e.table.flatMap TempRow.bytes := rfl
  rw [hrows, List.length_append, configFields_length, tableBytes_length, h]

/-- The status record begins with the status core (R165). -/
theorem statusRecord_take (e : Env) (c : Core) : (statusRecord e c).take 39 = statusCore e c := by
  simp only [statusRecord, List.append_assoc]
  exact List.take_left' (statusCore_length e c)

/-- Settles O25: each read by what its owner answers, the lengths by their layouts. -/
theorem vehicleReadsAnswerTheirLayouts : Obligations.VehicleReadsAnswerTheirLayouts := by
  intro q s kind
  have hkind : BitVec.ofNat 8 s.core.sup.kind.code = kind := by
    simp only [kind]
    cases s.core.sup.kind <;> rfl
  refine ⟨fun h => ⟨vehicleDispatch_done h rfl, vehicleDispatch_done h rfl, ?_, vehicleDispatch_done h rfl,
      fun x rest => ⟨vehicleDispatch_refused h rfl, vehicleDispatch_refused h rfl, vehicleDispatch_refused h rfl,
        vehicleDispatch_refused h rfl⟩⟩,
    fun hu hr hd => ⟨vehicleRequest_done hu hr hd rfl, fun x rest => vehicleRequest_done hu hr hd rfl⟩,
    fun hu hfree => ⟨?_, fun x rest hfits => ?_⟩,
    statusRecord_length _ _, statusCore_length _ _, statusRecord_take _ _, insulationContent_length _ _,
    configContent_length, identifyContent_length _, ?_, identifyContent_revision _⟩
  case refine_1 =>
    rw [← hkind, ← statusContent_eq]
    exact vehicleDispatch_done h rfl
  case refine_2 =>
    show (fleetRequest 0x70 q ownIdentify [] s).done = _
    rw [fleetRequest_taken _ _ _ _ hu hfree (frameFits_of_short _ _ (by simp))]
    exact congrArg _ (respondFleet_settle_same s 0x70 q [] .ok _)
  case refine_3 =>
    show (fleetRequest 0x70 q ownIdentify (x :: rest) s).done = _
    rw [fleetRequest_taken _ _ _ _ hu hfree hfits]
    exact congrArg _ (respondFleet_settle_same s 0x70 q (x :: rest) .badRequest [])
  case refine_4 =>
    rw [identifyContent_kind, hkind]

end Sys2Proof.Machine
end

section
/-! PROOFS. The writes of configuration and temperature table (section 12.3, R121, R182, R183). -/

namespace Sys2Proof.Machine

/-! ### Words and bytes (R192) -/

/-- A word read from its two bytes. -/
theorem words_le_append {v : Nat} (h : v < 65536) (rest : List Byte) : words (le 2 v ++ rest) = v :: words rest := by
  have hv : leVal (le 2 v) = v := (leVal_le 2 v).trans (Nat.mod_eq_of_lt h)
  show leVal (le 2 v) :: words rest = _
  rw [hv]

/-- The words that their bytes carry one after the other. -/
theorem words_flatMap {l : List Nat} (h : ∀ v ∈ l, v < 65536) : words (l.flatMap (le 2)) = l := by
  induction l with
  | nil => rfl
  | cons v l ih =>
    rw [List.flatMap_cons, words_le_append (h v (by simp)), ih fun x hx => h x (List.mem_cons_of_mem v hx)]

theorem flatMap_le_length (l : List Nat) : (l.flatMap (le 2)).length = 2 * l.length := by
  induction l with
  | nil => rfl
  | cons v l ih => rw [List.flatMap_cons, List.length_append, le_length, ih, List.length_cons]; omega

/-- A field of two bytes that its value fits. -/
theorem field_two {v : Nat} (h : v < 65536) : field 2 v = le 2 v := if_pos h

/-- The 2-byte word that carries a signed value (R192). -/
def wordOf (x : Int) : Nat := (x % 65536).toNat

theorem wordOf_lt (x : Int) : wordOf x < 65536 := by unfold wordOf; omega

/-- A signed field of two bytes that its value fits. -/
theorem signedField_two {x : Int} (hlo : -32768 ≤ x) (hhi : x < 32768) : signedField 2 x = le 2 (wordOf x) :=
  if_pos ⟨by omega, by omega⟩

/-- A word reads as the signed value that it carries. -/
theorem signed16_wordOf {x : Int} (hlo : -32768 ≤ x) (hhi : x < 32768) : signed16 (wordOf x) = x := by
  unfold signed16 wordOf
  rw [BitVec.toInt_eq_toNat_cond, BitVec.toNat_ofNat]
  omega

/-! ### Values and their ranges (section 4.3, R182) -/

/-- A value is brought to the nearer end of its range, and the flag tells one outside it. -/
theorem ranged_eq {lo hi : Nat} (h : lo ≤ hi) (v : Nat) :
    ranged lo hi v = (max lo (min hi v), decide (v < lo ∨ hi < v)) := by
  have hflag : (max lo (min hi v) != v) = decide (v < lo ∨ hi < v) := by
    rw [Bool.eq_iff_iff, bne_iff_ne, decide_eq_true_iff]
    omega
  rw [ranged, clampNat, hflag]

/-- A value within its range is taken as it stands. -/
theorem ranged_within {lo hi v : Nat} (hlo : lo ≤ v) (hhi : v ≤ hi) : ranged lo hi v = (v, false) := by
  rw [ranged_eq (by omega), decide_eq_false (by omega)]
  congr 1
  omega

/-- A signed value within its range is taken as it stands. -/
theorem rangedSigned_within {lo hi x : Int} (hlo : lo ≤ x) (hhi : x ≤ hi) (hword : -32768 ≤ x ∧ x < 32768) :
    rangedSigned lo hi (wordOf x) = (x, false) := by
  have hclamp : clampInt lo hi x = x := by unfold clampInt; omega
  rw [rangedSigned, signed16_wordOf hword.1 hword.2, hclamp, bne_self_eq_false]

theorem phasesOf_changes (v : Nat) : (phasesOf v != v) = decide (¬(v = 1 ∨ v = 3)) := by
  rw [Bool.eq_iff_iff, bne_iff_ne, decide_eq_true_iff]
  unfold phasesOf
  split <;> omega

theorem halfPeriodOf_allowed {v : Nat} (h : v ∈ [500, 1000, 2000, 4000]) : halfPeriodOf v = v := by
  simp only [List.mem_cons, List.not_mem_nil, or_false] at h
  rcases h with rfl | rfl | rfl | rfl <;> rfl

theorem Trigger.ofCode_code (t : Trigger) : Trigger.ofCode t.code = some t := by cases t <;> rfl

theorem Trigger.code_lt (t : Trigger) : t.code < 65536 := by cases t <;> decide

theorem Trigger.field_code (t : Trigger) : field 2 t.code = le 2 t.code := field_two t.code_lt

/-! ### The operand of WRITE-CONFIG (R182) -/

/-- The 21 fields of a record as words, in the order of their presence bits (section 12.3). -/
def configWords (g : ConfigRecord) : List Nat :=
  [g.authRequired.toNat, wordOf g.permitTemp, g.phases, g.pCfg, g.eta, g.reserve, g.fallback, g.pSeg,
    wordOf g.preheatTarget, wordOf g.chargeTarget, g.gain, g.halfPeriod, g.warnOhms, g.faultOhms, g.defaultPrice,
    g.ownAddress, g.accCode.toNat, g.accMask.toNat, g.auxTrigger.code, g.faultTrigger.code, g.flapTrigger.code]

/-- A mask and the words of the fields it names. -/
theorem configOperand_words (g : ConfigRecord) {mask : Nat} {named ws : List Nat} (hmask : mask < 2 ^ 21)
    (hnamed : namedFields mask = named) (hlen : ws.length = named.length) (hws : ∀ v ∈ ws, v < 65536) :
    configOperand g (le 4 mask ++ ws.flatMap (le 2))
      = (setConfigFields g (named.zip ws)).map fun r => (named, r.1, r.2) := by
  have hval : leVal (le 4 mask) = mask := (leVal_le 4 mask).trans (Nat.mod_eq_of_lt (by omega))
  simp only [configOperand, List.take_left' (le_length 4 mask), List.drop_left' (le_length 4 mask), hval, hnamed,
    words_flatMap hws]
  exact if_pos ⟨by rw [List.length_append, le_length, flatMap_le_length, hlen], hmask⟩

/-- Content whose length does not go with its mask is refused. -/
theorem configOperand_length (g : ConfigRecord) {mask : Nat} {named : List Nat} {c : List Byte}
    (hmask : mask < 2 ^ 21) (hnamed : namedFields mask = named) (hlen : c.length ≠ 2 * named.length) :
    configOperand g (le 4 mask ++ c) = none := by
  have hval : leVal (le 4 mask) = mask := (leVal_le 4 mask).trans (Nat.mod_eq_of_lt (by omega))
  simp only [configOperand, List.take_left' (le_length 4 mask), hval, hnamed, List.length_append, le_length]
  exact if_neg fun h => hlen (Nat.add_left_cancel h.1)

section
variable {g : ConfigRecord} (hg : g.InRange)
include hg

/-- READ-CONFIG returns the words of the record. -/
theorem configFields_words : configFields g = (configWords g).flatMap (le 2) ∧ ∀ v ∈ configWords g, v < 65536 := by
  obtain ⟨htemp, hphases, hpcfg, heta, hreserve, hfallback, hpseg, hpre, hchg, hgain, hhalf, hwarn, hfault, hprice,
    haddr⟩ := hg
  simp only [List.mem_cons, List.not_mem_nil, or_false] at hhalf
  have hauth := Bool.toNat_lt g.authRequired
  have hcode := g.accCode.isLt
  have hmask := g.accMask.isLt
  constructor
  · unfold configFields
    simp (disch := omega) only [configWords, field_two, signedField_two, Trigger.field_code, List.flatMap_cons,
      List.flatMap_nil, List.append_nil, List.append_assoc]
  · simp only [configWords, List.forall_mem_cons]
    simp [wordOf_lt, Trigger.code_lt]
    omega

/-- The words of a record in its ranges replace every field of the record before, none of them changed. -/
theorem setConfigFields_words (before : ConfigRecord) :
    setConfigFields before ((List.range 21).zip (configWords g)) = some (g, false) := by
  obtain ⟨htemp, hphases, hpcfg, heta, hreserve, hfallback, hpseg, hpre, hchg, hgain, hhalf, hwarn, hfault, hprice,
    haddr⟩ := hg
  have hcode := g.accCode.isLt
  have hmask := g.accMask.isLt
  have hthree : (phasesOf g.phases, phasesOf g.phases != g.phases) = (g.phases, false) := by
    rcases hphases with h | h <;> rw [h] <;> rfl
  have hauth : g.authRequired.toNat ≤ 1 ∧ (g.authRequired.toNat == 1) = g.authRequired := by
    cases g.authRequired <;> decide
  rw [Prod.mk.injEq] at hthree
  rw [show List.range 21 = [0, 1, 2, 3, 4, 5, 6, 7, 8, 9, 10, 11, 12, 13, 14, 15, 16, 17, 18, 19, 20] from rfl]
  simp (disch := omega) only [configWords, List.zip_cons_cons, List.zip_nil_right, setConfigFields, setConfigField,
    ranged_within, rangedSigned_within, halfPeriodOf_allowed hhalf, Trigger.ofCode_code, hthree, hauth, if_true,
    bne_self_eq_false, Option.map_some, Bool.or_self, BitVec.ofNat_toNat, BitVec.setWidth_eq]

/-- A record written as READ-CONFIG returns it is taken as it stands (R182). -/
theorem configOperand_configFields (before : ConfigRecord) :
    configOperand before (le 4 0x1FFFFF ++ configFields g) = some (List.range 21, g, false) := by
  obtain ⟨hfields, hwords⟩ := configFields_words hg
  rw [hfields, configOperand_words before (named := List.range 21) (ws := configWords g) (by decide) (by decide) rfl
    hwords, setConfigFields_words hg]
  rfl

end

/-! ### Single fields (R121, R182) -/

theorem configOperand_pCfg (g : ConfigRecord) {v : Nat} (h : v < 65536) :
    configOperand g (le 4 (2 ^ 3) ++ le 2 v)
      = some ([3], { g with pCfg := max 1000 (min 22000 v) }, decide (v < 1000 ∨ 22000 < v)) := by
  have hop := configOperand_words g (mask := 2 ^ 3) (named := [3]) (ws := [v]) (by decide) (by decide) rfl (by simpa)
  simpa [setConfigFields, setConfigField, ranged_eq] using hop

theorem configOperand_phases (g : ConfigRecord) {v : Nat} (h : v < 65536) :
    configOperand g (le 4 (2 ^ 2) ++ le 2 v)
      = some ([2], { g with phases := if v ≤ 1 then 1 else 3 }, decide (¬(v = 1 ∨ v = 3))) := by
  have hop := configOperand_words g (mask := 2 ^ 2) (named := [2]) (ws := [v]) (by decide) (by decide) rfl (by simpa)
  simp only [List.flatMap_singleton, List.zip_cons_cons, List.zip_nil_right, setConfigFields, setConfigField,
    phasesOf_changes, Option.map_some, Bool.or_false] at hop
  exact hop

/-- An authorization code outside its set (section 11.1). -/
theorem configOperand_authRequired (g : ConfigRecord) {v : Nat} (h : v < 65536) (hv : 1 < v) :
    configOperand g (le 4 (2 ^ 0) ++ le 2 v) = none := by
  have hop := configOperand_words g (mask := 2 ^ 0) (named := [0]) (ws := [v]) (by decide) (by decide) rfl (by simpa)
  simpa [setConfigFields, setConfigField, Nat.not_le.2 hv] using hop

theorem configOperand_ohms (g : ConfigRecord) {a b : Nat} (ha : a < 65536) (hb : b < 65536) :
    configOperand g (le 4 (2 ^ 12 + 2 ^ 13) ++ le 2 a ++ le 2 b)
      = some ([12, 13],
          { g with warnOhms := max 100 (min 2000 a), faultOhms := max 50 (min 1000 b) },
          decide (a < 100 ∨ 2000 < a ∨ b < 50 ∨ 1000 < b)) := by
  have hop := configOperand_words g (mask := 2 ^ 12 + 2 ^ 13) (named := [12, 13]) (ws := [a, b]) (by decide)
    (by decide) rfl (by simp [ha, hb])
  simpa [setConfigFields, setConfigField, ranged_eq, or_assoc, Bool.or_assoc] using hop

/-! ### The operand of WRITE-TEMP-TABLE (R183) -/

theorem tableRows_bytes {rows : List TempRow} (h : ∀ r ∈ rows, r.InRange) :
    tableRows (words (rows.flatMap TempRow.bytes)) = rows.map fun r => (r, false) := by
  induction rows with
  | nil => rfl
  | cons r rows ih =>
    obtain ⟨hbreak, hcurrent⟩ := h r (by simp)
    have hbytes : r.bytes = le 2 (wordOf r.breakpoint) ++ le 2 r.current := by
      rw [TempRow.bytes, signedField_two (by omega) (by omega), field_two (by omega)]
    rw [List.flatMap_cons, hbytes, List.append_assoc, words_le_append (wordOf_lt _), words_le_append (by omega),
      tableRows, rangedSigned_within hbreak.1 hbreak.2 (by omega), ranged_within (Nat.zero_le _) hcurrent,
      ih fun x hx => h x (List.mem_cons_of_mem r hx)]
    rfl

/-- Eight rows within their ranges are taken as they stand. -/
theorem tableOperand_bytes {rows : List TempRow} (hlen : rows.length = 8) (h : ∀ r ∈ rows, r.InRange) :
    tableOperand (rows.flatMap TempRow.bytes) = some (rows, false) := by
  rw [tableOperand, if_pos (by rw [tableBytes_length, hlen]), tableRows_bytes h]
  simp [Function.comp_def]

theorem rising_iff (l : List Int) : rising l = true ↔ l.Pairwise (· < ·) := by
  induction l with
  | nil => exact iff_of_true rfl List.Pairwise.nil
  | cons a l ih =>
    cases l with
    | nil => exact iff_of_true rfl (List.pairwise_singleton _ a)
    | cons b l =>
      rw [rising, Bool.and_eq_true, decide_eq_true_iff, ih, List.pairwise_cons (a := a)]
      refine and_congr_left fun htail => ⟨fun hab x hx => ?_, fun hall => hall b List.mem_cons_self⟩
      rcases List.mem_cons.1 hx with rfl | hx
      · exact hab
      · exact Int.lt_trans hab (List.rel_of_pairwise_cons htail hx)

/-! ### The owners of the writes (R121, R182, R183) -/

theorem conclude_busy {e : Env} {c : Core} (h : c.session.state.busy = true) : conclude e c = c :=
  conclude_other (fun ha => by simp [ha, SessionState.busy, SessionState.live] at h)
    (fun hc => by simp [hc, SessionState.busy, SessionState.live] at h)

/-- A session at rest is in none of the states from AUTHORIZING to STOPPING. -/
theorem Session.Rests.notBusy {x : Session} (h : x.Rests) : x.state.busy = false := by
  rcases h with h | ⟨h, -⟩ | ⟨h, -⟩ <;> rw [h] <;> rfl

section
variable {s : State} {c : List Byte} (q : Byte) (h : VehicleTakes s)
include h

/-- A write that is taken replaces the record, and no start condition follows from it. -/
theorem writeConfig_taken {named : List Nat} {g : ConfigRecord} {clamped : Bool}
    (hop : configOperand s.env.cfg c = some (named, g, clamped))
    (hfree : s.core.session.state.busy = false ∨ onlyOhms named = true)
    (hrest : s.core.session.Rests ∨ s.core.session.state.busy = true) :
    exec (.writeConfig q c) s = .next
      { afterVehicle s s.core 0x09 q (if clamped then .clamped else .ok) [] .none with
        env := { s.env with cfg := g } } := by
  have hgo : (s.core.session.state.busy && !onlyOhms named) = false := by
    rcases hfree with h | h <;> simp [h]
  have hconclude (e : Env) : conclude e s.core = s.core := hrest.elim conclude_rests conclude_busy
  refine vehicleDispatch_done h ?_
  simp [ownWriteConfig, hop, State.session, hgo, okOrClamped, State.run, State.onCore, State.onCfg, hconclude]

theorem writeConfig_refused {named : List Nat} {g : ConfigRecord} {clamped : Bool}
    (hop : configOperand s.env.cfg c = some (named, g, clamped))
    (hbusy : s.core.session.state.busy = true) (hnamed : onlyOhms named = false) :
    exec (.writeConfig q c) s = .next (afterVehicle s s.core 0x09 q .refusedState [] .none) :=
  vehicleDispatch_refused h (by simp [ownWriteConfig, hop, State.session, hbusy, hnamed])

theorem writeConfig_badRequest (hop : configOperand s.env.cfg c = none) :
    exec (.writeConfig q c) s = .next (afterVehicle s s.core 0x09 q .badRequest [] .none) :=
  vehicleDispatch_refused h (by simp [ownWriteConfig, hop])

/-- A table whose rows are in range: taken if its breakpoints ascend, outside the states from AUTHORIZING to
STOPPING (R183). -/
theorem writeTempTable_done {rows : List TempRow} (hop : tableOperand c = some (rows, false)) :
    exec (.writeTempTable q c) s = .next
      (if s.core.session.state.busy then afterVehicle s s.core 0x0B q .refusedState [] .none
      else if rising (rows.map (·.breakpoint)) then
        { afterVehicle s s.core 0x0B q .ok [] .none with env := { s.env with table := rows } }
      else afterVehicle s s.core 0x0B q .badTable [] .none) := by
  have hown : ownWriteTempTable c (shiftHeld s) =
      if s.core.session.state.busy then refusedWith .refusedState (shiftHeld s)
      else if rising (rows.map (·.breakpoint)) then okWith ((shiftHeld s).withTable rows)
      else refusedWith .badTable (shiftHeld s) := by
    simp only [ownWriteTempTable, withOperand, hop]
    rfl
  split
  next hbusy => exact vehicleDispatch_refused h (by rw [hown, if_pos hbusy])
  next hfree =>
    rw [if_neg hfree] at hown
    split
    next hup => exact vehicleDispatch_done h (by rw [hown, if_pos hup]; rfl)
    next hup => exact vehicleDispatch_refused h (by rw [hown, if_neg hup])

end

/-- Settles O27: each clause by what its content carries and what the session's state leaves to its owner. -/
theorem configurationWritesReadBack : Obligations.ConfigurationWritesReadBack := by
  intro q before g rows s hg hlen hrows
  have hwrite := configOperand_configFields hg
  have htable := tableOperand_bytes hlen hrows
  refine ⟨hwrite before, fun h hrest => ?rest, fun h hstate a b ha hb => ?ohms, fun h hbusy => ?busy⟩
  case rest =>
    have hfree := hrest.notBusy
    have htaken := writeTempTable_done q h htable
    rw [hfree, if_neg Bool.false_ne_true] at htaken
    refine ⟨writeConfig_taken q h (hwrite _) (.inl hfree) (.inl hrest), fun v hv => ⟨?_, ?_, fun hcode => ?_⟩,
      fun c hc => ?_, fun hup => ?_, fun hup => ?_⟩
    · simpa using writeConfig_taken q h (configOperand_pCfg _ hv) (.inl hfree) (.inl hrest)
    · simpa only [decide_eq_true_eq, ite_not] using
        writeConfig_taken q h (configOperand_phases _ hv) (.inl hfree) (.inl hrest)
    · exact writeConfig_badRequest q h (configOperand_authRequired _ hv hcode)
    · exact writeConfig_badRequest q h (configOperand_length _ (named := [3]) (by decide) (by decide) hc)
    · rwa [if_pos ((rising_iff _).2 hup)] at htaken
    · rwa [if_neg fun hr => hup ((rising_iff _).1 hr)] at htaken
  case ohms =>
    simpa using writeConfig_taken q h (configOperand_ohms _ ha hb) (.inr rfl) hstate
  case busy =>
    refine ⟨writeConfig_refused q h (hwrite _) hbusy rfl,
      fun v hv => writeConfig_refused q h (configOperand_pCfg _ hv) hbusy rfl, ?_⟩
    have hdone := writeTempTable_done q h htable
    rwa [if_pos hbusy] at hdone

end Sys2Proof.Machine
end

section
/-! PROOFS. The judgement of the bus (R110 to R114): the counts and the result state of every cycle result, and the
change to FAULT. -/

namespace Sys2Proof.Machine

/-! ### The result states (R111, R112) -/

theorem classify_low {r : RIso} {fault : Nat} (warn : Nat) (h : r.below fault = true) :
    classify r warn fault = .low := if_pos h

theorem classify_marginal {r : RIso} {warn fault : Nat} (hf : r.below fault = false) (hw : r.below warn = true) :
    classify r warn fault = .marginal := by simp [classify, hf, hw]

theorem classify_good {r : RIso} {warn fault : Nat} (hf : r.below fault = false) (hw : r.below warn = false) :
    classify r warn fault = .good := by simp [classify, hf, hw]

/-- From NO-RESULT and OK a GOOD result gives OK, any other WARN (R112). -/
theorem nextResult_fresh {m : Monitor} (k : ResultClass) (h : m.result = .noResult ∨ m.result = .ok) :
    nextResult k m = if k = .good then .ok else .warn := by
  rcases h with h | h <;> cases k <;> simp [nextResult, h]

/-- In WARN the third GOOD result gives OK, the second LOW one FAULT (R112). -/
theorem nextResult_warn {m : Monitor} (k : ResultClass) (h : m.result = .warn) :
    nextResult k m =
      match k with
      | .good => if m.good = 3 then .ok else .warn
      | .marginal => .warn
      | .low => if m.low = 2 then .fault else .warn := by
  cases k <;> simp [nextResult, h]

@[simp] theorem moveCounts_result (k : ResultClass) (m : Monitor) : (moveCounts k m).result = m.result := by
  cases k <;> rfl

/-! ### Notices entered and kept (R114, R178) -/

theorem hasBit_enterNotice_vehicle (n : Notice) (u : Notices) {i : Nat} (hi : i < 16) :
    hasBit (enterNotice n u).vehiclePending i
      = (hasBit u.vehiclePending i || (decide (n.code = i) && hasBit vehicleRouted i)) := by
  simp only [enterNotice, hasBit, BitVec.getLsbD_or, BitVec.getLsbD_and]
  rw [show (bit 16 n.code).getLsbD i = decide (n.code = i) from hasBit_bit hi]

theorem hasBit_enterNotice_fleet (n : Notice) (u : Notices) {i : Nat} (hi : i < 16) :
    hasBit (enterNotice n u).fleetPending i
      = (hasBit u.fleetPending i || (decide (n.code = i) && hasBit fleetRouted i)) := by
  simp only [enterNotice, hasBit, BitVec.getLsbD_or, BitVec.getLsbD_and]
  rw [show (bit 16 n.code).getLsbD i = decide (n.code = i) from hasBit_bit hi]

@[simp] theorem post_notices (n : Notice) (c : Core) : (post n c).notices = enterNotice n c.notices := rfl

@[simp] theorem boundaryDue_notices (e : Env) (c : Core) : (boundaryDue e c).notices = c.notices := by
  unfold boundaryDue
  split <;> rfl

@[simp] theorem handHeat_notices (e : Env) (v : Nat) (c : Core) : (handHeat e v c).notices = c.notices := by
  unfold handHeat trim
  simp only
  split
  · rfl
  · simp
  · split
    · split
      · rfl
      · split <;> simp
    · rfl

/-- Outside the states that keep pause causes an allocation posts nothing. -/
theorem allocate_notices_notLive {immediate : Bool} {e : Env} {c : Core} (h : c.session.state.live = false) :
    (allocate immediate e c).notices = c.notices := by
  rw [allocate, reportLimit_notLive (by simpa using h)]
  simp

@[simp] theorem copyFaults_notices (c : Core) : (copyFaults c).notices = c.notices := rfl

@[simp] theorem authOnStopping_notices (c : Core) : (authOnStopping c).notices = c.notices := by
  unfold authOnStopping
  split <;> rfl

@[simp] theorem heaterWindowEnd_notices (e : Env) (c : Core) : (heaterWindowEnd e c).notices = c.notices := by
  unfold heaterWindowEnd
  split <;> rfl

@[simp] theorem applyPending_notices (c : Core) : (applyPending c).notices = c.notices := by
  unfold applyPending
  split <;> rfl

@[simp] theorem closeWindow_notices (e : Env) (c : Core) : (closeWindow e c).notices = c.notices := by
  unfold closeWindow
  split <;> simp

/-- Without a pending increase and a deferred boundary the end of the window changes the monitor alone (R80, R97). -/
theorem closeWindow_quiet {e : Env} {c : Core} (hp : c.alloc.record.pendingIncrease = none)
    (hd : c.heater.deferred = false) : closeWindow e c = c.onMon fun m => { m with window := false } := by
  unfold closeWindow
  split
  next => simp [applyPending, hp, heaterWindowEnd, hd]
  next h => simp only [Core.onMon, ← eq_false_of_ne_true h]

/-! ### A stop cause that opens at once (R32, R34, R36) -/

/-- The entry to STOPPING does not touch a monitor that is not in SELF-TEST, but for its mark, and posts
SESSION-STATE (R34, R44, R107). -/
theorem enterStopping_monitor (e : Env) (cause : StopCause) {c : Core} (hm : c.mon.state ≠ .selfTest) :
    ∃ d, enterStopping e cause c = startOpening e cause d
      ∧ d.session = c.session.stopped cause ∧ d.mon.unmarked = c.mon.unmarked
      ∧ d.notices = enterNotice .sessionState c.notices := by
  have hstays (d : Core) (hd : d.mon.unmarked = c.mon.unmarked) : monitorOnStopping e d = d := by
    have hstate : d.mon.state = c.mon.state := (congrArg Monitor.state hd :)
    simp [monitorOnStopping, hstate, hm]
  refine ⟨_, rfl, ?_, ?_, ?_⟩
  · rw [allocate_session_notLive (by simp; rfl)]
    simp [Session.stopped]
  · rw [hstays _ (by simp)]
    simp
  · rw [hstays _ (by simp), allocate_notices_notLive (by simp; rfl)]
    simp

/-- The session record when a stop cause has opened a CLOSED contactor at once (R34, R36). -/
def Session.opening (cause : StopCause) (s : Session) : Session :=
  { s.stopped cause with contactor := .opening, waitTimer := none, confirmTimer := some 100 }

/-- A cause of the class "at once" opens a CLOSED contactor whose contact reads closed (R32, R34, R36). -/
theorem stopCause_opensAtOnce {e : Env} {cause : StopCause} {c : Core} (hl : c.session.state.live = true)
    (hk : c.session.contactor = .closed) (ha : cause.atOnce = true) (haux : e.mfe.aux.active = true)
    (hm : c.mon.state ≠ .selfTest) :
    (stopCause e cause c).session = c.session.opening cause
      ∧ (stopCause e cause c).mon.unmarked = c.mon.unmarked
      ∧ (stopCause e cause c).notices = enterNotice .sessionState c.notices := by
  obtain ⟨d, hd, hses, hmon, hnotices⟩ := enterStopping_monitor e cause hm
  have hclosed : d.session.contactor = .closed := by rw [hses]; exact hk
  have hopens : startOpening e cause d = beginOpening d := by
    simp only [startOpening, hclosed, ha, if_true, openContactor, haux]
  rw [stopCause_live hl, hd, hopens, beginOpening_session, hses]
  exact ⟨rfl, by simp [beginOpening, setContactor, hmon],
    by simp [beginOpening, setContactor, hnotices]⟩

/-! ### The change of the result state (R112, R114) -/

/-- Every change but that to FAULT sets the result state alone; the change to WARN posts its notice. -/
theorem setResult_notFault {e : Env} {new : ResultState} {c : Core} (h : new ≠ .fault) :
    (setResult e new c).mon = { c.mon with result := new } ∧ (setResult e new c).session = c.session
      ∧ (new = .warn → c.mon.result ≠ .warn →
        hasBit (setResult e new c).notices.vehiclePending Notice.insulationWarn.code = true) := by
  unfold setResult
  split
  next hsame => exact ⟨by rw [hsame], rfl, fun hw hne => absurd (hsame.symm.trans hw) hne⟩
  next =>
    cases new with
    | fault => exact absurd rfl h
    | warn =>
      refine ⟨by simp, by simp, fun _ _ => ?_⟩
      rw [post_notices, hasBit_enterNotice_vehicle _ _ (by decide)]
      exact Bool.or_eq_true_iff.2 (.inr (by decide))
    | ok => exact ⟨rfl, rfl, nofun⟩
    | noResult => exact ⟨rfl, rfl, nofun⟩

/-- The blocks at the change to FAULT, before the session, the allocator and the heater act (R114, log 28). -/
def Core.latched (c : Core) : Core :=
  reportFall (commandLine c)
    (post .insulationFault (c.onMon fun m => { m with result := .fault, faultResult := m.last }))

@[simp] theorem Core.latched_session (c : Core) : c.latched.session = c.session := by simp [Core.latched]

@[simp] theorem Core.latched_notices (c : Core) : c.latched.notices = enterNotice .insulationFault c.notices := by
  simp [Core.latched]

theorem Core.latched_unmarked (c : Core) :
    c.latched.mon.unmarked = { c.mon with result := .fault, faultResult := c.mon.last, mark := false } := by
  rw [Core.latched, reportFall_unmarked]
  rfl

/-- The change to FAULT with the contactor CLOSED: the result is latched and posted, the session stops and opens at
once, nothing is allocated and the heater is OFF (R114). -/
theorem enterFault_opens {e : Env} {c : Core} (hp : c.session.state.powered = true)
    (hk : c.session.contactor = .closed) (haux : e.mfe.aux.active = true) (hm : c.mon.state = .monitoring) :
    (enterFault e c).mon.unmarked = { c.mon with result := .fault, faultResult := c.mon.last, mark := false }
      ∧ (enterFault e c).session = c.session.opening .insulationFault
      ∧ (enterFault e c).alloc.record = AllocRecord.zero
      ∧ (∃ h : Heater, (enterFault e c).heater = h.off)
      ∧ (enterFault e c).notices = enterNotice .sessionState (enterNotice .insulationFault c.notices) := by
  have hstate : c.latched.mon.state = .monitoring := (congrArg Monitor.state c.latched_unmarked).trans hm
  obtain ⟨hses, hmon, hnotices⟩ := stopCause_opensAtOnce (e := e) (cause := .insulationFault) (c := c.latched)
    (by simpa using SessionState.live_of_powered hp) (by simpa using hk) rfl haux (by simp [hstate])
  rw [Core.latched_session] at hses
  have hfault : enterFault e c = heaterOff (allocate true e (stopCause e .insulationFault c.latched)) := rfl
  have hnotLive : (stopCause e .insulationFault c.latched).session.state.live = false := by rw [hses]; rfl
  rw [hfault]
  refine ⟨?_, ?_, ?_, ⟨_, heaterOff_heater _⟩, ?_⟩
  · rw [heaterOff_unmarked, allocate_unmarked, hmon, Core.latched_unmarked]
  · rw [heaterOff_session, allocate_session_notLive hnotLive, hses]
  · rw [heaterOff_alloc, allocate_record_notLive hnotLive,
      nextRecord_zero (by rw [hses]; simp [Session.opening, Session.stopped])]
  · rw [heaterOff_notices, allocate_notices_notLive hnotLive, hnotices, Core.latched_notices]

/-! ### A cycle result on the bus (R110, R111) -/

/-- V_bus comes from the set published last (R3). -/
theorem published_of_vBus {m : Mfe} {v : Nat} (h : m.vBus? = some v) :
    ∃ p, m.published = some p ∧ p.vBus = v := by
  obtain ⟨p, hp, hv⟩ := Option.bind_eq_some_iff.1 h
  split at hv
  · exact ⟨p, hp, Option.some.inj hv⟩
  · cases hv

/-- A result on the bus as it is stored, with its thresholds (R110, R111). -/
def busResult (e : Env) (c : Core) (r : RIso) (v : Nat) : CycleResult where
  rIso := r
  time := c.meter.time
  path := .bus
  vBus := some v
  thresholds := some (e.cfg.warnOhms * v / 10000, e.cfg.faultOhms * v / 10000)

/-- The monitor when a result is stored, the next cycle has begun and the counts have moved (R110, R112). -/
def Monitor.counted (e : Env) (x : CycleResult) (k : ResultClass) (m : Monitor) : Monitor :=
  moveCounts k
    { m with
      discards := 0, noResults := 0, last := some x, polarity := .positive, vPos := none
      timer := some e.cfg.halfPeriod }

/-- Result state and counts move as if nothing else were stored. -/
theorem nextResult_counted (e : Env) (x : CycleResult) (k : ResultClass) (m : Monitor) :
    nextResult k (m.counted e x k) = nextResult k (moveCounts k m) := by cases k <;> rfl

/-- The NEGATIVE half-period of a cycle in MONITORING is accepted: its result is stored, counted and judged (R108,
R110 to R112). -/
theorem decideHalf_judges {e : Env} {c : Core} {vPos : Int} {v : Nat} {r : RIso} {k : ResultClass}
    (h : c.mon.discarded = false) (hpol : c.mon.polarity = .negative) (hpos : c.mon.vPos = some vPos)
    (hm : c.mon.state = .monitoring) (hv : e.mfe.vBus? = some v)
    (hr : r = resistance ((vPos - c.mon.settled) / 2))
    (hk : classify r (e.cfg.warnOhms * v / 10000) (e.cfg.faultOhms * v / 10000) = k) :
    decideHalf e c
      = (setResult e (nextResult k (moveCounts k c.mon)) (c.onMon (Monitor.counted e (busResult e c r v) k))).onMon
          Monitor.unmarked := by
  obtain ⟨p, hp, hpv⟩ := published_of_vBus hv
  have htake : acceptHalf e c = judgeBus e r
      ((storeResult e (c.onMon fun m => { m with discards := 0 }) .bus r).onMon (beginCycle e)) := by
    simp only [acceptHalf, hpol, hpos, takeResult, Core.onMon_mon, hm]
    rw [hr]; rfl
  have hcounted : ((storeResult e (c.onMon fun m => { m with discards := 0 }) .bus r).onMon (beginCycle e)).onMon
      (moveCounts k) = c.onMon (Monitor.counted e (busResult e c r v) k) := by
    simp only [storeResult, hp, Option.map_some, hpv]
    rfl
  have hjudge : acceptHalf e c = setResult e (nextResult k (moveCounts k c.mon))
      (c.onMon (Monitor.counted e (busResult e c r v) k)) := by
    rw [htake, judgeBus, hv]
    simp only [threshold, hk, hcounted]
    rw [Core.onMon_mon, nextResult_counted]
  rw [decideHalf, h, if_neg Bool.false_ne_true, hjudge]
  rfl

/-! ### The expiry that ends a cycle on the bus (R108) -/

/-- The half-period whose expiry ends a cycle in MONITORING, in PREHEAT or CHARGING: NEGATIVE, with V_pos, V_bus, and a
settled sample of `n` samples that sum to `sum`. -/
structure EndsBusCycle (samples : List Int) (sum vPos : Int) (n v : Nat) (s : State) : Prop where
  up : s.core.up = true
  powered : s.core.session.state.powered = true
  monitoring : s.core.mon.state = .monitoring
  timer : s.core.mon.timer.isSome = true
  window : s.core.mon.window = true
  mark : s.core.mon.mark = false
  polarity : s.core.mon.polarity = .negative
  vPos : s.core.mon.vPos = some vPos
  vBus : s.env.mfe.vBus? = some v
  sum : sum = s.core.mon.windowSum + (samples.map fun v => max (-30000) (min 30000 v)).sum
  count : n = s.core.mon.windowCount + samples.length
  positive : 0 < n

/-- The blocks when the window's samples have come and the result is stored and counted (R108, R110, R112). -/
def Core.counted (e : Env) (sum : Int) (n : Nat) (x : CycleResult) (k : ResultClass) (c : Core) : Core :=
  (c.sampled sum n).onMon (Monitor.counted e x k)

@[simp] theorem Core.counted_session (e : Env) (sum : Int) (n : Nat) (x : CycleResult) (k : ResultClass) (c : Core) :
    (c.counted e sum n x k).session = c.session := rfl

@[simp] theorem Core.counted_notices (e : Env) (sum : Int) (n : Nat) (x : CycleResult) (k : ResultClass) (c : Core) :
    (c.counted e sum n x k).notices = c.notices := rfl

@[simp] theorem Core.counted_state (e : Env) (sum : Int) (n : Nat) (x : CycleResult) (k : ResultClass) (c : Core) :
    (c.counted e sum n x k).mon.state = c.mon.state := by cases k <;> rfl

@[simp] theorem Core.counted_result (e : Env) (sum : Int) (n : Nat) (x : CycleResult) (k : ResultClass) (c : Core) :
    (c.counted e sum n x k).mon.result = c.mon.result := by cases k <;> rfl

/-- What every judgement leaves: result state and counts, the result, and a new cycle in MONITORING without a window. -/
def Judged (s : State) (x : CycleResult) (result : ResultState) (low good : Nat) (t : State) : Prop :=
  t.core.mon.result = result ∧ t.core.mon.low = low ∧ t.core.mon.good = good
    ∧ t.core.mon.state = .monitoring ∧ t.core.mon.window = false ∧ t.core.mon.noResults = 0
    ∧ t.core.mon.polarity = .positive ∧ t.core.mon.timer = some s.env.cfg.halfPeriod
    ∧ t.core.mon.last = some x

/-- The end of the window after a decision that has left the monitor judged, but for its mark. -/
theorem judged_of_unmarked {s : State} {d : Core} (sum : Int) (n : Nat) {x : CycleResult} {k : ResultClass}
    {result : ResultState} {faultResult : Option CycleResult} (hm : s.core.mon.state = .monitoring)
    (hd : d.mon.unmarked = { (s.core.counted s.env sum n x k).mon with result, faultResult, mark := false }) :
    Judged s x result (moveCounts k s.core.mon).low (moveCounts k s.core.mon).good
      (afterBlocks s (closeWindow s.env (d.onMon Monitor.unmarked))) := by
  rw [Judged, afterBlocks, closeWindow_mon, Core.onMon_mon, hd]
  cases k <;> exact ⟨rfl, rfl, rfl, hm, rfl, rfl, rfl, rfl, rfl⟩

/-- PREHEAT and CHARGING are no states that a start condition moves (R24, R40). -/
theorem SessionState.moves_of_powered {x : SessionState} (h : x.powered = true) : x ≠ .attached ∧ x ≠ .closed := by
  cases x <;> simp_all [SessionState.powered]

section
variable {samples : List Int} {sum vPos : Int} {n v : Nat} {s : State} (h : EndsBusCycle samples sum vPos n v s)
  {r : RIso} (hr : r = resistance ((vPos - sum / n) / 2))
include h hr

/-- The decision at the expiry: the result is judged in the blocks that have counted it. -/
theorem EndsBusCycle.decides {k : ResultClass} {new : ResultState}
    (hk : classify r (s.env.cfg.warnOhms * v / 10000) (s.env.cfg.faultOhms * v / 10000) = k)
    (hnew : nextResult k (moveCounts k s.core.mon) = new) :
    decideHalf s.env (s.core.sampled sum n)
      = (setResult s.env new (s.core.counted s.env sum n (busResult s.env s.core r v) k)).onMon
          Monitor.unmarked := by
  have hnext : nextResult k (moveCounts k (s.core.sampled sum n).mon) = new := by
    rw [← hnew]
    cases k <;> rfl
  have hdec := decideHalf_judges (e := s.env) (c := s.core.sampled sum n)
    (Monitor.discarded_eq_false h.mark h.window h.positive) h.polarity h.vPos h.monitoring h.vBus hr hk
  rw [hnext] at hdec
  exact hdec

/-- A result that does not latch the FAULT changes the monitor alone, and its change to WARN posts the notice (R112,
R113). -/
theorem EndsBusCycle.judged {k : ResultClass} {new : ResultState} {low good : Nat}
    (hk : classify r (s.env.cfg.warnOhms * v / 10000) (s.env.cfg.faultOhms * v / 10000) = k)
    (hnew : nextResult k (moveCounts k s.core.mon) = new) (hne : new ≠ .fault)
    (hlow : (moveCounts k s.core.mon).low = low) (hgood : (moveCounts k s.core.mon).good = good) :
    Completes (.halfPeriodTimerExpiry samples) s fun t =>
      Judged s (busResult s.env s.core r v) new low good t ∧ t.core.session = s.core.session
        ∧ (new = .warn → s.core.mon.result ≠ .warn →
          hasBit t.core.notices.vehiclePending Notice.insulationWarn.code = true) := by
  subst hlow hgood
  obtain ⟨hmon, hses, hwarn⟩ := setResult_notFault (e := s.env)
    (c := s.core.counted s.env sum n (busResult s.env s.core r v) k) hne
  obtain ⟨hattached, hclosed⟩ := SessionState.moves_of_powered h.powered
  refine ⟨_, halfPeriod_done h.up (by rw [h.monitoring]; rfl) h.timer h.window h.sum h.count (h.decides hr hk hnew)
    (by simpa [hses] using hattached) (by simpa [hses] using hclosed), judged_of_unmarked sum n h.monitoring (congrArg Monitor.unmarked hmon), ?_,
    fun hw hold => ?_⟩
  · simp [afterBlocks, hses]
  · simpa [afterBlocks] using hwarn hw (by simpa using hold)

/-- The second LOW result in WARN with the contactor CLOSED: the FAULT is latched and posted to both masters, and the
session stops with its contactor opening, the heater OFF and nothing allocated (R112, R114). -/
theorem EndsBusCycle.latches
    (hk : classify r (s.env.cfg.warnOhms * v / 10000) (s.env.cfg.faultOhms * v / 10000) = .low)
    (hres : s.core.mon.result = .warn) (hcount : s.core.mon.low = 1)
    (hcont : s.core.session.contactor = .closed) (haux : s.env.mfe.aux.active = true) :
    Completes (.halfPeriodTimerExpiry samples) s fun t =>
      Judged s (busResult s.env s.core r v) .fault 2 0 t ∧ t.core.mon.faultResult = t.core.mon.last
        ∧ t.core.notices = enterNotice .sessionState (enterNotice .insulationFault s.core.notices)
        ∧ t.core.session = s.core.session.opening .insulationFault
        ∧ (∃ g : Heater, t.core.heater = g.off) ∧ t.core.alloc.record = AllocRecord.zero
        ∧ t.lines = linesOf t.core := by
  have hnew : nextResult .low (moveCounts .low s.core.mon) = .fault := by
    rw [nextResult_warn _ (by simpa using hres)]
    simp [moveCounts, hcount]
  have hset : setResult s.env .fault (s.core.counted s.env sum n (busResult s.env s.core r v) .low)
      = enterFault s.env (s.core.counted s.env sum n (busResult s.env s.core r v) .low) :=
    if_neg (by simp [hres])
  have hdec := h.decides hr hk hnew
  rw [hset] at hdec
  obtain ⟨hmon, hses, hrec, ⟨g, hheater⟩, hnotices⟩ := enterFault_opens (e := s.env)
    (c := s.core.counted s.env sum n (busResult s.env s.core r v) .low) (by simpa using h.powered) (by simpa using hcont)
    haux (by simpa using h.monitoring)
  have hstate : (enterFault s.env (s.core.counted s.env sum n (busResult s.env s.core r v) .low)).session.state
      = .stopping := by rw [hses]; rfl
  have hend := closeWindow_quiet (e := s.env) (c := (enterFault s.env
      (s.core.counted s.env sum n (busResult s.env s.core r v) .low)).onMon Monitor.unmarked)
    (by simp [hrec, AllocRecord.zero]) (by simp [hheater, Heater.off])
  have hcounts : (moveCounts .low s.core.mon).low = 2 ∧ (moveCounts .low s.core.mon).good = 0 := by
    simp [moveCounts, hcount]
  refine ⟨_, halfPeriod_done h.up (by rw [h.monitoring]; rfl) h.timer h.window h.sum h.count hdec (by simp [hstate])
    (by simp [hstate]), ?_, ?_, ?_, ?_, ⟨g, ?_⟩, ?_, rfl⟩
  · rw [← hcounts.1, ← hcounts.2]
    exact judged_of_unmarked sum n h.monitoring hmon
  · simp only [afterBlocks, closeWindow_mon, Core.onMon_mon, hmon]
  · simpa [afterBlocks] using hnotices
  · simpa [afterBlocks] using hses
  · simpa only [afterBlocks, hend, Core.onMon_heater] using hheater
  · simpa only [afterBlocks, hend, Core.onMon_alloc] using hrec

end

/-- What a command completes with may be said more weakly. -/
theorem Completes.imp {i : Instr} {s : State} {P Q : State → Prop} (h : Completes i s P) (hPQ : ∀ t, P t → Q t) :
    Completes i s Q := by
  obtain ⟨t, ht, hp⟩ := h
  exact ⟨t, ht, hPQ t hp⟩

/-- The lines while the contactor opens in STOPPING: no command and no contactor drive (R20, R36, R81). -/
theorem linesOf_opening {c : Core} (hs : c.session.state = .stopping) (hk : c.session.contactor = .opening) :
    (linesOf c).commandDuty = 0 ∧ (linesOf c).contactorDrive = false := by
  refine ⟨(linesOf_unpowered (by rw [hs]; rfl)).2, ?_⟩
  unfold linesOf
  split
  · rfl
  · simp [contactorDrive, hs, hk]

/-- Settles O45: each clause by the class of its result and the result state that follows from it. -/
theorem secondLowResultIsTheFault : Obligations.SecondLowResultIsTheFault := by
  intro samples sum vPos n v r warn fault s hu hp hm ht hw hmark hpol hpos hv hsum hn hn0 hr hwarn hfault judged
  subst hwarn hfault
  have h : EndsBusCycle samples sum vPos n v s := ⟨hu, hp, hm, ht, hw, hmark, hpol, hpos, hv, hsum, hn, hn0⟩
  refine ⟨fun hres => ?fresh, fun hres => ?warned⟩
  case fresh =>
    have hnew (k : ResultClass) := nextResult_fresh (m := moveCounts k s.core.mon) k (by simpa using hres)
    have hold : s.core.mon.result ≠ .warn := by rcases hres with hres | hres <;> rw [hres] <;> nofun
    refine ⟨fun hf hw => ?_, fun hf hw => ?_, fun hf => ?_⟩
    · exact (h.judged hr (classify_good hf hw) (new := .ok) (hnew _) nofun rfl rfl).imp
        fun t ⟨hjudged, hses, _⟩ => ⟨hjudged, hses⟩
    · exact (h.judged hr (classify_marginal hf hw) (new := .warn) (hnew _) nofun rfl rfl).imp
        fun t ⟨hjudged, hses, hposted⟩ => ⟨hjudged, hses, hposted rfl hold⟩
    · exact (h.judged hr (classify_low _ hf) (new := .warn) (hnew _) nofun rfl rfl).imp
        fun t ⟨hjudged, hses, hposted⟩ => ⟨hjudged, hses, hposted rfl hold⟩
  case warned =>
    have hnew (k : ResultClass) := nextResult_warn (m := moveCounts k s.core.mon) k (by simpa using hres)
    refine ⟨fun hf hw hlt => ?_, fun hf hw => ?_, fun hf hlow => ?_, fun hf hlow hk haux => ?_⟩
    · have hgood : (moveCounts .good s.core.mon).good = s.core.mon.good + 1 := Nat.min_eq_right hlt
      have hthird : nextResult .good (moveCounts .good s.core.mon) = if s.core.mon.good = 2 then .ok else .warn := by
        simp only [hnew, hgood, Nat.reduceEqDiff]
      exact (h.judged hr (classify_good hf hw) hthird (by split <;> nofun) rfl hgood).imp
        fun t ⟨hjudged, hses, _⟩ => ⟨hjudged, hses⟩
    · exact (h.judged hr (classify_marginal hf hw) (hnew _) nofun rfl rfl).imp
        fun t ⟨hjudged, hses, _⟩ => ⟨hjudged, hses⟩
    · have hfirst : (moveCounts .low s.core.mon).low = 1 := by simp [moveCounts, hlow]
      exact (h.judged hr (classify_low _ hf) (new := .warn) (by simp [hnew, hfirst]) nofun hfirst rfl).imp
        fun t ⟨hjudged, hses, _⟩ => ⟨hjudged, hses⟩
    · refine (h.latches hr (classify_low _ hf) hres hlow hk haux).imp
        fun t ⟨hjudged, hlatched, hnotices, hses, ⟨g, hheater⟩, hrec, hlines⟩ => ?_
      have hstate : t.core.session.state = .stopping := by rw [hses]; rfl
      have hopening : t.core.session.contactor = .opening := by rw [hses]; rfl
      obtain ⟨hduty, hdrive⟩ := linesOf_opening hstate hopening
      refine ⟨hjudged, hlatched, ?_, ?_, hstate, by rw [hses]; rfl, hopening, by rw [hses]; rfl, by rw [hheater]; rfl,
        by rw [hheater]; rfl, hrec, by rw [hlines, hduty], by rw [hlines, hdrive]⟩
      · rw [hnotices, hasBit_enterNotice_vehicle _ _ (by decide), hasBit_enterNotice_vehicle _ _ (by decide)]
        simp [vehicleRouted, Notice.code, hasBit]
      · rw [hnotices, hasBit_enterNotice_fleet _ _ (by decide), hasBit_enterNotice_fleet _ _ (by decide)]
        simp [fleetRouted, Notice.code, hasBit]

end Sys2Proof.Machine
end

section
/-! PROOFS. The lines of a record (R135, R137): what a credit does to their keys, their number and their energy. -/

namespace Sys2Proof.Machine

/-- The energy on a list of lines, in mWh. -/
def linesMwh (lines : List Line) : Nat := (lines.map (·.mwh)).sum

theorem BillingRecord.mwh_eq (r : BillingRecord) : r.mwh = linesMwh r.lines := rfl

@[simp] theorem linesMwh_nil : linesMwh [] = 0 := rfl

@[simp] theorem linesMwh_cons (l : Line) (lines : List Line) : linesMwh (l :: lines) = l.mwh + linesMwh lines := rfl

@[simp] theorem linesMwh_append (a b : List Line) : linesMwh (a ++ b) = linesMwh a + linesMwh b := by simp [linesMwh]

@[simp] theorem newLine_key (price : Nat) (k : LineKey) (mwh : Nat) : (newLine price k mwh).key = k := rfl

@[simp] theorem addTo_key (k : LineKey) (mwh : Nat) (l : Line) : (addTo k mwh l).key = l.key := by
  unfold addTo
  split <;> rfl

theorem hasLine_iff {lines : List Line} {k : LineKey} : hasLine lines k = true ↔ k ∈ lines.map Line.key := by
  simp [hasLine]

/-- The costs of a close leave keys and energies (R140). -/
theorem map_withCost_key (lines : List Line) : (lines.map withCost).map Line.key = lines.map Line.key := by
  rw [List.map_map]
  rfl

@[simp] theorem linesMwh_withCost (lines : List Line) : linesMwh (lines.map withCost) = linesMwh lines := by
  rw [linesMwh, List.map_map]
  rfl

/-! ### Energy added to a line that stands (R135, R137) -/

theorem map_addTo_key (k : LineKey) (mwh : Nat) (lines : List Line) :
    (lines.map (addTo k mwh)).map Line.key = lines.map Line.key := by
  rw [List.map_map]
  exact List.map_congr_left fun l _ => addTo_key k mwh l

/-- Lines of other keys gain nothing (R135). -/
theorem map_addTo_other {k : LineKey} {lines : List Line} (mwh : Nat) (h : k ∉ lines.map Line.key) :
    lines.map (addTo k mwh) = lines :=
  (List.map_congr_left fun _ hl => if_neg (ne_of_mem_of_not_mem (List.mem_map_of_mem hl) h)).trans (List.map_id' lines)

/-- The one line that bears the key gains the energy (R135). -/
theorem linesMwh_addTo {k : LineKey} {lines : List Line} (mwh : Nat) (hn : (lines.map Line.key).Nodup)
    (hk : k ∈ lines.map Line.key) : linesMwh (lines.map (addTo k mwh)) = linesMwh lines + mwh := by
  induction lines with
  | nil => simp at hk
  | cons l lines ih =>
    obtain ⟨hl, hn⟩ := List.nodup_cons.1 hn
    by_cases hlk : l.key = k
    · subst hlk
      rw [List.map_cons, map_addTo_other mwh hl, linesMwh_cons, linesMwh_cons, addTo, if_pos rfl]
      simp only
      omega
    · have hrest : k ∈ lines.map Line.key := (List.mem_cons.1 hk).resolve_left (Ne.symm hlk)
      rw [List.map_cons, linesMwh_cons, linesMwh_cons, ih hn hrest, addTo, if_neg hlk]
      omega

/-- What gains energy keeps its place and its key. -/
theorem modify_mwh_key (lines : List Line) (i mwh : Nat) :
    (lines.modify i fun l => { l with mwh := l.mwh + mwh }).map Line.key = lines.map Line.key := by
  induction lines generalizing i with
  | nil => cases i <;> rfl
  | cons l lines ih =>
    cases i with
    | zero => rfl
    | succ i => simp only [List.modify_succ_cons, List.map_cons, ih]

theorem linesMwh_modify {lines : List Line} {i : Nat} (mwh : Nat) (hi : i < lines.length) :
    linesMwh (lines.modify i fun l => { l with mwh := l.mwh + mwh }) = linesMwh lines + mwh := by
  induction lines generalizing i with
  | nil => simp at hi
  | cons l lines ih =>
    cases i with
    | zero =>
      simp only [List.modify_zero_cons, linesMwh_cons]
      omega
    | succ i =>
      simp only [List.modify_succ_cons, linesMwh_cons, ih (Nat.lt_of_succ_lt_succ hi)]
      omega

theorem addToLast_key (p : Line → Bool) (mwh : Nat) (lines : List Line) :
    (addToLast p mwh lines).map Line.key = lines.map Line.key := by
  unfold addToLast
  split
  · exact modify_mwh_key ..
  · rfl

/-- The energy goes to the last line of the kind sought, if there is one (R137). -/
theorem linesMwh_addToLast {p : Line → Bool} {lines : List Line} (mwh : Nat) (h : lines.any p = true) :
    linesMwh (addToLast p mwh lines) = linesMwh lines + mwh := by
  obtain ⟨l, hl, hp⟩ := List.any_eq_true.1 h
  have hsome : (lines.reverse.findIdx? p).isSome = true := by
    rw [List.findIdx?_isSome]
    exact List.any_eq_true.2 ⟨l, List.mem_reverse.2 hl, hp⟩
  obtain ⟨i, hi⟩ := Option.isSome_iff_exists.1 hsome
  have hpos : 0 < lines.length := List.length_pos_of_mem hl
  rw [addToLast, hi]
  exact linesMwh_modify mwh (by omega)

/-! ### One class credited (R135, R137) -/

/-- A credit keeps the keys apart. -/
theorem creditOne_nodup {lines : List Line} (price : Nat) (x : LineKey × Nat) (h : (lines.map Line.key).Nodup) :
    ((creditOne price lines x).map Line.key).Nodup := by
  unfold creditOne
  split
  · rwa [map_addTo_key]
  next hnew =>
    rw [hasLine_iff] at hnew
    rw [List.map_append]
    refine List.nodup_append.2 ⟨h, by simp, fun k hk _ hx hsame => hnew ?_⟩
    rwa [hsame, List.mem_singleton.1 hx, newLine_key] at hk

theorem creditOne_length (price : Nat) (lines : List Line) (x : LineKey × Nat) :
    (creditOne price lines x).length = lines.length + if hasLine lines x.1 then 0 else 1 := by
  unfold creditOne
  split <;> simp

/-- A credit takes no key away. -/
theorem hasLine_creditOne {lines : List Line} (price : Nat) (x : LineKey × Nat) {k : LineKey}
    (h : hasLine lines k = true) : hasLine (creditOne price lines x) k = true := by
  rw [hasLine_iff] at h ⊢
  unfold creditOne
  split
  · rwa [map_addTo_key]
  · rw [List.map_append]
    exact List.mem_append_left _ h

/-- A credit is the energy credited (R135). -/
theorem linesMwh_creditOne {lines : List Line} (price : Nat) (x : LineKey × Nat) (h : (lines.map Line.key).Nodup) :
    linesMwh (creditOne price lines x) = linesMwh lines + x.2 := by
  unfold creditOne
  split
  next hk => exact linesMwh_addTo x.2 h (hasLine_iff.1 hk)
  · rw [linesMwh_append]
    rfl

/-- A fold is the credit of a class while its line stands or a place remains, and else an addition to a line that
stands (R137). -/
theorem foldOne_cases (price : Nat) (lines : List Line) (x : LineKey × Nat) :
    ((hasLine lines x.1 = true ∨ lines.length < 24) ∧ foldOne price lines x = creditOne price lines x)
      ∨ ∃ p, lines.any p = true ∧ foldOne price lines x = addToLast p x.2 lines := by
  unfold foldOne
  split
  next h => exact .inl ⟨by simpa using h, rfl⟩
  next h =>
    split
    next hcls => exact .inr ⟨_, hcls, rfl⟩
    · refine .inr ⟨_, ?_, rfl⟩
      cases lines with
      | nil => simp at h
      | cons l lines => rfl

/-- A fold keeps a record within its bounds (R137). -/
theorem foldOne_fits {lines : List Line} (price : Nat) (x : LineKey × Nat) (h : LinesFit lines) :
    LinesFit (foldOne price lines x) := by
  obtain ⟨hlen, hnodup⟩ := h
  rcases foldOne_cases price lines x with ⟨hroom, heq⟩ | ⟨p, -, heq⟩
  · rw [heq]
    refine ⟨?_, creditOne_nodup price x hnodup⟩
    rw [creditOne_length]
    split
    · exact hlen
    · have := hroom.resolve_left ‹_›
      omega
  · rw [heq, LinesFit, addToLast_key]
    have hkeys := congrArg List.length (addToLast_key p x.2 lines)
    simp only [List.length_map] at hkeys
    exact ⟨by omega, hnodup⟩

/-- A fold is the energy folded (R137). -/
theorem linesMwh_foldOne {lines : List Line} (price : Nat) (x : LineKey × Nat) (h : (lines.map Line.key).Nodup) :
    linesMwh (foldOne price lines x) = linesMwh lines + x.2 := by
  rcases foldOne_cases price lines x with ⟨-, heq⟩ | ⟨p, hp, heq⟩
  · rw [heq, linesMwh_creditOne price x h]
  · rw [heq, linesMwh_addToLast x.2 hp]

/-! ### The classes of an interval (R135 to R137) -/

/-- The energies of an interval together, in mWh. -/
def energiesMwh (energies : List (LineKey × Nat)) : Nat := (energies.map Prod.snd).sum

/-- Further lines need no more new ones (R135). -/
theorem linesNeeded_le {lines more : List Line} (h : ∀ k, hasLine lines k = true → hasLine more k = true)
    (energies : List (LineKey × Nat)) : linesNeeded more energies ≤ linesNeeded lines energies := by
  have hfewer : ∀ x ∈ energies, (!hasLine more x.1) = true → (!hasLine lines x.1) = true := fun x _ hx => by
    simp only [Bool.not_eq_true'] at hx ⊢
    exact Bool.eq_false_iff.2 fun hk => Bool.false_ne_true (hx.symm.trans (h _ hk))
  simp only [linesNeeded, ← List.countP_eq_length_filter]
  exact List.countP_mono_left hfewer

theorem linesNeeded_le_length (lines : List Line) (energies : List (LineKey × Nat)) :
    linesNeeded lines energies ≤ energies.length := List.length_filter_le ..

/-- The credits of an interval keep the keys apart, need the new lines counted at most, and are its energies (R135). -/
theorem creditAll_credits {lines : List Line} (price : Nat) (energies : List (LineKey × Nat))
    (h : (lines.map Line.key).Nodup) :
    ((creditAll price lines energies).map Line.key).Nodup
      ∧ (creditAll price lines energies).length ≤ lines.length + linesNeeded lines energies
      ∧ linesMwh (creditAll price lines energies) = linesMwh lines + energiesMwh energies := by
  induction energies generalizing lines with
  | nil => exact ⟨h, by simp [creditAll], by simp [creditAll, energiesMwh]⟩
  | cons x energies ih =>
    obtain ⟨hnodup, hlen, hmwh⟩ := ih (creditOne_nodup price x h)
    have hfewer := linesNeeded_le (fun k => hasLine_creditOne price x (k := k)) (lines := lines) energies
    have hcount : linesNeeded lines (x :: energies)
        = linesNeeded lines energies + if hasLine lines x.1 then 0 else 1 := by
      cases hx : hasLine lines x.1 <;> simp [linesNeeded, hx]
    rw [creditOne_length] at hlen
    rw [linesMwh_creditOne price x h] at hmwh
    refine ⟨hnodup, ?_, ?_⟩
    · show (creditAll price (creditOne price lines x) energies).length ≤ _
      omega
    · show linesMwh (creditAll price (creditOne price lines x) energies) = _
      rw [hmwh, energiesMwh, energiesMwh, List.map_cons, List.sum_cons, Nat.add_assoc]

/-- An interval that needs no more than 24 lines keeps a record within its bounds (R135). -/
theorem creditAll_fits {lines : List Line} (price : Nat) {energies : List (LineKey × Nat)}
    (h : (lines.map Line.key).Nodup) (hroom : lines.length + linesNeeded lines energies ≤ 24) :
    LinesFit (creditAll price lines energies) := by
  obtain ⟨hnodup, hlen, -⟩ := creditAll_credits price energies h
  exact ⟨Nat.le_trans hlen hroom, hnodup⟩

/-- A folded interval keeps a record within its bounds, and is its energies (R137). -/
theorem foldAll_folds {lines : List Line} (price : Nat) (energies : List (LineKey × Nat)) (h : LinesFit lines) :
    LinesFit (foldAll price lines energies)
      ∧ linesMwh (foldAll price lines energies) = linesMwh lines + energiesMwh energies := by
  induction energies generalizing lines with
  | nil => exact ⟨h, by simp [foldAll, energiesMwh]⟩
  | cons x energies ih =>
    obtain ⟨hfits, hmwh⟩ := ih (foldOne_fits price x h)
    refine ⟨hfits, ?_⟩
    rw [linesMwh_foldOne price x h.2] at hmwh
    show linesMwh (foldAll price (foldOne price lines x) energies) = _
    rw [hmwh, energiesMwh, energiesMwh, List.map_cons, List.sum_cons, Nat.add_assoc]

/-- What is left out of an interval is no energy (R135). -/
theorem energiesMwh_creditable (energies : List (LineKey × Nat)) :
    energiesMwh (creditable energies) = energiesMwh energies := by
  induction energies with
  | nil => rfl
  | cons x energies ih =>
    have hcons : energiesMwh (x :: energies) = x.2 + energiesMwh energies := rfl
    by_cases hx : 1 ≤ x.2
    · have hkept : creditable (x :: energies) = x :: creditable energies := List.filter_cons_of_pos (by simpa using hx)
      rw [hkept, hcons, ← ih]
      rfl
    · have hleft : creditable (x :: energies) = creditable energies := List.filter_cons_of_neg (by simpa using hx)
      rw [hleft, ih, hcons]
      omega

theorem keyedEnergies_length (cfg : ConfigRecord) (m : Meter) (chg heat overhead : Nat) :
    (keyedEnergies cfg m chg heat overhead).length ≤ 3 := List.length_filter_le ..

theorem keyedEnergies_mwh (cfg : ConfigRecord) (m : Meter) (chg heat overhead : Nat) :
    energiesMwh (keyedEnergies cfg m chg heat overhead) = chg + heat + overhead := by
  rw [keyedEnergies, energiesMwh_creditable]
  simp [energiesMwh]
  omega

end Sys2Proof.Machine
end

section
/-! PROOFS. The lines of the open record (R135 to R139): what opens, closes, splits, credits and hands over the record,
and that every event of the blocks keeps its lines within bounds. -/

namespace Sys2Proof.Machine

/-- The lines of the open record of the blocks keep their bounds (R135). -/
structure Core.RecordFits (c : Core) : Prop where
  fits : c.meter.Fits

theorem Core.RecordFits.lines {c : Core} {o : OpenRecord} (h : c.RecordFits) (ho : c.meter.openRec = some o) :
    LinesFit o.record.lines := h.fits o ho

/-- What leaves the open record as it is keeps its bounds. -/
theorem Core.RecordFits.frame {c d : Core} (h : c.RecordFits) (hd : d.meter.openRec = c.meter.openRec) :
    d.RecordFits := by
  refine ⟨fun o ho => h.lines ?_⟩
  rw [← hd, ho]

/-- Whichever of two courses an event takes, each keeps the bounds. -/
theorem Core.RecordFits.ite {p : Prop} [Decidable p] {c d : Core} (hc : c.RecordFits) (hd : d.RecordFits) :
    (if p then c else d).RecordFits := by
  split
  · exact hc
  · exact hd

/-- Without an open record there are no lines. -/
theorem Core.recordFits_of_none {c : Core} (h : c.meter.openRec = none) : c.RecordFits :=
  ⟨fun _ ho => nomatch h.symm.trans ho⟩

/-- The bounds are those of the one open record. -/
theorem Core.recordFits_of_some {c : Core} {o : OpenRecord} (h : c.meter.openRec = some o)
    (hfits : LinesFit o.record.lines) : c.RecordFits := ⟨fun o' ho' => by
  cases h.symm.trans ho'
  exact hfits⟩

theorem LinesFit.nil : LinesFit [] := ⟨by simp, by simp⟩

theorem LinesFit.withCost {lines : List Line} (h : LinesFit lines) : LinesFit (lines.map withCost) := by
  rw [LinesFit, map_withCost_key, List.length_map]
  exact h

/-! ### What happens to the open record (R135 to R143) -/

/-- The record of a new session has no lines yet (R139). -/
theorem openRecord_recordFits (c : Core) : (openRecord c).RecordFits := Core.recordFits_of_some rfl LinesFit.nil

/-- A record handed over leaves no open record (R146). -/
theorem handOver_recordFits (e : Env) (r : BillingRecord) (c : Core) : (handOver e r c).RecordFits :=
  Core.recordFits_of_none (by simp [handOver])

/-- A continuation record has no lines yet (R136). -/
theorem splitRecord_recordFits (e : Env) (o : OpenRecord) (c : Core) : (splitRecord e o c).RecordFits :=
  Core.recordFits_of_some (o := { closeRequested := false, record := continuationOf c o.record })
    (by simp [splitRecord]) LinesFit.nil

/-- A record closed without lines has its zero line, and any other the lines it stood with (R139, R140). -/
theorem closeContent_fits (cfg : ConfigRecord) (m : Meter) (reason : RecordEnd) (faults : Half) {r : BillingRecord}
    (h : LinesFit r.lines) : LinesFit (closeContent cfg m reason faults r).lines := by
  show LinesFit ((if r.lines = [] then [zeroLine cfg m] else r.lines).map withCost)
  split
  · exact ⟨by simp, by simp⟩
  · exact h.withCost

/-- A running record keeps its bounds under what keeps those of its lines (R139). -/
theorem onRunningRecord_keeps {f : BillingRecord → BillingRecord} {c : Core} (h : c.RecordFits)
    (hf : ∀ o, c.meter.openRec = some o → LinesFit (f o.record).lines) : (onRunningRecord f c).RecordFits := by
  refine ⟨fun o' ho' => ?_⟩
  simp only [onRunningRecord, Core.onMeter_meter] at ho'
  split at ho'
  next o ho =>
    split at ho'
    · exact h.lines ho'
    · cases ho'
      exact hf o ho
  · exact h.lines ho'

section
variable {e : Env} {c : Core} (h : c.RecordFits)
include h

theorem post_recordFits (n : Notice) : (post n c).RecordFits := h.frame (by simp)

/-- A mark or a copy in the running record leaves its lines (R139). -/
theorem onRunningRecord_recordFits {f : BillingRecord → BillingRecord} (hf : ∀ r, (f r).lines = r.lines) :
    (onRunningRecord f c).RecordFits :=
  onRunningRecord_keeps h fun o ho => by
    rw [hf]
    exact h.lines ho

theorem copyFaults_recordFits : (copyFaults c).RecordFits := onRunningRecord_recordFits h fun _ => rfl

theorem addFault_recordFits (cause : StopCause) : (addFault cause c).RecordFits :=
  .ite h (copyFaults_recordFits (h.frame (by simp)))

theorem closeRecord_recordFits : (closeRecord e c).RecordFits := by
  unfold closeRecord
  split
  · exact h.frame (by simp)
  next o ho =>
    split
    · exact h
    · exact .ite (handOver_recordFits ..) (Core.recordFits_of_some rfl (closeContent_fits _ _ _ _ (h.lines ho)))

theorem closeRetained_recordFits : (closeRetained e c).RecordFits := by
  unfold closeRetained
  split
  · exact h
  next o ho =>
    exact .ite h (.ite (handOver_recordFits ..) (Core.recordFits_of_some rfl (closeContent_fits _ _ _ _ (h.lines ho))))

theorem roomReport_recordFits : (roomReport e c).RecordFits := by
  unfold roomReport
  split
  · exact h
  next o _ =>
    exact .ite h (.ite (handOver_recordFits ..) (.ite ((splitRecord_recordFits e o c).frame (by simp)) h))

theorem setLines_recordFits {lines : List Line} (folded : Bool) (hl : LinesFit lines) :
    (setLines lines folded c).RecordFits := onRunningRecord_keeps h fun _ _ => hl

/-- The credit of an interval of no more than 24 classes keeps the bounds, to the lines that stand, through a split, or
by folding (R135 to R137). -/
theorem creditInterval_recordFits {energies : List (LineKey × Nat)} (hn : energies.length ≤ 24) :
    (creditInterval e energies c).RecordFits := by
  unfold creditInterval
  split
  · exact h
  next o ho =>
    have hlines : LinesFit o.record.lines := h.lines ho
    have hfold := setLines_recordFits h true (foldAll_folds (currentPrice e.cfg c.meter) energies hlines).1
    have hneeded := linesNeeded_le_length [] energies
    simp only
    split
    next hroom => exact setLines_recordFits h false (creditAll_fits _ hlines.2 hroom)
    · refine .ite (setLines_recordFits (splitRecord_recordFits e o c) false (creditAll_fits _ (by simp) ?_))
        (.ite (.ite hfold (hfold.frame (by simp [enterHeld]))) hfold)
      rw [List.length_nil]
      omega

theorem meteringDue_recordFits : (meteringDue e c).RecordFits :=
  .ite (.ite (h.frame (by simp)) (creditInterval_recordFits (h.frame (by simp))
    (Nat.le_trans (keyedEnergies_length ..) (by decide)))) h

theorem setClock_recordFits (source : TimeSource) (t : Word) (offset : Option Int) :
    (setClock source t offset c).RecordFits :=
  .ite (post_recordFits (onRunningRecord_recordFits (h.frame (by simp)) fun _ => by rfl) _) (h.frame (by simp))

theorem checkSchedule_recordFits (version : Byte) (bands : List Band) :
    (checkSchedule e version bands c).RecordFits :=
  .ite (post_recordFits h _) (.ite (.ite h (post_recordFits h _))
    (post_recordFits (onRunningRecord_recordFits (h.frame (by simp)) fun _ => by rfl) _))

theorem takeTariff_recordFits (version : Byte) (index count start price : Nat) :
    (takeTariff e version index count start price c).RecordFits := by
  refine .ite (h.frame (by simp)) ?_
  simp only
  split
  · exact checkSchedule_recordFits (h.frame (by simp)) ..
  · exact h.frame (by simp)

theorem settleMode_recordFits (st : AuthState) (mode : AuthMode) : (settleMode st mode c).RecordFits :=
  onRunningRecord_recordFits (h.frame (by simp)) fun _ => rfl

theorem lateAccept_recordFits : (lateAccept c).RecordFits :=
  post_recordFits (onRunningRecord_recordFits (h.frame (by simp)) fun _ => by rfl) _

/-! ### The stop sequence (R32 to R37) -/

theorem enterClosed_recordFits : (enterClosed e c).RecordFits := by
  have hclosed := closeRecord_recordFits (e := e) (c := monitorOnClosed e (authOnClosed
    ((changeState e .closed c).onSession fun s => { s with closePending := true }))) (h.frame (by simp))
  exact hclosed.frame (by simp [enterClosed])

theorem confirmOpen_recordFits : (confirmOpen e c).RecordFits := enterClosed_recordFits (h.frame (by simp))

theorem beginOpening_recordFits : (beginOpening c).RecordFits := h.frame (by simp [beginOpening])

theorem openContactor_recordFits : (openContactor e c).RecordFits :=
  .ite (beginOpening_recordFits h) (confirmOpen_recordFits (beginOpening_recordFits h))

theorem startOpening_recordFits (cause : StopCause) : (startOpening e cause c).RecordFits := by
  unfold startOpening
  split
  · exact enterClosed_recordFits h
  · exact beginOpening_recordFits h
  · exact .ite (openContactor_recordFits h) (h.frame (by simp))
  · exact h

theorem enterStopping_recordFits (cause : StopCause) : (enterStopping e cause c).RecordFits := by
  have hcopied : (copyFaults (c.onSession fun s => { s with endReason := some cause })).RecordFits :=
    copyFaults_recordFits (h.frame (by simp))
  exact startOpening_recordFits (hcopied.frame (by simp)) cause

theorem stopCause_recordFits (cause : StopCause) : (stopCause e cause c).RecordFits := by
  have hadd := addFault_recordFits h cause
  unfold stopCause
  split
  case h_1 | h_2 | h_3 | h_4 => exact enterStopping_recordFits h cause
  case h_5 => exact .ite (openContactor_recordFits hadd) hadd
  case h_6 | h_7 | h_8 => exact h

theorem converterFault_recordFits : (converterFault e c).RecordFits := stopCause_recordFits (h.frame (by simp)) _

/-- The copy of SUPPLY-LOSS into a record whose stop sequence the supply cuts leaves its lines (R139, R190). -/
theorem cutStop_recordFits : (cutStop c).RecordFits := .ite (addFault_recordFits h _) h

/-! ### Contactor, authorization and start (R24 to R28, R48 to R54) -/

theorem auxChanged_recordFits (now : Bool) : (auxChanged e now c).RecordFits := by
  unfold auxChanged
  split
  · exact .ite (h.frame (by simp)) h
  · exact .ite h (stopCause_recordFits h _)
  · exact .ite h (confirmOpen_recordFits h)
  · exact h

theorem energizeIfReady_recordFits : (energizeIfReady e c).RecordFits :=
  .ite (.ite (stopCause_recordFits (h.frame (by simp)) _) (h.frame (by simp))) h

theorem reportGrant_recordFits : (reportGrant e c).RecordFits := .ite (energizeIfReady_recordFits (h.frame (by simp))) h

theorem reportTestPassed_recordFits : (reportTestPassed e c).RecordFits :=
  .ite (energizeIfReady_recordFits (h.frame (by simp))) h

theorem reportTestFailed_recordFits : (reportTestFailed e c).RecordFits := stopCause_recordFits (h.frame (by simp)) _

theorem grant_recordFits (st : AuthState) (mode : AuthMode) : (grant e st mode c).RecordFits :=
  reportGrant_recordFits ((settleMode_recordFits h st mode).frame (by simp))

theorem refuse_recordFits (cause : StopCause) : (refuse e cause c).RecordFits :=
  stopCause_recordFits (h.frame (by simp)) _

theorem offlineDecision_recordFits : (offlineDecision e c).RecordFits := by
  unfold offlineDecision
  split
  · exact refuse_recordFits h _
  · exact .ite (grant_recordFits (h.frame (by simp)) _ _) (refuse_recordFits (h.frame (by simp)) _)

theorem decideAtEntry_recordFits : (decideAtEntry e c).RecordFits :=
  .ite (grant_recordFits h _ _) (.ite (offlineDecision_recordFits h) (h.frame (by simp)))

theorem takeVerdict_recordFits (number : Half) (echo : Tag) (verdict : Byte) :
    (takeVerdict e number echo verdict c).RecordFits := by
  refine .ite ?_ h
  split
  · exact .ite (grant_recordFits (h.frame (by simp)) _ _) (refuse_recordFits h _)
  · exact .ite (lateAccept_recordFits h) (refuse_recordFits h _)
  all_goals exact h

theorem evaluateStart_recordFits : (evaluateStart e c).RecordFits := by
  have hopened := openRecord_recordFits
    ((changeState e .authorizing (c.onSession Session.begin)).onAuth (fixIdentity e))
  exact .ite (decideAtEntry_recordFits (hopened.frame (by simp))) h

theorem leaveClosed_recordFits : (leaveClosed e c).RecordFits :=
  .ite (.ite (h.frame (by simp)) (.ite (evaluateStart_recordFits (h.frame (by simp))) h)) h

theorem conclude_recordFits : (conclude e c).RecordFits := leaveClosed_recordFits (evaluateStart_recordFits h)

/-! ### Sets, inputs and requests at the session (R1, R16 to R18, R21, R41, R190) -/

theorem sessionTakeSet_recordFits (stopping : Bool) : (sessionTakeSet stopping e c).RecordFits := by
  unfold sessionTakeSet
  split
  case h_1 => exact .ite (evaluateStart_recordFits (h.frame (by simp))) h
  case h_2 => exact .ite (h.frame (by simp)) (evaluateStart_recordFits h)
  case h_3 | h_4 | h_5 | h_6 => exact .ite (stopCause_recordFits h _) (h.frame (by simp))
  case h_7 => exact .ite (stopCause_recordFits h _) (.ite (openContactor_recordFits h) h)
  case h_8 => exact h

theorem takeSupply_recordFits : (takeSupply e c).RecordFits := by
  unfold takeSupply
  split
  · exact h
  · exact .ite (.ite (h.frame (by simp)) h) (.ite (stopCause_recordFits (h.frame (by simp)) _) h)

theorem deliverSet_recordFits (stopping : Bool) : (deliverSet stopping e c).RecordFits := by
  have hses : (if c.active then sessionTakeSet stopping e c else c).RecordFits :=
    .ite (sessionTakeSet_recordFits h _) h
  exact takeSupply_recordFits (hses.frame (by simp))

theorem reviewAux_recordFits (was : Bool) : (reviewAux was e c).RecordFits := .ite h (auxChanged_recordFits h _)

theorem windowFault_recordFits : (windowFault e c).RecordFits := .ite (converterFault_recordFits h) h

theorem windowDeliveries_recordFits (wasAux : Bool) (faults : Byte) (first : Bool) :
    (windowDeliveries wasAux faults first e c).RecordFits := by
  have haux : (reviewAux wasAux e (postSensorFault faults c)).RecordFits :=
    reviewAux_recordFits (h.frame (by simp)) _
  exact conclude_recordFits (.ite (deliverSet_recordFits (windowFault_recordFits haux) _)
    (windowFault_recordFits (deliverSet_recordFits haux _)))

theorem deliverOffer_recordFits (before : Nat) (valid : Bool) : (deliverOffer before valid e c).RecordFits := by
  have hfall : (if 0 < before ∧ e.mfe.offer = 0 then allocate true e c else c).RecordFits :=
    .ite (h.frame (by simp)) h
  exact .ite h (conclude_recordFits (hfall.frame (by simp)))

theorem inputChanged_recordFits (d : DigitalInput) (wasAux event : Bool) :
    (inputChanged d wasAux event e c).RecordFits := by
  unfold inputChanged
  split
  · exact conclude_recordFits (reviewAux_recordFits h _)
  · exact .ite (conclude_recordFits (converterFault_recordFits h)) h
  · exact h

theorem takeRelease_recordFits : (takeRelease e c).RecordFits := by
  unfold takeRelease
  split
  case h_1 | h_2 | h_3 | h_4 => exact stopCause_recordFits h _
  case h_5 => exact stopCause_recordFits (h.frame (by simp)) _
  all_goals exact h.frame (by simp)

theorem takeRequest_recordFits (r : ChargeRequest) : (takeRequest e r c).RecordFits := by
  have hreq : (c.onSession fun s => { s with request := some r, requestTimer := some 1000 }).RecordFits :=
    h.frame (by simp)
  exact .ite (takeRelease_recordFits hreq) (hreq.frame (by simp))

theorem releaseReset_recordFits : (releaseReset e c).RecordFits := by
  unfold releaseReset
  split
  case h_1 | h_2 | h_3 => exact h.frame (by simp)
  all_goals exact stopCause_recordFits (h.frame (by simp)) _

/-! ### Timers of the session (R22, R27, R31, R35, R36, R53) -/

theorem closeTimeout_recordFits : (closeTimeout e c).RecordFits :=
  .ite (conclude_recordFits (stopCause_recordFits (h.frame (by simp)) _)) h

theorem weldFound_recordFits : (weldFound e c).RecordFits :=
  confirmOpen_recordFits (addFault_recordFits (h.frame (by simp)) _)

theorem openTimeout_recordFits : (openTimeout e c).RecordFits :=
  .ite (conclude_recordFits (.ite (weldFound_recordFits h) (confirmOpen_recordFits h))) h

theorem waitTimeout_recordFits : (waitTimeout e c).RecordFits :=
  .ite (conclude_recordFits (openContactor_recordFits h)) h

theorem pauseTimeout_recordFits : (pauseTimeout e c).RecordFits :=
  .ite (conclude_recordFits (stopCause_recordFits h _)) h

theorem requestTimeout_recordFits : (requestTimeout e c).RecordFits :=
  .ite (conclude_recordFits (h.frame (by simp))) h

theorem authTimeout_recordFits : (authTimeout e c).RecordFits :=
  .ite (.ite (conclude_recordFits (offlineDecision_recordFits (h.frame (by simp)))) (h.frame (by simp))) h

/-! ### The insulation monitor (R108 to R117) -/

theorem failTest_recordFits : (failTest e c).RecordFits := by
  have hfail : (reportTestFailed e (leaveMeasuring e .inoperative c)).RecordFits :=
    reportTestFailed_recordFits (h.frame (by simp))
  exact .ite (hfail.frame rfl) hfail

theorem passTest_recordFits : (passTest e c).RecordFits :=
  .ite (h.frame (by simp [endStarting])) (reportTestPassed_recordFits (h.frame (by simp)))

theorem judgeTest_recordFits (r : RIso) : (judgeTest e r c).RecordFits :=
  .ite (.ite (passTest_recordFits (h.frame (by simp))) (h.frame (by simp))) (failTest_recordFits h)

theorem setResult_recordFits (new : ResultState) : (setResult e new c).RecordFits := by
  refine .ite h ?_
  split
  case h_1 =>
    have hstop := stopCause_recordFits (e := e) (c := reportFall (commandLine c) (post .insulationFault
      (c.onMon fun m => { m with result := .fault, faultResult := m.last }))) (h.frame (by simp)) .insulationFault
    exact hstop.frame (by simp [enterFault])
  all_goals exact h.frame (by simp)

theorem judgeBus_recordFits (r : RIso) : (judgeBus e r c).RecordFits := by
  unfold judgeBus
  split
  · exact h
  · exact setResult_recordFits (h.frame (by simp)) _

theorem endWithoutResult_recordFits : (endWithoutResult e c).RecordFits := by
  refine .ite (h.frame (by simp)) ?_
  split
  · exact failTest_recordFits h
  all_goals exact reportTestFailed_recordFits (h.frame (by simp))

theorem takeResult_recordFits (r : RIso) : (takeResult e r c).RecordFits := by
  unfold takeResult
  split
  · exact judgeTest_recordFits (h.frame (by simp)) _
  all_goals exact judgeBus_recordFits (h.frame (by simp)) _

theorem acceptHalf_recordFits : (acceptHalf e c).RecordFits := by
  unfold acceptHalf
  simp only
  split
  · exact h.frame (by simp)
  · exact h.frame (by simp)
  · exact takeResult_recordFits (h.frame (by simp)) _

theorem decideHalf_recordFits : (decideHalf e c).RecordFits :=
  .ite (.ite (h.frame (by simp)) (endWithoutResult_recordFits (h.frame (by simp))))
    ((acceptHalf_recordFits (e := e) h).frame rfl)

theorem halfPeriodEnd_recordFits (samples : List Int) : (halfPeriodEnd samples e c).RecordFits := by
  have hdecide : (decideHalf e (c.onMon (takeSamples samples))).RecordFits := decideHalf_recordFits (h.frame (by simp))
  exact .ite (conclude_recordFits (hdecide.frame (by simp))) h

/-! ### Messages of the post (R156 to R158) -/

theorem deliverVerdict_recordFits (number : Half) (echo : Tag) (verdict : Byte) :
    (deliverVerdict number echo verdict e c).RecordFits := conclude_recordFits (takeVerdict_recordFits h ..)

theorem deliverStop_recordFits : (deliverStop e c).RecordFits := conclude_recordFits (stopCause_recordFits h _)

theorem deliver_recordFits (k : PostKind) (content : List Byte) : (deliver k content e c).RecordFits :=
  deliver_keeps h (fun _ => h.frame (by simp)) (fun _ _ _ => deliverVerdict_recordFits h ..)
    (fun _ _ _ _ _ => takeTariff_recordFits h ..) (fun _ _ => setClock_recordFits h ..) (deliverStop_recordFits h)
    k content

theorem takeSegment_recordFits (k : PostKind) (segByte : Byte) (bytes : List Byte) :
    (takeSegment k segByte bytes e c).RecordFits := by
  unfold takeSegment
  simp only
  split
  · exact .ite (deliver_recordFits (h.frame (by simp)) _ _) (h.frame (by simp))
  · exact h.frame (by simp)

theorem receiveFrame_recordFits (f : CanFrame) : (receiveFrame f e c).RecordFits := by
  refine .ite ?_ h
  split
  · exact takeSegment_recordFits h ..
  · exact h

end

/-! ### Every event, every move, every step -/

theorem BlockEvent.recordFits {f : Env → Core → Core} (hf : BlockEvent f) {e : Env} {c : Core}
    (h : c.RecordFits) : (f e c).RecordFits := by
  cases hf with
  | window => exact windowDeliveries_recordFits h ..
  | offer => exact deliverOffer_recordFits h ..
  | input => exact inputChanged_recordFits h ..
  | closeTimeout => exact closeTimeout_recordFits h
  | openTimeout => exact openTimeout_recordFits h
  | waitTimeout => exact waitTimeout_recordFits h
  | pauseTimeout => exact pauseTimeout_recordFits h
  | requestTimeout => exact requestTimeout_recordFits h
  | authTimeout => exact authTimeout_recordFits h
  | halfPeriod => exact halfPeriodEnd_recordFits h _
  | metering => exact meteringDue_recordFits h
  | frame => exact receiveFrame_recordFits h _
  | verdict => exact deliverVerdict_recordFits (h.frame (by simp)) ..
  | tariff => exact takeTariff_recordFits (h.frame (by simp)) ..
  | time => exact setClock_recordFits (h.frame (by simp)) ..
  | stopMessage => exact deliverStop_recordFits (h.frame (by simp))
  | chargeRequest r => exact conclude_recordFits (takeRequest_recordFits h r)
  | stopRequest => exact conclude_recordFits (stopCause_recordFits h _)
  | config => exact conclude_recordFits h
  | resetRelease => exact conclude_recordFits (releaseReset_recordFits h)
  | clearLatches | driverTag | clearFault => exact conclude_recordFits (h.frame (by simp))
  | draw | attemptStart | allocation | slot | quietOpen | powerLimit | aliveTimeout | postLimitTimeout | status
  | messageTimeout | attemptEnd | sleepRefused => exact h.frame (by simp)

theorem AlwaysEvent.recordFits {f : Env → Core → Core} (hf : AlwaysEvent f) {e : Env} {c : Core}
    (h : c.RecordFits) : (f e c).RecordFits := by
  cases hf with
  | release => exact conclude_recordFits (roomReport_recordFits (h.frame (by simp)))
  | setTime => exact setClock_recordFits h ..
  | supplyReset => exact (cutStop_recordFits h).frame (by simp)
  | tick => exact .ite (h.frame (by simp)) h
  | notices | spendCap | allowList | loseRetention | resetPin => exact h.frame (by simp)

/-- Every move keeps the lines; a reset that keeps the record closes it (R143), a COLD one leaves none. -/
theorem Core.Move.recordFits {c d : Core} (hm : Core.Move c d) (h : c.RecordFits) : d.RecordFits := by
  cases hm with
  | block _ hf _ => exact hf.recordFits h
  | always _ _ hf => exact hf.recordFits h
  | sleep => exact h.frame rfl
  | wake => exact h.frame (by simp [Core.awake])
  | cold => exact Core.recordFits_of_none rfl
  | leaveReset _ e kind => exact closeRetained_recordFits (c := c.retained e.cfg.halfPeriod kind) (h.frame rfl)

/-- Settles O60: every step moves the blocks by events, and each keeps the lines of the open record. -/
theorem stepsKeepTheLinesOfTheRecord : Obligations.StepsKeepTheLinesOfTheRecord :=
  fun _ _ h hstep => ((step_moves hstep).keeps (P := Core.RecordFits) (fun _ _ hm hc => hm.recordFits hc) ⟨h⟩).fits

end Sys2Proof.Machine
end

section
/-! PROOFS. The running record (R139), the time counter (R127 to R130), the post limit (R160) and the spend cap
(R141). -/

namespace Sys2Proof.Machine

/-! ### The running record (R139) -/

/-- A change of an open record while its close has not been requested (R139). -/
def OpenRecord.changed (f : BillingRecord → BillingRecord) (o : OpenRecord) : OpenRecord :=
  if o.closeRequested = true then o else { o with record := f o.record }

/-- A running record changes and nothing else of the meter does (R139). -/
theorem onRunningRecord_meter (f : BillingRecord → BillingRecord) (c : Core) :
    (onRunningRecord f c).meter = { c.meter with openRec := c.meter.openRec.map (OpenRecord.changed f) } := by
  simp only [onRunningRecord, Core.onMeter_meter]
  split
  next o ho =>
    rw [ho, Option.map_some, OpenRecord.changed]
    split
    · rw [← ho]
    · rfl
  next ho => rw [ho, Option.map_none, ← ho]

theorem onRunningRecord_eq (f : BillingRecord → BillingRecord) (c : Core) :
    onRunningRecord f c
      = { c with meter := { c.meter with openRec := c.meter.openRec.map (OpenRecord.changed f) } } := by
  rw [← onRunningRecord_meter]
  rfl

theorem OpenRecord.changed_running {o : OpenRecord} (f : BillingRecord → BillingRecord)
    (h : o.closeRequested = false) : o.changed f = { o with record := f o.record } := by simp [OpenRecord.changed, h]

/-! ### Notices of the fleet master (R178) -/

theorem enterNotice_fleet {n : Notice} {b : Half} (u : Notices) (hv : bit 16 n.code &&& vehicleRouted = 0#16)
    (hf : bit 16 n.code &&& fleetRouted = b) :
    enterNotice n u = { u with fleetPending := u.fleetPending ||| b } := by
  rw [enterNotice, hv, hf, BitVec.or_zero]

theorem enterNotice_scheduleChanged (u : Notices) :
    enterNotice .scheduleChanged u = { u with fleetPending := u.fleetPending ||| 0x0400 } :=
  enterNotice_fleet u (by decide) (by decide)

theorem enterNotice_scheduleRejected (u : Notices) :
    enterNotice .scheduleRejected u = { u with fleetPending := u.fleetPending ||| 0x0800 } :=
  enterNotice_fleet u (by decide) (by decide)

/-- TIME-STEP is posted to the fleet master alone (R130, R178). -/
theorem enterNotice_timeStep (u : Notices) :
    hasBit (enterNotice .timeStep u).fleetPending Notice.timeStep.code = true
      ∧ (enterNotice .timeStep u).vehiclePending = u.vehiclePending := by
  constructor
  · rw [hasBit_enterNotice_fleet _ _ (by decide)]
    simp [fleetRouted, Notice.code, hasBit]
  · rw [enterNotice_fleet u (by decide) rfl]

/-! ### The time counter (R127 to R130) -/

theorem isStep_iff {m : Meter} {t : Word} :
    isStep m t = true ↔ m.timeValid = true ∧ (t.toNat + 60 < m.time.toNat ∨ m.time.toNat + 60 < t.toNat) := by
  simp only [isStep, distance, Bool.and_eq_true]
  exact and_congr_right fun _ => decide_eq_true_iff.trans (by omega)

/-- The meter with its counter set (R127). -/
def Meter.timed (source : TimeSource) (t : Word) (offset : Option Int) (m : Meter) : Meter :=
  { m with
    time := t
    timeValid := true
    source
    offset := (offset.map (clampInt (-720) 840)).getD m.offset }

/-- A set within 60 s of a valid time, or of no valid time, is no step (R130). -/
theorem setClock_stays {source : TimeSource} {t : Word} {offset : Option Int} {c : Core}
    (h : isStep c.meter t = false) : setClock source t offset c = { c with meter := c.meter.timed source t offset } := by
  rw [setClock, h]
  rfl

/-- A step is posted and marked on a running record (R130). -/
theorem setClock_steps {source : TimeSource} {t : Word} {offset : Option Int} {c : Core}
    (h : isStep c.meter t = true) : setClock source t offset c = { c with
      meter := { c.meter.timed source t offset with
        openRec := c.meter.openRec.map (OpenRecord.changed fun r => { r with timeStep := true }) }
      notices := enterNotice .timeStep c.notices } := by
  rw [setClock, h, if_pos rfl, onRunningRecord_eq]
  rfl

/-- Settles O49: the messages of the post by their effects, a set of the counter by whether it is a step. -/
theorem postLimitTimeAndTick : Obligations.PostLimitTimeAndTick := by
  intro limit w offset s
  refine ⟨fun hu => ?_, fun hu hnear => ?_, fun hu hvalid hfar => ?_, fun hruns => ?_, fun hheld hlost => ?_⟩
  · refine (State.event_done _ hu).trans ?_
    have hlimit : clampNat 0 2200 limit.toNat = min 2200 limit.toNat := Nat.max_eq_right (Nat.zero_le _)
    simp only [takePowerLimit, hlimit]
    rfl
  · have hstay : isStep (messageArrives .time s.core).meter w = false := Bool.eq_false_iff.2 fun hstep => by
      obtain ⟨hvalid, hfar⟩ := isStep_iff.1 hstep
      have := hnear hvalid
      simp only [messageArrives_meter] at hfar
      omega
    refine (State.event_done _ hu).trans ?_
    simp only [setClock_stays hstay]
    cases offset <;> rfl
  · have hstep : isStep (messageArrives .time s.core).meter w = true :=
      isStep_iff.2 (by simpa using ⟨hvalid, hfar⟩)
    obtain ⟨hposted, hvehicle⟩ := enterNotice_timeStep s.core.notices
    refine ⟨_, State.event_done _ hu, ?_⟩
    simp only [setClock_steps hstep]
    refine ⟨rfl, ?_, rfl, rfl, hposted, hvehicle⟩
    cases offset <;> rfl
  · have hticks : tick s.core = { s.core with meter := { s.core.meter with time := s.core.meter.time + 1 } } :=
      if_pos (by rcases hruns with h | h <;> simp [Core.timeRuns, h])
    show State.done (s.onCore tick) = _
    rw [State.done_eq, State.onCore, hticks]
    rfl
  · have hstands : tick s.core = s.core := if_neg (by cases h : s.core.sup.held <;> simp_all [Core.timeRuns])
    show State.done (s.onCore tick) = _
    rw [State.done_eq, State.onCore, hstands]
    rfl

/-- Settles O32: the operands, then a set of the counter by whether it is a step. -/
theorem fleetSetsTimeAndCap : Obligations.FleetSetsTimeAndCap := by
  intro q w n s h hn
  have htime : timeOperand (le 4 w.toNat) = some (w, none) := by
    show some (BitVec.ofNat 32 (leVal (le 4 w.toNat)), none) = _
    rw [leVal_le4, BitVec.ofNat_toNat, BitVec.setWidth_eq]
  have hcap : capOperand (le 4 n) = some n := by
    show some (leVal (le 4 n)) = _
    rw [leVal_le, Nat.mod_eq_of_lt (by simpa using hn)]
  have hfits (k : Byte) (v : Nat) : FrameFits k q (le 4 v) := frameFits_of_short _ _ (by simp)
  refine ⟨fun howned => ?_, fun howned => ?_, ?_⟩
  · refine fleetRequest_done h (hfits _ _) ?_
    simp only [ownSetTime, withOperand, htime, State.onFport_core, howned, if_true]
    rfl
  · refine ⟨_, fleetRequest_done (core := setClock .fleet w none s.core) (status := .ok) (content := []) h
      (hfits _ _) ?_, ?_⟩
    · simp only [ownSetTime, withOperand, htime, State.onFport_core, howned]
      rfl
    · cases hstep : isStep s.core.meter w with
      | true =>
        obtain ⟨hvalid, hfar⟩ := isStep_iff.1 hstep
        rw [setClock_steps hstep]
        refine ⟨rfl, rfl, rfl, rfl, fun _ _ => ⟨(enterNotice_timeStep _).1, fun o ho hrun => ?_⟩,
          fun hnot => absurd ⟨hvalid, hfar⟩ hnot⟩
        show s.core.meter.openRec.map _ = _
        rw [ho, Option.map_some, OpenRecord.changed_running _ hrun]
      | false =>
        rw [setClock_stays hstep]
        exact ⟨rfl, rfl, rfl, rfl, fun hvalid hfar => absurd (isStep_iff.2 ⟨hvalid, hfar⟩) (by simp [hstep]),
          fun _ => ⟨rfl, rfl⟩⟩
  · refine fleetRequest_done h (hfits _ _) ?_
    simp only [ownSetSpendCap, withOperand, hcap, okOrClamped, decide_eq_true_eq]
    rfl

end Sys2Proof.Machine
end

section
/-! PROOFS. Tariff schedules (R133, R134): what a message stages, and what becomes of a complete schedule. -/

namespace Sys2Proof.Machine

/-! ### The check and the staging area (R133, R134) -/

theorem ascending_iff (l : List Nat) : ascending l = true ↔ l.Pairwise (· < ·) := by
  induction l with
  | nil => simp [ascending]
  | cons a rest ih =>
    cases rest with
    | nil => simp [ascending]
    | cons b rest =>
      rw [ascending, Bool.and_eq_true, decide_eq_true_eq, ih]
      refine ⟨fun ⟨hab, hrest⟩ => .cons (fun x hx => ?_) hrest, fun hall => ?_⟩
      · rcases List.mem_cons.1 hx with rfl | hx
        · exact hab
        · exact Nat.lt_trans hab (List.rel_of_pairwise_cons hrest hx)
      · exact ⟨List.rel_of_pairwise_cons hall List.mem_cons_self, hall.of_cons⟩

theorem schedulePasses_iff {bands : List Band} : schedulePasses bands = true
    ↔ (bands.map (·.start)).head? = some 0 ∧ (bands.map (·.start)).Pairwise (· < ·) := by
  rw [schedulePasses, Bool.and_eq_true, beq_iff_eq, ascending_iff]

theorem tariffMalformed_iff {index count start : Nat} : tariffMalformed index count start = true
    ↔ count < 1 ∨ 6 < count ∨ count ≤ index ∨ 1439 < start := by
  simp [tariffMalformed, or_assoc]

/-- A staging area with every band is complete, with these bands (R133). -/
theorem completeBands_map_some (bands : List Band) : completeBands (bands.map some) = some bands := by
  simp [completeBands, List.filterMap_map]

/-- A staging area without a band is not complete (R133). -/
theorem completeBands_of_none {l : List (Option Band)} (h : none ∈ l) : completeBands l = none :=
  if_neg fun hall => by simpa using List.all_eq_true.1 hall none h

/-- One band leaves a new staging area of several incomplete (R133). -/
theorem none_mem_set_replicate {count index : Nat} (b : Band) (h : 2 ≤ count) :
    none ∈ (List.replicate count (none : Option Band)).set index (some b) := by
  have hother : ∃ j, j < count ∧ index ≠ j := by
    rcases Nat.eq_zero_or_pos index with hi | hi
    · exact ⟨1, by omega, by omega⟩
    · exact ⟨0, by omega, by omega⟩
  obtain ⟨j, hj, hne⟩ := hother
  have hlen : j < ((List.replicate count (none : Option Band)).set index (some b)).length := by simpa using hj
  have hget : ((List.replicate count (none : Option Band)).set index (some b))[j] = none := by
    rw [List.getElem_set_ne hne, List.getElem_replicate]
  exact List.mem_of_getElem hget

/-- A staging area of one band is complete with that band, whatever it held (R133). -/
theorem stagingFor_one_set (version : Byte) (st : Option Staging) (x : Option Band) :
    (stagingFor version 1 st).bands.set 0 x = [x] := by
  have hlen : (stagingFor version 1 st).bands.length = 1 := by
    unfold stagingFor
    split
    · split
      next h =>
        simp only [Bool.and_eq_true, decide_eq_true_eq] at h
        exact h.2
      · rfl
    · rfl
  obtain ⟨y, hy⟩ := List.length_eq_one_iff.1 hlen
  rw [hy]
  rfl

theorem stagingFor_continues {version : Byte} {staged : List (Option Band)} :
    stagingFor version staged.length (some { version, bands := staged }) = { version, bands := staged } := by
  simp [stagingFor]

section
variable {e : Env} {version : Byte} {index count start price : Nat} {c : Core}

theorem takeTariff_malformed (h : tariffMalformed index count start = true) :
    takeTariff e version index count start price c
      = { c with
          meter := { c.meter with staging := none }
          notices := { c.notices with fleetPending := c.notices.fleetPending ||| 0x0800 } } := by
  rw [takeTariff, if_pos h, rejectSchedule, post, Core.onNotices, Core.onMeter_notices, enterNotice_scheduleRejected]
  rfl

theorem takeTariff_stages (h : tariffMalformed index count start = false) (hc : 2 ≤ count)
    (hs : c.meter.staging = none) :
    takeTariff e version index count start price c
      = { c with meter := { c.meter with
          staging := some
            { version, bands := (List.replicate count none).set index (some { start, price }) } } } := by
  have hnone := completeBands_of_none (none_mem_set_replicate (index := index) { start, price } hc)
  simp only [takeTariff, h, Bool.false_eq_true, if_false, hs, stagingFor, hnone]
  rfl

/-- The message that completes a schedule has it checked (R133, R134). -/
theorem takeTariff_completes {bands : List Band} (h : tariffMalformed index count start = false)
    (hb : (stagingFor version count c.meter.staging).bands.set index (some { start, price }) = bands.map some) :
    takeTariff e version index count start price c
      = checkSchedule e version bands { c with meter := { c.meter with staging := none } } := by
  simp only [takeTariff, h, Bool.false_eq_true, if_false, hb, completeBands_map_some]
  rfl

end

/-- The bands that complete a schedule, alone or in a staging area that holds the others (R133). -/
theorem stagingFor_completed {version : Byte} {index count : Nat} {st : Option Staging} {b : Band} {bands : List Band}
    (hi : index < count)
    (h : (count = 1 ∧ bands = [b]) ∨ ∃ staged : List (Option Band),
      st = some { version, bands := staged } ∧ staged.length = count
        ∧ staged.set index (some b) = bands.map some) :
    (stagingFor version count st).bands.set index (some b) = bands.map some := by
  rcases h with ⟨hone, hbands⟩ | ⟨staged, hst, hlen, hset⟩
  · subst hone hbands
    obtain rfl : index = 0 := by omega
    rw [stagingFor_one_set]
    rfl
  · rw [hst, ← hlen, stagingFor_continues]
    exact hset

/-- A schedule that fails its check, or comes again with other bands, is rejected (R134). -/
theorem rejectSchedule_eq (c : Core) : rejectSchedule c
    = { c with notices := { c.notices with fleetPending := c.notices.fleetPending ||| 0x0800 } } := by
  rw [rejectSchedule, post, Core.onNotices, enterNotice_scheduleRejected]

/-- A schedule of a new version that passes its check is activated, posted and marked on a running record (R134). -/
theorem checkSchedule_activates {e : Env} {version : Byte} {bands : List Band} {c : Core}
    (hp : schedulePasses bands = true) (hv : version ≠ c.meter.schedule.version) :
    checkSchedule e version bands c
      = { c with
          meter := { c.meter with
            schedule := .posted version bands
            openRec := c.meter.openRec.map (OpenRecord.changed fun r => { r with scheduleChanged := true }) }
          notices := { c.notices with fleetPending := c.notices.fleetPending ||| 0x0400 } } := by
  simp only [checkSchedule, hp, Bool.not_true, Bool.false_eq_true, if_false, hv]
  rw [post, Core.onNotices, onRunningRecord_eq, enterNotice_scheduleChanged]
  rfl

/-- Settles O47: a message is malformed, is staged, or completes a schedule, which is then checked. -/
theorem tariffMessagesAreStagedOrRejected : Obligations.TariffMessagesAreStagedOrRejected := by
  intro version index count start price s hu
  have hdone : exec (.tariff version index count start price) s = .next (afterBlocks s
      (takeTariff s.env version index.toNat count.toNat start.toNat price.toNat (messageArrives .tariff s.core))) :=
    State.event_done _ hu
  have hwell (h1 : 1 ≤ count.toNat) (h6 : count.toNat ≤ 6) (hi : index.toNat < count.toNat)
      (hs : start.toNat ≤ 1439) : tariffMalformed index.toNat count.toNat start.toNat = false :=
    Bool.eq_false_iff.2 fun hm => by
      have := tariffMalformed_iff.1 hm
      omega
  refine ⟨fun hbad => ?_, fun h2 h6 hi hs hst => ?_, fun bands _ h1 h6 hi hs hcomplete => ?_⟩
  · rw [hdone, takeTariff_malformed (tariffMalformed_iff.2 hbad)]
    rfl
  · rw [hdone, takeTariff_stages (hwell (by omega) h6 hi hs) h2 (by simpa using hst)]
    rfl
  · intro heard rejected
    have hchecked : exec (.tariff version index count start price) s
        = .next (afterBlocks s (checkSchedule s.env version bands heard)) := by
      rw [hdone, takeTariff_completes (hwell h1 h6 hi hs) (stagingFor_completed hi (by simpa using hcomplete))]
      rfl
    refine ⟨fun hfails => ?_, fun hhead hasc => ⟨fun hsame => ?_, fun hnew => ?_⟩⟩
    · have hp : schedulePasses bands = false := Bool.eq_false_iff.2 fun hp => hfails (schedulePasses_iff.1 hp)
      rw [hchecked, checkSchedule, hp, Bool.not_false, if_pos rfl, rejectSchedule_eq]
    · have hp := schedulePasses_iff.2 ⟨hhead, hasc⟩
      have hv : version = heard.meter.schedule.version := hsame
      simp only [hchecked, checkSchedule, hp, Bool.not_true, Bool.false_eq_true, if_false, if_pos hv,
        rejectSchedule_eq]
      rfl
    · have hp := schedulePasses_iff.2 ⟨hhead, hasc⟩
      refine ⟨_, hchecked, ?_⟩
      rw [checkSchedule_activates hp (c := heard) hnew]
      refine ⟨rfl, rfl, rfl, rfl, fun o ho hrun => ?_⟩
      show s.core.meter.openRec.map _ = _
      rw [ho, Option.map_some, OpenRecord.changed_running _ hrun]

end Sys2Proof.Machine
end

section
/-! PROOFS. The reset pin, the supply comparator and the retention supply (R184, R190). -/

namespace Sys2Proof.Machine

/-- Outside a stop sequence, in a reset, and after a stop for SUPPLY-LOSS, the fall of the supply cuts nothing (R190,
log 47). -/
theorem cutStop_same {c : Core} (h : c.sup.held.isSome = true ∨ c.session.state ≠ .stopping
    ∨ c.session.endReason = some .supplyLoss) : cutStop c = c := by
  unfold cutStop
  split
  next hcut =>
    simp only [Bool.and_eq_true, beq_iff_eq, Option.isNone_iff_eq_none] at hcut
    obtain ⟨hheld, hstop⟩ := hcut
    rcases h with h | h | h
    · simp [hheld] at h
    · exact absurd hstop h
    · exact if_pos h
  · rfl

/-- A stop sequence that the supply cuts has SUPPLY-LOSS among its faults-seen, copied into its record (R139, R190). -/
theorem cutStop_cuts {c : Core} {r : StopCause} (hh : c.sup.held = none) (hs : c.session.state = .stopping)
    (hr : c.session.endReason = some r) (hne : r ≠ .supplyLoss) :
    cutStop c = { c with
      session := { c.session with faultsSeen := c.session.faultsSeen ||| bit 16 StopCause.supplyLoss.code }
      meter := { c.meter with openRec := c.meter.openRec.map (OpenRecord.changed fun record =>
        { record with
          endReason := some (.cause r)
          faultsSeen := c.session.faultsSeen ||| bit 16 StopCause.supplyLoss.code }) } } := by
  have hadd : cutStop c = addFault .supplyLoss c := if_pos (by simp [hh, hs])
  have hnew : ¬ c.session.endReason = some .supplyLoss := by simpa [hr] using hne
  rw [hadd, addFault, if_neg hnew, copyFaults, onRunningRecord_eq]
  simp only [Core.onSession, hr, Option.map_some]

/-- Settles O52: each event of pin and supplies by what it finds held. -/
theorem resetsHoldThePart : Obligations.ResetsHoldThePart := by
  intro s
  have hsupply : exec .supplyHeldReset s = (s.onCore fun c => takeReset .supply (cutStop c)).done := rfl
  refine ⟨fun hheld => ?_, fun hheld => ?_, fun h => ?_, fun r hheld hstop hr hne => ?_, rfl⟩
  · have hpin : resetPin s.core = takeReset .pin s.core := if_neg (by simp [hheld])
    show State.done (s.onCore resetPin) = _
    rw [State.done_eq, State.onCore, hpin]
    rfl
  · have hpin : resetPin s.core = s.core := if_pos hheld
    show State.done (s.onCore resetPin) = _
    rw [State.done_eq, State.onCore, hpin]
    rfl
  · rw [hsupply, State.done_eq, State.onCore, cutStop_same h]
    rfl
  · rw [hsupply, State.done_eq, State.onCore, cutStop_cuts hheld hstop hr hne]
    rfl

end Sys2Proof.Machine
end

section
/-! PROOFS. The energy of a metering interval (R124 to R126) and of the lines that take it (R135 to R137). -/

namespace Sys2Proof.Machine

/-! ### The shares of an interval (R125, R126) -/

/-- The charge and heat shares take no more than the interval's energy: their powers together are no more than what it
is divided by (R125). -/
theorem classShares_le (p : IntervalPowers) : classShare p p.heat + classShare p p.batt ≤ intervalEnergy p := by
  calc classShare p p.heat + classShare p p.batt
      ≤ (intervalEnergy p * p.heat + intervalEnergy p * p.batt) / max p.pIn (p.heat + p.batt) :=
        Nat.div_add_div_le_add_div ..
    _ ≤ intervalEnergy p := Nat.div_le_of_le_mul <| by
        rw [← Nat.mul_add, Nat.mul_comm]
        exact Nat.mul_le_mul_right _ (Nat.le_max_right ..)

theorem shares_sum (p : IntervalPowers) : (shares p).1 + (shares p).2.1 + (shares p).2.2 = intervalEnergy p := by
  have := classShares_le p
  simp only [shares]
  omega

theorem intervalPowers_pIn (m : Mfe) :
    (intervalPowers m).pIn = ((m.published.map MeasurementSet.pIn).getD 0).toNat := by
  unfold intervalPowers
  split <;> simp [*]

/-! ### The energy held (R124, R140) -/

/-- The energy on the records of the queue and the held position, in mWh. -/
def ExportQueue.mwh (q : ExportQueue) : Nat := (q.queue.map (·.mwh)).sum + (q.held.map (·.mwh)).getD 0

theorem Core.mwhHeld_eq (c : Core) : c.mwhHeld = (c.meter.openRec.map (·.record.mwh)).getD 0 + c.queue.mwh :=
  Nat.add_assoc ..

theorem Core.mwhHeld_of_some {c : Core} {o : OpenRecord} (h : c.meter.openRec = some o) :
    c.mwhHeld = linesMwh o.record.lines + c.queue.mwh := by
  rw [Core.mwhHeld_eq, h]
  rfl

theorem Core.mwhHeld_congr {c d : Core} (hm : d.meter.openRec = c.meter.openRec) (hq : d.queue = c.queue) :
    d.mwhHeld = c.mwhHeld := by rw [Core.mwhHeld, Core.mwhHeld, hm, hq]

/-- A record placed where there is room displaces none (R146). -/
theorem ExportQueue.mwh_place {q : ExportQueue} (r : BillingRecord) (h : q.room = true) :
    (q.place r).mwh = q.mwh + r.mwh := by
  unfold ExportQueue.place
  split
  · simp only [ExportQueue.mwh, List.map_append, List.sum_append, List.map_cons, List.map_nil, List.sum_cons,
      List.sum_nil]
    omega
  next hfull =>
    have hfree : q.held = none := by simpa [ExportQueue.room, hfull] using h
    simp [ExportQueue.mwh, hfree]

/-! ### The credit of an interval (R135 to R137) -/

/-- The lines of a running record are replaced, and no other energy changes. -/
theorem setLines_mwhHeld {lines : List Line} {folded : Bool} {c : Core} {o : OpenRecord}
    (ho : c.meter.openRec = some o) (hrun : o.closeRequested = false) :
    (setLines lines folded c).mwhHeld = linesMwh lines + c.queue.mwh := by
  have hset : (setLines lines folded c).meter.openRec
      = some { o with record := { o.record with lines, folded := o.record.folded || folded } } := by
    rw [setLines, onRunningRecord_meter]
    simp only [ho, Option.map_some, OpenRecord.changed_running _ hrun]
  rw [Core.mwhHeld_of_some hset, setLines_queue]

@[simp] theorem enterHeld_mwhHeld (e : Env) (c : Core) : (enterHeld e c).mwhHeld = c.mwhHeld :=
  Core.mwhHeld_congr (by simp [enterHeld]) (by simp)

/-- A split carries the lines of the record into the queue, and leaves a continuation record without any (R136). -/
theorem splitRecord_splits (e : Env) (o : OpenRecord) {c : Core} (hr : c.queue.room = true) :
    (splitRecord e o c).queue.mwh = c.queue.mwh + linesMwh o.record.lines
      ∧ (splitRecord e o c).meter
        = { c.meter with openRec := some { closeRequested := false, record := continuationOf c o.record } } := by
  constructor
  · rw [splitRecord, placeRecord_queue, Core.onMeter_queue, ExportQueue.mwh_place _ hr, BillingRecord.mwh_eq]
    exact congrArg (_ + ·) (linesMwh_withCost o.record.lines)
  · rw [splitRecord, placeRecord_meter]
    rfl

/-- The credit changes the open record and HELD, and nothing else of the meter (R135 to R137). -/
theorem creditInterval_meter (e : Env) (energies : List (LineKey × Nat)) (c : Core) :
    ∃ r held, (creditInterval e energies c).meter = { c.meter with openRec := r, held } := by
  have hset (lines : List Line) (folded : Bool) (d : Core) :
      ∃ r, (setLines lines folded d).meter = { d.meter with openRec := r } :=
    ⟨_, onRunningRecord_meter _ d⟩
  unfold creditInterval
  split
  · exact ⟨c.meter.openRec, c.meter.held, rfl⟩
  next o _ =>
    obtain ⟨credited, hcredit⟩ := hset (creditAll (currentPrice e.cfg c.meter) o.record.lines energies) false c
    obtain ⟨folded, hfold⟩ := hset (foldAll (currentPrice e.cfg c.meter) o.record.lines energies) true c
    simp only
    split
    · exact ⟨credited, c.meter.held, hcredit⟩
    · split
      next hsplit =>
        obtain ⟨fresh, hfresh⟩ :=
          hset (creditAll (currentPrice e.cfg c.meter) [] energies) false (splitRecord e o c)
        have hroom : c.queue.room = true := by simp_all
        rw [(splitRecord_splits e o hroom).2] at hfresh
        exact ⟨fresh, c.meter.held, hfresh⟩
      · split
        · split
          · exact ⟨folded, c.meter.held, hfold⟩
          · exact ⟨folded, true, by simp [enterHeld, hfold]⟩
        · exact ⟨folded, c.meter.held, hfold⟩

/-- The energies credited to a running record join what is held, in lines that stand and new ones, through a split, or
folded (R135 to R137). -/
theorem creditInterval_mwhHeld {e : Env} {energies : List (LineKey × Nat)} {c : Core} {o : OpenRecord}
    (ho : c.meter.openRec = some o) (hrun : o.closeRequested = false) (hl : LinesFit o.record.lines) :
    (creditInterval e energies c).mwhHeld = c.mwhHeld + energiesMwh energies := by
  have hheld := Core.mwhHeld_of_some ho
  have hfold : (setLines (foldAll (currentPrice e.cfg c.meter) o.record.lines energies) true c).mwhHeld
      = c.mwhHeld + energiesMwh energies := by
    rw [setLines_mwhHeld ho hrun, (foldAll_folds _ energies hl).2, hheld]
    omega
  unfold creditInterval
  rw [ho]
  simp only
  split
  · rw [setLines_mwhHeld ho hrun, (creditAll_credits _ energies hl.2).2.2, hheld]
    omega
  · split
    next hsplit =>
      have hroom : c.queue.room = true := by simp_all
      obtain ⟨hqueue, hmeter⟩ := splitRecord_splits e o hroom
      rw [setLines_mwhHeld (congrArg Meter.openRec hmeter) rfl, (creditAll_credits _ energies (by simp)).2.2, hqueue,
        linesMwh_nil, hheld]
      omega
    · split
      · split
        · exact hfold
        · rw [enterHeld_mwhHeld, hfold]
      · exact hfold

/-! ### The metering interval (R124 to R126) -/

/-- An interval with the contactor not OPEN: what its whole mWh leave of each class's energy remains, and the rest is on
the lines (R125, R126). -/
theorem meterInterval_conserves {e : Env} {c : Core} {o : OpenRecord} (ho : c.meter.openRec = some o)
    (hrun : o.closeRequested = false) (hl : LinesFit o.record.lines) :
    3600 * (meterInterval e c).mwhHeld + (meterInterval e c).meter.remainders
        = 3600 * c.mwhHeld + c.meter.remainders + (intervalPowers e.mfe).pIn * 100
      ∧ (meterInterval e c).meter.remCharge < 3600 ∧ (meterInterval e c).meter.remHeat < 3600
      ∧ (meterInterval e c).meter.remOverhead < 3600
      ∧ (meterInterval e c).meter.energy = addEnergy c.meter.energy ((intervalPowers e.mfe).pIn * 100)
      ∧ (meterInterval e c).meter.timer = c.meter.timer := by
  have hsum : (shares (intervalPowers e.mfe)).1 + (shares (intervalPowers e.mfe)).2.1
      + (shares (intervalPowers e.mfe)).2.2 = (intervalPowers e.mfe).pIn * 100 := shares_sum _
  unfold meterInterval
  simp only
  generalize hsh : shares (intervalPowers e.mfe) = sh at hsum ⊢
  obtain ⟨batt, heat, rest⟩ := sh
  generalize hd : (c.onMeter fun m => { m with
    energy := addEnergy m.energy (intervalEnergy (intervalPowers e.mfe))
    remCharge := (c.meter.remCharge + batt) % 3600
    remHeat := (c.meter.remHeat + heat) % 3600
    remOverhead := (c.meter.remOverhead + rest) % 3600 }) = d
  have hopen : d.meter.openRec = some o := by rw [← hd]; exact ho
  have hheld : d.mwhHeld = c.mwhHeld := by rw [← hd]; rfl
  obtain ⟨r, held, hmeter⟩ := creditInterval_meter e (keyedEnergies e.cfg c.meter
    ((c.meter.remCharge + batt) / 3600) ((c.meter.remHeat + heat) / 3600) ((c.meter.remOverhead + rest) / 3600)) d
  rw [creditInterval_mwhHeld hopen hrun hl, keyedEnergies_mwh, hmeter, hheld]
  subst hd
  refine ⟨?_, Nat.mod_lt _ (by decide), Nat.mod_lt _ (by decide), Nat.mod_lt _ (by decide), rfl, rfl⟩
  simp only [Meter.remainders, Core.onMeter_meter] at hsum ⊢
  omega

/-- Settles O46: the interval's energy goes to the lines and the remainders, and with the contactor OPEN the timer alone
restarts. -/
theorem meteringConservesEnergy : Obligations.MeteringConservesEnergy := by
  intro s hu ht
  have hdone : exec .meteringTimerExpiry s = .next (afterBlocks s (meteringDue s.env s.core)) :=
    State.event_done meteringDue hu
  refine ⟨fun hopened => ?_, fun o p hk ho hrun hl hp => ⟨_, hdone, ?_⟩⟩
  · rw [hdone, meteringDue, if_pos ht]
    simp only [hopened, if_true]
    rfl
  · have hdue : meteringDue s.env s.core
        = meterInterval s.env (s.core.onMeter fun m => { m with timer := some 100 }) := by
      rw [meteringDue, if_pos ht]
      exact if_neg hk
    rw [hdue, hp, ← intervalPowers_pIn]
    obtain ⟨hconserved, hcharge, hheat, hoverhead, henergy, htimer⟩ :=
      meterInterval_conserves (e := s.env) (c := s.core.onMeter fun m => { m with timer := some 100 }) ho hrun hl
    exact ⟨htimer, hconserved, hcharge, hheat, hoverhead, fun hwide => henergy.trans (if_pos hwide)⟩

end Sys2Proof.Machine
end

section
/-! PROOFS. The timers of the charge link (R159, R160, R164): the post unheard, the post limit gone stale, the STATUS of
every second. -/

namespace Sys2Proof.Machine

/-- LINK-LOST is routed to both masters (R178). -/
theorem enterNotice_linkLost (u : Notices) : enterNotice .linkLost u
    = { u with vehiclePending := u.vehiclePending ||| 0x0020, fleetPending := u.fleetPending ||| 0x0020 } := by
  have hv : bit 16 Notice.linkLost.code &&& vehicleRouted = 0x0020 := by decide
  have hf : bit 16 Notice.linkLost.code &&& fleetRouted = 0x0020 := by decide
  rw [enterNotice, hv, hf]

/-- An ALIVE post that is not heard for the time of the timer is LOST, and both masters are told (R159). -/
theorem aliveTimeout_loses {c : Core} (ht : c.link.aliveTimer.isSome = true) (ha : c.link.state = .alive) :
    aliveTimeout c = { c with
      link := { c.link with state := .lost, aliveTimer := none }
      notices := { c.notices with
        vehiclePending := c.notices.vehiclePending ||| 0x0020
        fleetPending := c.notices.fleetPending ||| 0x0020 } } := by
  simp only [aliveTimeout, ht, if_true, loseLink, ha, beq_self_eq_true, post, Core.onNotices,
    enterNotice_linkLost]
  rfl

/-- A message placed in a slot that sends nothing waits there alone (R161). -/
theorem placeIn_idle {s : TxSlot} (m : TxMessage) (h : s.state ≠ .sending) :
    placeIn m s = TxSlot.waitingWith m := by
  unfold placeIn
  cases hs : s.state with
  | empty | waiting => rfl
  | sending => exact absurd hs h

/-- Out of IDLE the status timer places a STATUS of the blocks as they stand, and restarts (R164, R165). -/
theorem statusDue_places {e : Env} {c : Core} (hu : c.up = true) (ht : c.link.statusTimer.isSome = true)
    (hp : c.sup.power = .active) (hs : c.session.state ≠ .idle) (hidle : c.link.status.state ≠ .sending) :
    statusDue e c = { c with
      drawn := c.drawn + 1
      link := { c.link with
        statusTimer := some 1000
        status := TxSlot.waitingWith
          { ident := identOf 16 e.cfg.ownAddress, content := statusCore e c, next := 0, timer := some 500 } } } := by
  have hactive : c.active = true := by
    rw [Core.up, Bool.and_eq_true] at hu
    simp [Core.active, hu.1, hp]
  simp only [statusDue, ht, hactive, bne_iff_ne.2 hs, Bool.and_self, if_true, placeStatus, placeMessage, Core.onLink,
    Link.slot, placeIn_idle _ hidle]
  rfl

/-- Settles O50: each timer by what its expiry does to the link. -/
theorem linkTimersExpire : Obligations.LinkTimersExpire := by
  intro s hu
  refine ⟨fun ht ha => ?_, fun ht => ?_, fun ht hp hs hidle => ?_⟩
  · refine (State.event_done (fun _ => aliveTimeout) hu).trans ?_
    rw [aliveTimeout_loses ht ha]
  · have hstale : postLimitTimeout s.core = stalePostLimit s.core := if_pos ht
    refine (State.event_done (fun _ => postLimitTimeout) hu).trans ?_
    rw [hstale]
    rfl
  · refine (State.event_done statusDue hu).trans ?_
    rw [statusDue_places hu ht hp hs hidle]
    rfl

end Sys2Proof.Machine
end

section
/-! PROOFS. The transmit slots (R161 to R163): which slot an attempt serves, what its end leaves in the slot, and what
becomes of a message whose 500 ms are over. -/

namespace Sys2Proof.Machine

/-! ### Which slot is served (R162) -/

/-- The bus is free for an attempt exactly when no slot is SENDING. -/
theorem Link.idle_iff {l : Link} : l.idle = true ↔ ∀ k, (l.slot k).state ≠ .sending := by
  simp only [Link.idle, txOrder, List.all_cons, List.all_nil, Bool.and_true, Bool.and_eq_true, bne_iff_ne]
  refine ⟨fun h k => ?_, fun h => ⟨h _, h _, h _⟩⟩
  obtain ⟨hstatus, hrequest, hsummary⟩ := h
  cases k with
  | status => exact hstatus
  | authRequest => exact hrequest
  | sessionSummary => exact hsummary

/-- The first waiting slot is the one with a message that waits while no slot of a lower code does. -/
theorem Link.firstWaiting_eq {l : Link} {k : TxKind} (hw : (l.slot k).state = .waiting)
    (hm : (l.slot k).message.isSome = true) (hlow : ∀ j, TxCode j < TxCode k → (l.slot j).state ≠ .waiting) :
    l.firstWaiting = some k := by
  have hpass (j : TxKind) (hj : TxCode j < TxCode k) :
      ((l.slot j).state == .waiting && (l.slot j).message.isSome) = false := by
    rw [beq_eq_false_iff_ne.2 (hlow j hj), Bool.false_and]
  have htake : ((l.slot k).state == .waiting && (l.slot k).message.isSome) = true := by
    rw [hw, hm]
    rfl
  cases k with
  | status => simp only [Link.firstWaiting, txOrder, List.find?_cons, htake]
  | authRequest => simp only [Link.firstWaiting, txOrder, List.find?_cons, hpass .status (by decide), htake]
  | sessionSummary =>
    simp only [Link.firstWaiting, txOrder, List.find?_cons, hpass .status (by decide),
      hpass .authRequest (by decide), htake]

/-- The slot that is SENDING is found where it is the only one. -/
theorem Link.sendingKind_eq {l : Link} {k : TxKind} (hs : (l.slot k).state = .sending)
    (hother : ∀ j, j ≠ k → (l.slot j).state ≠ .sending) : l.sendingKind = some k := by
  cases hfound : l.sendingKind with
  | none =>
    have hnone := List.find?_eq_none.1 hfound k (by cases k <;> decide)
    exact absurd (beq_iff_eq.2 hs) hnone
  | some j =>
    have hj : (l.slot j).state = .sending :=
      beq_iff_eq.1 (List.find?_some (p := fun k => (l.slot k).state == .sending) hfound)
    exact congrArg some (Classical.byContradiction fun hne => hother j hne hj)

/-- An attempt on a free bus puts the next segment of the first waiting slot on it (R162). -/
theorem startAttempt_serves {l : Link} {k : TxKind} {m : TxMessage} (hidle : l.idle = true)
    (hfirst : l.firstWaiting = some k) (hm : (l.slot k).message = some m) :
    startAttempt l
      = { (l.setSlot k { l.slot k with state := .sending }) with onBus := some (segmentFrame m) } := by
  simp only [startAttempt, hidle, hfirst, if_true, hm, Option.map_some]

/-! ### Abandonment (R161, R163) -/

/-- LINK-TX-FAIL is routed to the vehicle master alone and names the kind of the message (R163, R178). -/
theorem postTxFail_eq (k : TxKind) (c : Core) : postTxFail k c
    = { c with notices := { c.notices with
        vehiclePending := c.notices.vehiclePending ||| 0x0040
        txKinds := c.notices.txKinds ||| bit 8 (TxCode k) } } := by
  have hv : bit 16 Notice.linkTxFail.code &&& vehicleRouted = 0x0040 := by decide
  have hf : bit 16 Notice.linkTxFail.code &&& fleetRouted = 0#16 := by decide
  rw [postTxFail, Core.onNotices, enterNotice, hv, hf, BitVec.or_zero]

/-- A waiting message whose 500 ms are over leaves its slot (R163). -/
theorem expireCurrent_waiting {k : TxKind} {c : Core} {m : TxMessage} (hm : (c.link.slot k).message = some m)
    (ht : m.timer.isSome = true) (hw : (c.link.slot k).state = .waiting) :
    expireCurrent k c = postTxFail k { c with link := c.link.setSlot k TxSlot.empty } := by
  simp only [expireCurrent, hm, Option.isNone_eq_false_iff.2 ht, Bool.false_eq_true, if_false, hw]
  rfl

/-- A message on the bus whose 500 ms are over keeps its slot until its attempt ends (R163). -/
theorem expireCurrent_sending {k : TxKind} {c : Core} {m : TxMessage} (hm : (c.link.slot k).message = some m)
    (ht : m.timer.isSome = true) (hs : (c.link.slot k).state = .sending) :
    expireCurrent k c
      = { c with link := c.link.setSlot k { c.link.slot k with message := some { m with timer := none } } } := by
  simp only [expireCurrent, hm, Option.isNone_eq_false_iff.2 ht, Bool.false_eq_true, if_false, hs, Core.onLink]

/-- A successor whose 500 ms are over is abandoned at once (R161). -/
theorem expireSuccessor_abandons {k : TxKind} {c : Core} (h : (c.link.slot k).successor.isSome = true) :
    expireSuccessor k c
      = postTxFail k { c with link := c.link.setSlot k { c.link.slot k with successor := none } } := by
  have hstands : ¬ (c.link.slot k).successor.isNone = true := by rw [← Option.not_isSome, h]; decide
  exact if_neg hstands

/-! ### The end of an attempt (R161 to R163) -/

theorem lastSegment_iff {m : TxMessage} : lastSegment m = true ↔ m.next + 1 = segmentCount m.content :=
  beq_iff_eq

/-- An acknowledged last segment ends its message, even after its 500 ms. -/
theorem endAttempt_sent (slot : TxSlot) {m : TxMessage} (hlast : m.next + 1 = segmentCount m.content) :
    endAttempt .acknowledged slot m = (afterMessage slot, false) := by
  rw [endAttempt, lastSegment_iff.2 hlast]
  rfl

theorem acknowledgedLast_eq_false {o : TxOutcome} {m : TxMessage}
    (h : o ≠ .acknowledged ∨ m.next + 1 ≠ segmentCount m.content) :
    (o == .acknowledged && lastSegment m) = false := by
  rw [Bool.and_eq_false_iff, beq_eq_false_iff_ne, ← Bool.not_eq_true, lastSegment_iff]
  exact h

/-- Any other end of an attempt abandons a message whose 500 ms are over. -/
theorem endAttempt_abandoned {o : TxOutcome} (slot : TxSlot) {m : TxMessage} (ht : m.timer = none)
    (hopen : o ≠ .acknowledged ∨ m.next + 1 ≠ segmentCount m.content) :
    endAttempt o slot m = (afterMessage slot, true) := by
  rw [endAttempt, acknowledgedLast_eq_false hopen, ht]
  rfl

/-- Any other end of an attempt puts a message that is not replaced back to WAITING, behind an acknowledged segment. -/
theorem endAttempt_waits {o : TxOutcome} {slot : TxSlot} {m : TxMessage} (ht : m.timer.isSome = true)
    (hopen : o ≠ .acknowledged ∨ m.next + 1 ≠ segmentCount m.content) (hr : slot.replaced = false) :
    endAttempt o slot m = ({ slot with
      state := .waiting
      message := some (if o = .acknowledged then { m with next := m.next + 1 } else m) }, false) := by
  simp only [endAttempt, acknowledgedLast_eq_false hopen, Option.isNone_eq_false_iff.2 ht, hr, Bool.false_eq_true,
    if_false, beq_iff_eq]

/-- A slot without a successor is EMPTY behind its message (R161). -/
theorem afterMessage_alone {slot : TxSlot} (h : slot.successor = none) : afterMessage slot = TxSlot.empty := by
  rw [afterMessage, h]

/-- The end of the attempt under way frees the bus, leaves the slot as `endAttempt` says and posts an abandonment. -/
theorem finishAttempt_eq {c : Core} {k : TxKind} {m : TxMessage} {o : TxOutcome} {after : TxSlot} {abandoned : Bool}
    (hk : c.link.sendingKind = some k) (hm : (c.link.slot k).message = some m)
    (hend : endAttempt o (c.link.slot k) m = (after, abandoned)) :
    finishAttempt o c =
      if abandoned = true then
        postTxFail k { c with link := { (c.link.setSlot k after) with onBus := none } }
      else { c with link := { (c.link.setSlot k after) with onBus := none } } := by
  simp only [finishAttempt, hk, hm, Core.onLink, hend]

/-- Settles O51: the slot that waits, the slot that sends, and the successor. -/
theorem transmitSlotsSendOrAbandon : Obligations.TransmitSlotsSendOrAbandon := by
  rintro k m _ _ s hu rfl hm rfl
  have hexpires (which : TxWhich) : exec (.messageTimerExpiry k which) s
      = .next (afterBlocks s (messageTimeout k which s.core)) := State.event_done _ hu
  have hends (o : TxOutcome) : exec (.transmitAttemptEnd o) s = .next (afterBlocks s (finishAttempt o s.core)) :=
    State.event_done _ hu
  refine ⟨fun hw => ⟨fun ht => ?_, fun hidle hlow => ?_⟩, fun hs hr hsucc hother => ?_, fun hsucc => ?_⟩
  · rw [hexpires, messageTimeout, expireCurrent_waiting hm ht hw, postTxFail_eq]
  · have hfirst := Link.firstWaiting_eq hw (by rw [hm]; rfl) hlow
    refine (State.event_done (fun _ c => c.onLink startAttempt) hu).trans ?_
    rw [Core.onLink, startAttempt_serves (Link.idle_iff.2 hidle) hfirst hm]
  · have hk := Link.sendingKind_eq hs hother
    have hempty := afterMessage_alone hsucc
    refine ⟨fun ht => ?_, fun hlast => ?_, fun ht hmore => ?_, fun ht o ho => ?_, fun ht o hopen => ?_⟩
    · rw [hexpires, messageTimeout, expireCurrent_sending hm ht hs]
    · rw [hends, finishAttempt_eq hk hm (endAttempt_sent _ hlast), hempty]
      rfl
    · rw [hends, finishAttempt_eq hk hm (endAttempt_waits ht (.inr hmore) hr)]
      rfl
    · rw [hends, finishAttempt_eq hk hm (endAttempt_waits ht (.inl ho) hr), if_neg ho, ← hm]
      rfl
    · rw [hends, finishAttempt_eq hk hm (endAttempt_abandoned _ ht hopen), if_pos rfl, hempty, postTxFail_eq]
  · rw [hexpires, messageTimeout, expireSuccessor_abandons hsucc, postTxFail_eq]

end Sys2Proof.Machine
end

section
/-! PROOFS. The frames of the post (R155 to R159): what the filter, the assembly of a kind and the delivery of a complete
message make of a frame. -/

namespace Sys2Proof.Machine

/-! ### The filter (R155, R156) -/

/-- The kind numbers of the post are 1 to 5 (R155). -/
theorem postKind_eq_none {n : Nat} (h : n < 1 ∨ 5 < n) : postKind n = none := by
  unfold postKind
  split
  case h_6 => rfl
  all_goals omega

/-- A frame that the filter does not accept, without data bytes or of no post kind changes nothing (R156). -/
theorem receiveFrame_ignores {f : CanFrame} {e : Env} {c : Core}
    (h : frameAccepted e.cfg f = false ∨ f.data = [] ∨ postKind (f.ident.toNat / 64) = none) :
    receiveFrame f e c = c := by
  unfold receiveFrame
  split
  next haccepted =>
    split
    next hkind hdata =>
      rcases h with h | h | h
      · simp [haccepted] at h
      · simp [hdata] at h
      · simp [hkind] at h
    next => rfl
  next => rfl

/-- An accepted frame of a post kind goes to the assembly of its kind (R157). -/
theorem receiveFrame_takes {f : CanFrame} {e : Env} {c : Core} {kind : PostKind} {segment : Byte}
    {content : List Byte} (ha : frameAccepted e.cfg f = true) (hk : postKind (f.ident.toNat / 64) = some kind)
    (hd : f.data = segment :: content) : receiveFrame f e c = takeSegment kind segment content e c := by
  simp only [receiveFrame, ha, if_true, hk, hd]

/-! ### The assembly (R157) -/

/-- The segment byte 0 is a message of one segment. -/
theorem assemble_single (bytes : List Byte) (a : Option Assembly) :
    assemble 0 bytes a = (none, some (1, bytes)) := rfl

/-- A segment above 0 that nothing expects is discarded. -/
theorem assemble_unexpected {segment : Byte} {bytes : List Byte} {asm : Option Assembly}
    (h1 : 1 ≤ segment.toNat / 16)
    (h : ∀ a, asm = some a → segment.toNat / 16 ≠ a.next ∨ segment.toNat % 16 + 1 ≠ a.count) :
    assemble segment bytes asm = (none, none) := by
  have hlater : ¬ segment.toNat / 16 = 0 := by omega
  simp only [assemble, hlater, if_false]
  cases asm with
  | none => rfl
  | some a =>
    have hmiss : ¬ (decide (segment.toNat / 16 = a.next) && decide (segment.toNat % 16 + 1 = a.count)) = true := by
      simp only [Bool.and_eq_true, decide_eq_true_iff]
      have := h a rfl
      omega
    exact if_neg hmiss

/-- The last segment that an assembly expects completes its message. -/
theorem assemble_completes {segment : Byte} {bytes : List Byte} {a : Assembly} (h1 : 1 ≤ segment.toNat / 16)
    (hn : a.next = segment.toNat / 16) (hc : a.count = segment.toNat % 16 + 1) (hlast : a.count = a.next + 1) :
    assemble segment bytes (some a) = (none, some (a.count, a.content ++ bytes)) := by
  have hlater : ¬ a.next = 0 := by omega
  simp only [assemble, hlater, if_false, ← hn, ← hc, decide_true, Bool.and_self, if_true, ← hlast]

/-- A first segment of several is kept by the assembly of its kind (R157). -/
theorem takeSegment_keeps {kind : PostKind} {segment : Byte} {bytes : List Byte} {e : Env} {c : Core} {a : Assembly}
    (h : assemble segment bytes (c.link.assembly kind) = (some a, none)) :
    takeSegment kind segment bytes e c = hearPost (c.onLink fun l => l.setAssembly kind (some a)) := by
  rw [takeSegment, h]

/-- A discarded segment is a sign of the post alone (R157, R159). -/
theorem takeSegment_discards {kind : PostKind} {segment : Byte} {bytes : List Byte} {e : Env} {c : Core}
    (h : assemble segment bytes (c.link.assembly kind) = (none, none)) :
    takeSegment kind segment bytes e c = messageArrives kind c := by
  rw [takeSegment, h]
  rfl

/-- A complete message of a count and length that its kind allows is delivered (R157, R158). -/
theorem takeSegment_delivers {kind : PostKind} {segment : Byte} {bytes content : List Byte} {count : Nat} {e : Env}
    {c : Core} (h : assemble segment bytes (c.link.assembly kind) = (none, some (count, content)))
    (hfits : messageFits kind count content.length = true) :
    takeSegment kind segment bytes e c = deliver kind content e (messageArrives kind c) := by
  rw [takeSegment, h]
  exact if_pos hfits

/-- Any other complete message is a sign of the post alone (R157, R159). -/
theorem takeSegment_refuses {kind : PostKind} {segment : Byte} {bytes content : List Byte} {count : Nat} {e : Env}
    {c : Core} (h : assemble segment bytes (c.link.assembly kind) = (none, some (count, content)))
    (hbad : messageFits kind count content.length = false) :
    takeSegment kind segment bytes e c = messageArrives kind c := by
  rw [takeSegment, h]
  exact if_neg (ne_true_of_eq_false hbad)

/-! ### The layouts of the messages (section 12.2) -/

theorem deliver_powerLimit (limit : Half) (e : Env) (c : Core) :
    deliver .powerLimit (le 2 limit.toNat) e c = takePowerLimit limit.toNat c := by
  show takePowerLimit (leVal (le 2 limit.toNat)) c = _
  rw [leVal_le2]

theorem deliver_authVerdict (n : Half) (echo : Tag) (verdict : Byte) (e : Env) (c : Core) :
    deliver .authVerdict (le 2 n.toNat ++ echo.bytes ++ [verdict]) e c = deliverVerdict n echo verdict e c := by
  show deliverVerdict (BitVec.ofNat 16 (leVal (le 2 n.toNat))) echo verdict e c = _
  rw [leVal_le2, BitVec.ofNat_toNat, BitVec.setWidth_eq]

theorem deliver_tariff (version index count : Byte) (start price : Half) (e : Env) (c : Core) :
    deliver .tariff (version :: index :: count :: (le 2 start.toNat ++ le 2 price.toNat)) e c
      = takeTariff e version index.toNat count.toNat start.toNat price.toNat c := by
  show takeTariff e version index.toNat count.toNat (leVal (le 2 start.toNat)) (leVal (le 2 price.toNat)) c = _
  rw [leVal_le2, leVal_le2]

theorem deliver_time (seconds : Word) (e : Env) (c : Core) :
    deliver .time (le 4 seconds.toNat) e c = setClock .post seconds none c := by
  show setClock .post (BitVec.ofNat 32 (leVal (le 4 seconds.toNat))) none c = _
  rw [leVal_le4, BitVec.ofNat_toNat, BitVec.setWidth_eq]

theorem deliver_timeOffset (seconds : Word) (offset : Half) (e : Env) (c : Core) :
    deliver .time (le 4 seconds.toNat ++ le 2 offset.toNat) e c = setClock .post seconds (some offset.toInt) c := by
  show setClock .post (BitVec.ofNat 32 (leVal (le 4 seconds.toNat)))
    (some (BitVec.ofNat 16 (leVal (le 2 offset.toNat))).toInt) c = _
  rw [leVal_le4, leVal_le2, BitVec.ofNat_toNat, BitVec.ofNat_toNat, BitVec.setWidth_eq, BitVec.setWidth_eq]

/-! ### Frames that carry messages (R156 to R158, log 6) -/

/-- A frame in a part that is up. -/
theorem exec_receiveSegment {s : State} (f : CanFrame) (hu : s.core.up = true) :
    exec (.receiveSegment f) s = .next (afterBlocks s (receiveFrame f s.env s.core)) :=
  State.event_done _ hu

/-! The command of a message is its delivery, behind the sign of the post. -/

theorem exec_powerLimit {s : State} (limit : Half) (hu : s.core.up = true) :
    exec (.powerLimit limit) s
      = .next (afterBlocks s (takePowerLimit limit.toNat (messageArrives .powerLimit s.core))) :=
  State.event_done _ hu

theorem exec_authVerdict {s : State} (n : Half) (echo : Tag) (verdict : Byte) (hu : s.core.up = true) :
    exec (.authVerdict n echo verdict) s
      = .next (afterBlocks s (deliverVerdict n echo verdict s.env (messageArrives .authVerdict s.core))) :=
  State.event_done _ hu

theorem exec_tariff {s : State} (version index count : Byte) (start price : Half) (hu : s.core.up = true) :
    exec (.tariff version index count start price) s
      = .next (afterBlocks s (takeTariff s.env version index.toNat count.toNat start.toNat price.toNat
          (messageArrives .tariff s.core))) :=
  State.event_done _ hu

theorem exec_time {s : State} (seconds : Word) (offset : Option Half) (hu : s.core.up = true) :
    exec (.time seconds offset) s
      = .next (afterBlocks s (setClock .post seconds (offset.map BitVec.toInt) (messageArrives .time s.core))) :=
  State.event_done _ hu

theorem exec_stopMessage {s : State} (hu : s.core.up = true) :
    exec .stopMessage s = .next (afterBlocks s (deliverStop s.env (messageArrives .stop s.core))) :=
  State.event_done _ hu

/-- A message of one segment, of a length that its kind allows, is delivered. -/
theorem receiveFrame_single {f : CanFrame} {e : Env} {c : Core} {kind : PostKind} {content : List Byte}
    (ha : frameAccepted e.cfg f = true) (hk : postKind (f.ident.toNat / 64) = some kind)
    (hd : f.data = 0x00 :: content) (hfits : messageFits kind 1 content.length = true) :
    receiveFrame f e c = deliver kind content e (messageArrives kind c) := by
  rw [receiveFrame_takes ha hk hd, takeSegment_delivers (assemble_single content _) hfits]

/-- The second segment of a verdict completes the message that the first one began. -/
theorem receiveFrame_verdict {f : CanFrame} {e : Env} {c : Core} {content : List Byte}
    (ha : frameAccepted e.cfg f = true) (hk : postKind (f.ident.toNat / 64) = some .authVerdict)
    (hd : f.data = 0x11 :: content.drop 7) (hlen : content.length = 11)
    (hasm : c.link.asmVerdict = some { count := 2, next := 1, content := content.take 7 }) :
    receiveFrame f e c = deliver .authVerdict content e (messageArrives .authVerdict c) := by
  have hcomplete : assemble 0x11 (content.drop 7) (c.link.assembly .authVerdict) = (none, some (2, content)) := by
    rw [Link.assembly, hasm, assemble_completes (by decide) (by rfl) (by rfl) (by rfl), List.take_append_drop]
  rw [receiveFrame_takes ha hk hd, takeSegment_delivers hcomplete (by rw [hlen]; rfl)]

/-- Settles O48: the filter, the assembly, and each message by its layout. -/
theorem framesBringTheMessages : Obligations.FramesBringTheMessages := by
  intro f s hu
  refine ⟨fun h => ?_, fun kind segment content ha hk hd h => ?_, fun ha => ?_⟩
  · rw [exec_receiveSegment f hu, receiveFrame_ignores (h.imp_right (.imp_right postKind_eq_none))]
  · have hdiscarded : takeSegment kind segment content s.env s.core = messageArrives kind s.core := by
      rcases h with ⟨hlater, hmiss⟩ | ⟨rfl, hbad⟩ | ⟨hlater, a, hasm, hn, hc, hlast, hbad⟩
      · exact takeSegment_discards (assemble_unexpected hlater hmiss)
      · exact takeSegment_refuses (assemble_single content _) hbad
      · exact takeSegment_refuses (hasm ▸ assemble_completes hlater hn hc hlast) (List.length_append ▸ hbad)
    rw [exec_receiveSegment f hu, receiveFrame_takes ha hk hd, hdiscarded]
    rfl
  · have hkind {n : Nat} {kind : PostKind} (hn : f.ident.toNat / 64 = n) (hp : postKind n = some kind) :
        postKind (f.ident.toNat / 64) = some kind := hn ▸ hp
    rw [exec_receiveSegment f hu]
    refine ⟨fun limit hn hd => ?_, fun n echo verdict content hn hcontent => ⟨fun hd => ?_, fun hd hasm => ?_⟩,
      fun version index count start price hn hd => ?_, fun seconds hn => ⟨fun hd => ?_, fun offset hd => ?_⟩,
      fun hn hd => ?_⟩
    · rw [receiveFrame_single ha (hkind hn rfl) hd rfl, deliver_powerLimit, exec_powerLimit limit hu]
    · rw [receiveFrame_takes ha (hkind hn rfl) hd, takeSegment_keeps rfl]
      rfl
    · rw [receiveFrame_verdict ha (hkind hn rfl) hd (by rw [hcontent]; rfl) hasm, hcontent, deliver_authVerdict,
        exec_authVerdict n echo verdict hu]
    · rw [receiveFrame_single ha (hkind hn rfl) hd rfl, deliver_tariff,
        exec_tariff version index count start price hu]
    · rw [receiveFrame_single ha (hkind hn rfl) hd rfl, deliver_time, exec_time seconds none hu]
      rfl
    · rw [receiveFrame_single ha (hkind hn rfl) hd rfl, deliver_timeOffset, exec_time seconds (some offset) hu]
      rfl
    · rw [receiveFrame_single ha (hkind hn rfl) hd rfl, exec_stopMessage hu]
      rfl

end Sys2Proof.Machine
end

section
/-! PROOFS. The requests of the two ports (R170 to R172, R176 to R180): the owner of every request command, what an
owner leaves alone, and what a request that is taken leaves behind. -/

namespace Sys2Proof.Machine

/-! ### The command of a request goes to the owner of its type (R177) -/

/-- A vehicle request command is the transaction of its header with the owner that the type names. -/
theorem exec_vehicleHeader {i : Instr} {k q : Byte} {c : List Byte} (h : i.vehicleHeader = some (k, q, c)) :
    ∃ own action, vehicleOwner k.toNat = some (own, action)
      ∧ ∀ s, exec i s = (vehicleRequest k q action own c s).done := by
  unfold Instr.vehicleHeader at h
  split at h <;> cases h
  all_goals exact ⟨_, _, rfl, fun _ => rfl⟩

/-- A fleet request command is the arrival of its header and content with the owner that the type names. -/
theorem exec_fleetHeader {i : Instr} {k q : Byte} {c : List Byte} (h : i.fleetHeader = some (k, q, c)) :
    ∃ own, fleetOwner k.toNat = some own ∧ ∀ s, exec i s = (fleetRequest k q own c s).done := by
  unfold Instr.fleetHeader at h
  split at h <;> cases h
  all_goals exact ⟨_, rfl, fun _ => rfl⟩

/-- The vehicle port knows the types that have an owner. -/
theorem portTypes_of_vehicleOwner {n : Nat} {o : Owner × DeferredAction} (h : vehicleOwner n = some o) :
    (portTypes .vehicle).contains n = true := by
  unfold vehicleOwner at h
  split at h <;> cases h
  all_goals rfl

/-- The fleet port knows the types that have an owner. -/
theorem portTypes_of_fleetOwner {n : Nat} {own : Owner} (h : fleetOwner n = some own) :
    (portTypes .fleet).contains n = true := by
  unfold fleetOwner at h
  split at h <;> cases h
  all_goals rfl

/-- In STARTING every vehicle owner but that of IDENTIFY is behind the dispatch (R177). -/
theorem vehicleOwner_starting {n : Nat} {own : Owner} {action : DeferredAction}
    (h : vehicleOwner n = some (own, action)) (hn : n ≠ 0x70) {s : State} (hs : s.core.sup.power = .starting)
    (c : List Byte) : own c s = refusedWith .notReady s := by
  unfold vehicleOwner at h
  split at h <;> cases h
  case h_14 => exact absurd rfl hn
  all_goals exact dispatch_starting hs

/-- In STARTING every fleet owner but that of IDENTIFY is behind the dispatch (R177). -/
theorem fleetOwner_starting {n : Nat} {own : Owner} (h : fleetOwner n = some own) (hn : n ≠ 0x70) {s : State}
    (hs : s.core.sup.power = .starting) (c : List Byte) : own c s = refusedWith .notReady s := by
  unfold fleetOwner at h
  split at h <;> cases h
  case h_9 => exact absurd rfl hn
  all_goals exact dispatch_starting hs

/-! ### What an owner leaves alone (R177) -/

/-- Environment and blocks may differ, ports, lines and waiting commands are the same. -/
def State.SameShell (s t : State) : Prop := ∃ e c, t = { s with env := e, core := c }

/-- The blocks may differ, all else is the same. -/
def State.SameAround (s t : State) : Prop := ∃ c, t = { s with core := c }

/-- Whatever the content, the owner's action leads from a state to one that `R` relates to it. -/
def OwnerRelates (R : State → State → Prop) (own : Owner) : Prop :=
  ∀ (content : List Byte) (s : State), R s (own content s).state

section
variable {R : State → State → Prop} (hR : ∀ s, R s s)
include hR

theorem withoutContent_relates {act : State → Answer} (h : ∀ s, R s (act s).state) :
    OwnerRelates R (withoutContent act) := by
  intro content s
  unfold withoutContent
  split
  · exact h s
  · exact hR s

theorem withOperand_relates {α : Type} {form : List Byte → Option α} {act : α → State → Answer}
    (h : ∀ a s, R s (act a s).state) : OwnerRelates R (withOperand form act) := by
  intro content s
  unfold withOperand
  split
  · exact h _ s
  · exact hR s

theorem dispatch_relates {own : Owner} (h : OwnerRelates R own) : OwnerRelates R (dispatch own) := by
  intro content s
  unfold dispatch
  split
  · exact hR s
  · exact h content s

end

theorem State.SameShell.refl (s : State) : s.SameShell s := ⟨_, _, rfl⟩

theorem State.SameAround.refl (s : State) : s.SameAround s := ⟨_, rfl⟩

section
open State.SameShell (refl)

theorem ownStop_sameShell : OwnerRelates State.SameShell ownStop := withoutContent_relates refl fun s => by
  split
  · exact ⟨_, _, rfl⟩
  · exact refl s

theorem ownClearWeld_sameShell : OwnerRelates State.SameShell ownClearWeld := withOperand_relates refl fun _ s => by
  split
  · exact refl s
  · split
    · exact refl s
    · exact ⟨_, _, rfl⟩

theorem ownClearInsulationFault_sameShell : OwnerRelates State.SameShell ownClearInsulationFault :=
  withoutContent_relates refl fun s => by
    split
    · exact refl s
    · exact ⟨_, _, rfl⟩

theorem ownWriteConfig_sameShell : OwnerRelates State.SameShell ownWriteConfig := by
  intro content s
  unfold ownWriteConfig
  split
  · exact refl s
  · split
    · exact refl s
    · exact ⟨_, _, rfl⟩

theorem ownWriteTempTable_sameShell : OwnerRelates State.SameShell ownWriteTempTable :=
  withOperand_relates refl fun _ s => by
    split
    · exact refl s
    · split
      · exact ⟨_, _, rfl⟩
      · exact refl s

theorem ownSleep_sameShell : OwnerRelates State.SameShell ownSleep := withoutContent_relates refl fun s => by
  split
  · exact refl s
  · split <;> exact refl s

/-- Every owner of the vehicle port leaves ports, lines and waiting commands alone. -/
theorem vehicleOwner_sameShell {n : Nat} {o : Owner × DeferredAction} (h : vehicleOwner n = some o) :
    OwnerRelates State.SameShell o.1 := by
  unfold vehicleOwner at h
  split at h <;> cases h
  case h_1 => exact dispatch_relates refl (withoutContent_relates refl refl)
  case h_2 => exact dispatch_relates refl (withoutContent_relates refl fun _ => ⟨_, _, rfl⟩)
  case h_3 => exact dispatch_relates refl (withOperand_relates refl fun _ _ => ⟨_, _, rfl⟩)
  case h_4 => exact dispatch_relates refl ownStop_sameShell
  case h_5 => exact dispatch_relates refl ownClearWeld_sameShell
  case h_6 => exact dispatch_relates refl (withOperand_relates refl fun _ _ => ⟨_, _, rfl⟩)
  case h_7 => exact dispatch_relates refl ownClearInsulationFault_sameShell
  case h_8 => exact dispatch_relates refl (withoutContent_relates refl fun _ => ⟨_, _, rfl⟩)
  case h_9 => exact dispatch_relates refl ownWriteConfig_sameShell
  case h_10 => exact dispatch_relates refl (withoutContent_relates refl refl)
  case h_11 => exact dispatch_relates refl ownWriteTempTable_sameShell
  case h_12 => exact dispatch_relates refl ownSleep_sameShell
  case h_13 => exact dispatch_relates refl (withoutContent_relates refl refl)
  case h_14 => exact withoutContent_relates refl refl
  case h_15 => exact dispatch_relates refl (withOperand_relates refl fun _ _ => ⟨_, _, rfl⟩)
  case h_16 => exact dispatch_relates refl (withOperand_relates refl fun _ _ => ⟨_, _, rfl⟩)

end

section
open State.SameAround (refl)

theorem ownReadOldestRecord_sameAround : OwnerRelates State.SameAround ownReadOldestRecord :=
  withoutContent_relates refl fun s => by split <;> exact refl s

theorem ownReleaseRecord_sameAround : OwnerRelates State.SameAround ownReleaseRecord :=
  withOperand_relates refl fun _ s => by
    split
    · exact refl s
    · split
      · exact ⟨_, rfl⟩
      · exact refl s

theorem ownSetTime_sameAround : OwnerRelates State.SameAround ownSetTime := withOperand_relates refl fun _ s => by
  split
  · exact refl s
  · exact ⟨_, rfl⟩

theorem ownAllowAdd_sameAround : OwnerRelates State.SameAround ownAllowAdd := withOperand_relates refl fun _ _ => by
  simp only
  split <;> exact ⟨_, rfl⟩

theorem ownAllowRemove_sameAround : OwnerRelates State.SameAround ownAllowRemove :=
  withOperand_relates refl fun _ _ => by
    simp only
    split <;> exact ⟨_, rfl⟩

/-- Every owner of the fleet port leaves all but the blocks alone. -/
theorem fleetOwner_sameAround {n : Nat} {own : Owner} (h : fleetOwner n = some own) :
    OwnerRelates State.SameAround own := by
  unfold fleetOwner at h
  split at h <;> cases h
  case h_1 => exact dispatch_relates refl ownReadOldestRecord_sameAround
  case h_2 => exact dispatch_relates refl ownReleaseRecord_sameAround
  case h_3 => exact dispatch_relates refl (withoutContent_relates refl refl)
  case h_4 => exact dispatch_relates refl ownSetTime_sameAround
  case h_5 => exact dispatch_relates refl (withOperand_relates refl fun _ _ => ⟨_, rfl⟩)
  case h_6 => exact dispatch_relates refl ownAllowAdd_sameAround
  case h_7 => exact dispatch_relates refl ownAllowRemove_sameAround
  case h_8 => exact dispatch_relates refl (withoutContent_relates refl refl)
  case h_9 => exact withoutContent_relates refl refl
  case h_10 => exact dispatch_relates refl (withOperand_relates refl fun _ _ => ⟨_, rfl⟩)
  case h_11 => exact dispatch_relates refl (withOperand_relates refl fun _ _ => ⟨_, rfl⟩)

end

/-! ### What a request that is taken leaves behind (R170, R176) -/

/-- A vehicle request that is taken leaves its owner's environment and blocks, and its answer in PROCESSING; the
deferred action goes with an answer of OK alone (R172). -/
theorem vehicleRequest_processed {s : State} {k q : Byte} {action : DeferredAction} {own : Owner}
    {c content : List Byte} {e : Env} {core : Core} {status : Status} (hu : s.core.up = true)
    (hr : s.vport.ready = true) (hd : s.vport.deferred = .none)
    (hown : own c (shiftHeld s) = { state := { shiftHeld s with env := e, core := core }, status, content }) :
    (vehicleRequest k q action own c s).done = .next
      { afterVehicle s core k q status content (if status = .ok then action else .none) with env := e } := by
  rw [vehicleRequest_taken _ _ _ _ _ hu hr hd, hown]
  simp [State.done, process, State.settle_eq, afterVehicle, vportAfter, respond, responseTo, shiftHeld,
    State.onVport, hd]

/-- A fleet request that is taken, in STARTING or after it, leaves its owner's blocks and its response on its way. -/
theorem fleetRequest_responded {s : State} {k q : Byte} {own : Owner} {c content : List Byte} {core : Core}
    {status : Status} (hu : s.core.up = true) (h : s.fport.Free) (hf : FrameFits k q c)
    (hown : own c (s.onFport closingFlag) = { state := { s.onFport closingFlag with core := core }, status, content }) :
    (fleetRequest k q own c s).done = .next (afterFleet s core c content k q status) := by
  rw [fleetRequest_taken _ _ _ _ hu h hf, hown, State.done_eq]
  exact congrArg _ (respondFleet_settle s core k q c status content)

/-- Settles O21: the owner leaves the ports alone, and its answer stands in PROCESSING. -/
theorem vehicleRequestsAreTaken : Obligations.VehicleRequestsAreTaken := by
  intro i k q c s hi ⟨hheld, hpower, hready, hdeferred⟩
  obtain ⟨own, action, howner, hexec⟩ := exec_vehicleHeader hi
  obtain ⟨e, core, hstate⟩ := vehicleOwner_sameShell howner c (shiftHeld s)
  exact ⟨_, (hexec s).trans (vehicleRequest_processed (Core.up_of_active hheld hpower) hready hdeferred
    (congrArg (fun t => Answer.mk t _ _) hstate)), rfl, rfl, _, _, _, rfl⟩

/-- A part in STARTING that is not held in reset is up. -/
theorem Core.up_of_starting {c : Core} (hh : c.sup.held = none) (hp : c.sup.power = .starting) : c.up = true := by
  simp [Core.up, hh, hp]

/-- Settles O24: the dispatch answers in front of every owner but that of IDENTIFY. -/
theorem startingAnswersNotReady : Obligations.StartingAnswersNotReady := by
  intro i k q c s hheld hstarting hk
  have hu := Core.up_of_starting hheld hstarting
  have hk' : k.toNat ≠ 0x70 := fun h => hk (BitVec.eq_of_toNat_eq h)
  refine ⟨fun hi hready hdeferred => ?_, fun hi hfree hfits => ?_⟩
  · obtain ⟨own, action, howner, hexec⟩ := exec_vehicleHeader hi
    exact (hexec s).trans (vehicleRequest_processed hu hready hdeferred
      (vehicleOwner_starting howner hk' (s := shiftHeld s) hstarting c))
  · obtain ⟨own, howner, hexec⟩ := exec_fleetHeader hi
    exact (hexec s).trans (fleetRequest_responded hu hfree hfits
      (fleetOwner_starting howner hk' (s := s.onFport closingFlag) hstarting c))

end Sys2Proof.Machine
end

section
/-! PROOFS. The transactions of the vehicle port (R169 to R172), the requests that a port refuses itself (R171, R176),
and the notices of the two masters (R178 to R180). -/

namespace Sys2Proof.Machine

/-! ### The BUSY filler, the answer and the bytes shifted out (R169, R170, R172) -/

/-- A transaction with READY negated leaves the filler in the port, and the lines as the blocks give them. -/
theorem shiftBusy_done {s : State} (hr : s.vport.ready = false) :
    (shiftBusy s).done = .next { s with
      lines := linesOf s.core
      vport := { s.vport with shiftedOut := some (busyResponse s.core) } } := by
  simp [State.done, State.settle_eq, shiftBusy, State.onVport, hr]

theorem busyTransaction_up {s : State} (hu : s.core.up = true) : busyTransaction s = shiftBusy s := by
  simp [busyTransaction, held_of_up hu, asleep_of_up hu]

/-- With READY negated bytes that name any request, or none, are a busy transaction (R170). -/
theorem vehicleBytes_busy {s : State} (bytes : List Byte) (hu : s.core.up = true) (hr : s.vport.ready = false) :
    vehicleBytes bytes s = shiftBusy s := by
  unfold vehicleBytes
  split <;> exact vehicleRequest_busy _ _ _ _ _ hu hr

/-- A response to an ACK-NOTICES that was taken shows the pending set as it stands, every other one stays (R180). -/
theorem Response.refreshed_eq (p : Port) (u : Notices) (r : Response) :
    r.refreshed p u = if r.kind = 0x72 ∧ r.status = .ok then
      { r with pending := u.pendingOf p, content := ackContent p u } else r := by
  simp [Response.refreshed, Response.acknowledges]

/-- The answer in PROCESSING becomes the held response, and READY is asserted (R170, R172). -/
theorem answerRequest_done {s : State} {answer : Response} {action : DeferredAction} (hu : s.core.up = true)
    (h : s.vport.slot = .processing answer action) :
    (answerRequest s).done = .next
      { s with
        lines := linesOf s.core
        vport := { s.vport with
          slot := .answered
          held := some (answer.refreshed .vehicle s.core.notices)
          deferred := action
          ready := true } } := by
  simp [answerRequest, h, hu, State.done, State.settle_eq, State.onVport, held_of_up hu]

/-- A response has 7 bytes in front of its content (section 12.3). -/
theorem responseBytes_length (r : Response) : (responseBytes r).length = 7 + r.content.length := by
  simp only [responseBytes, List.length_cons, List.length_append, le_length]
  omega

theorem shiftedByte_some {v : VehiclePort} {r : Response} (h : v.shiftedOut = some r) (i : Nat) :
    shiftedByte v i = (responseBytes r).getD i 0 := by
  rw [shiftedByte, h]
  rfl

/-- Settles O22: each command that finds READY negated, the answer, and the bytes of a response. -/
theorem busyUntilTheRequestIsAnswered : Obligations.BusyUntilTheRequestIsAnswered := by
  refine ⟨fun s hu => ⟨fun hr => ?_, fun answer action hslot => ?_⟩, fun v r i hv => ⟨fun b hb => ?_, fun hi => ?_⟩⟩
  · have hbusy := shiftBusy_done hr
    refine ⟨?_, fun bytes => ?_, fun i hi => ?_⟩
    · exact (congrArg State.done (busyTransaction_up hu)).trans hbusy
    · exact (congrArg State.done (vehicleBytes_busy bytes hu hr)).trans hbusy
    · obtain ⟨⟨k, q, c⟩, hheader⟩ := Option.isSome_iff_exists.1 hi
      obtain ⟨own, action, -, hexec⟩ := exec_vehicleHeader hheader
      rw [hexec, vehicleRequest_busy _ _ _ _ _ hu hr]
      exact hbusy
  · rw [show exec .requestAnswered s = (answerRequest s).done from rfl, answerRequest_done hu hslot,
      Response.refreshed_eq]
    rfl
  · rw [shiftedByte_some hv, List.getD_eq_getElem?_getD, hb]
    rfl
  · have hpast : (responseBytes r)[i]? = none := List.getElem?_eq_none (by rw [responseBytes_length]; exact hi)
    rw [shiftedByte_some hv, List.getD_eq_getElem?_getD, hpast]
    rfl

/-! ### The requests that a port refuses itself (R171, R176) -/

/-- A header that the vehicle port does not accept is its own to answer (R171). -/
theorem vehicleBytes_refused {bytes : List Byte} (h : headerAccepted .vehicle bytes = false) (s : State) :
    vehicleBytes bytes s
      = vehicleRequest (headerByte bytes 0) (headerByte bytes 1) .none ownBadRequest (ownContent bytes) s := by
  simp [vehicleBytes, h]

/-- A header that the fleet port does not accept is its own to answer (R176). -/
theorem takeBody_refused {body : List Byte} (h : headerAccepted .fleet body = false) (s : State) :
    takeBody body s = respondFleet (requestOf body) (refusedWith .badRequest s) := by
  simp [takeBody, bodyOwner, h, ownBadRequest]

/-- What a frame that fits brings to a free port (R174, R176). -/
theorem fleetBytes_free {s : State} {body : List Byte} (hu : s.core.up = true) (h : s.fport.Free)
    (hf : (frameOf body).length ≤ 64) :
    fleetBytes body s =
      if body.length < 4 then s.onFport closingFlag else takeBody body (s.onFport closingFlag) := by
  simp [fleetBytes, held_of_up hu, wakeByFleet_awake (asleep_of_up hu), takesAtOnce_of_free h hf]

/-- The frame of fewer bytes than a header fits, whatever must be escaped. -/
theorem frameOf_length_short {body : List Byte} (h : body.length < 4) : (frameOf body).length ≤ 64 := by
  have hl := flatMap_escaped_length (body ++ le 2 (frameCheck body).toNat)
  simp only [List.length_append, le_length] at hl
  simp only [frameOf, List.length_cons, List.length_append, List.length_nil]
  omega

/-- The length field of a request carries the length of a content that fits it (section 12.3). -/
theorem leVal_length {c : List Byte} (h : c.length < 65536) : leVal (le 2 c.length) = c.length :=
  (leVal_le 2 _).trans (Nat.mod_eq_of_lt h)

/-- A port accepts the header of a request's bytes if its length agrees with what follows it (R171, R176). -/
theorem headerAccepted_requestBytes {p : Port} {k q : Byte} {c extra : List Byte}
    (hk : (portTypes p).contains k.toNat = true) (hc : c.length < 65536)
    (hl : lengthAgrees p c.length (c ++ extra).length = true) :
    headerAccepted p (requestBytes k q c ++ extra) = true := by
  have hnamed := leVal_length hc
  simp only [le, leVal, Nat.mul_zero, Nat.add_zero] at hnamed
  simp only [requestBytes, le, List.cons_append, List.nil_append, headerAccepted, hk, hnamed, hl, Bool.and_self]

/-- The vehicle port accepts the header of a request's bytes whatever follows them (R169, log 45). -/
theorem headerAccepted_vehicle {k q : Byte} {c : List Byte} (extra : List Byte)
    (hk : (portTypes .vehicle).contains k.toNat = true) (hc : c.length < 65536) :
    headerAccepted .vehicle (requestBytes k q c ++ extra) = true :=
  headerAccepted_requestBytes hk hc (by simp [lengthAgrees])

/-- The fleet port accepts the header of a request's bytes with nothing behind them (R176). -/
theorem headerAccepted_fleet {k q : Byte} {c : List Byte} (hk : (portTypes .fleet).contains k.toNat = true)
    (hc : c.length < 65536) : headerAccepted .fleet (requestBytes k q c) = true := by
  have h := headerAccepted_requestBytes (q := q) (extra := []) hk hc (by simp [lengthAgrees])
  rwa [List.append_nil] at h

/-- The content of a request's bytes is its own, whatever follows (R169). -/
theorem ownContent_requestBytes {k q : Byte} {c : List Byte} (extra : List Byte) (hc : c.length < 65536) :
    ownContent (requestBytes k q c ++ extra) = c := by
  show (c ++ extra).take (leVal (le 2 c.length)) = c
  rw [leVal_length hc, List.take_left]

/-- The bytes of a request are its transaction, whatever follows them (R169, R171). -/
theorem vehicleBytes_requestBytes {k q : Byte} {c : List Byte} {own : Owner} {action : DeferredAction}
    (extra : List Byte) (ho : vehicleOwner k.toNat = some (own, action)) (hc : c.length < 65536) (s : State) :
    vehicleBytes (requestBytes k q c ++ extra) s = vehicleRequest k q action own c s := by
  have ho' : vehicleOwner (headerByte (requestBytes k q c ++ extra) 0).toNat = some (own, action) := ho
  simp only [vehicleBytes, headerAccepted_vehicle extra (portTypes_of_vehicleOwner ho) hc, if_true, ho',
    ownContent_requestBytes extra hc]
  rfl

/-- Settles O28: bad headers by the port they came to, and a request's bytes with others behind them. -/
theorem unknownRequestsAreRefusedByThePort : Obligations.UnknownRequestsAreRefusedByThePort := by
  refine ⟨fun bytes s => ⟨fun ⟨hheld, hpower, hready, hdeferred⟩ hbad => ?_,
    fun ⟨hheld, hpower, hfree⟩ hbad => ⟨fun hlen hfits => ?_, fun hshort => ?_⟩⟩, fun i k q c extra s hi hc => ?_⟩
  · exact (congrArg State.done (vehicleBytes_refused hbad s)).trans
      (vehicleRequest_processed (Core.up_of_active hheld hpower) hready hdeferred rfl)
  · have htaken : fleetBytes bytes s = _ := fleetBytes_free (Core.up_of_active hheld hpower) hfree hfits
    rw [if_neg (by omega), takeBody_refused hbad] at htaken
    exact (congrArg State.done htaken).trans (congrArg _ (respondFleet_settle_same s _ _ _ _ _))
  · have hignored : fleetBytes bytes s = _ :=
      fleetBytes_free (Core.up_of_active hheld hpower) hfree (frameOf_length_short hshort)
    rw [if_pos hshort] at hignored
    exact congrArg State.done hignored
  · obtain ⟨own, action, howner, hexec⟩ := exec_vehicleHeader hi
    exact (congrArg State.done (vehicleBytes_requestBytes extra howner hc s)).trans (hexec s).symm

/-! ### Notices are enabled and acknowledged (R178 to R180) -/

/-- An operand that has its form goes to the owner's action. -/
theorem withOperand_some {α : Type} {form : List Byte → Option α} {act : α → State → Answer} {c : List Byte} {a : α}
    (h : form c = some a) (s : State) : withOperand form act c s = act a s := by
  simp only [withOperand, h]

/-- An operand without its form is BAD-REQUEST (R177). -/
theorem withOperand_none {α : Type} {form : List Byte → Option α} {act : α → State → Answer} {c : List Byte}
    (h : form c = none) (s : State) : withOperand form act c s = refusedWith .badRequest s := by
  simp only [withOperand, h]

/-- The end of the opening flag of an ACK-NOTICES response: the response takes its form, and its second byte begins
(R180, log 50). -/
theorem characterTime_forms {s : State} {bytes : List Byte} {r : Response} (hu : s.core.up = true)
    (hp : s.fport.paused = false)
    (ht : s.fport.transmit = some { bytes, next := 1, sending := true, forming := some r }) :
    s.characterTime = { s with fport := { s.fport with
      transmit := some
        { bytes := frameOf (responseBytes (r.refreshed .fleet s.core.notices))
          next := 2
          sending := true
          forming := none } } } := by
  have hlong : 1 < (frameOf (responseBytes (r.refreshed .fleet s.core.notices))).length := by
    simp only [frameOf, List.length_cons, List.length_append, List.length_nil]
    omega
  simp [State.characterTime, hu, State.onFport, FleetPort.characterTime, ht, hp, TxProgress.form, TxProgress.advance,
    TxProgress.lastByte, TxProgress.nextByte, hlong, Nat.ne_of_lt hlong]

theorem step_idle {s : State} (h : s.pending = []) : step s = .next s.characterTime := by simp only [step, h]

/-- Settles O26: the owners of the two requests on each port, and the two places where an acknowledgement's answer takes
its form. -/
theorem noticesAreEnabledAndAcknowledged : Obligations.NoticesAreEnabledAndAcknowledged := by
  intro q mask s
  have hmask := maskOperand_le mask
  refine ⟨fun h => ⟨?_, ?_, fun c hc => ⟨?_, ?_⟩⟩, fun pending action hu hslot => ?_,
    fun pending content bytes hu hqueue hp ht => ?_,
    fun h => ⟨fun wake hwake => ?_, ?_, fun c hc => ⟨fun hf => ?_, fun hf => ?_⟩⟩⟩
  · exact vehicleDispatch_done h (withOperand_some hmask _)
  · exact vehicleDispatch_done h (withOperand_some hmask _)
  · exact vehicleDispatch_refused h (withOperand_none (maskOperand_length hc) _)
  · exact vehicleDispatch_refused h (withOperand_none (maskOperand_length hc) _)
  · exact answerRequest_done hu hslot
  · rw [step_idle hqueue, characterTime_forms hu hp ht]
    rfl
  · subst hwake
    exact fleetRequest_done h (frameFits_of_short _ _ (by simp [le_length])) (withOperand_some hmask _)
  · exact fleetRequest_done h (frameFits_of_short _ _ (by simp [le_length])) (withOperand_some hmask _)
  · exact fleetRequest_done h hf (withOperand_none (maskOperand_length hc) _)
  · exact fleetRequest_done h hf (withOperand_none (maskOperand_length hc) _)

end Sys2Proof.Machine
end

section
/-! PROOFS. The fleet port's frames and bytes (R173 to R176, R193): framing and unframing, what one byte does to the
port, and the request that a frame's bytes bring. -/

namespace Sys2Proof.Machine

/-! ### Framing and unframing (R174, R176, R193) -/

/-- What stands between the flags of a frame: body and check, escaped (R174, R193). -/
def frameInside (body : List Byte) : List Byte := (body ++ le 2 (frameCheck body).toNat).flatMap escaped

theorem frameOf_eq (body : List Byte) : frameOf body = flagByte :: (frameInside body ++ [flagByte]) := rfl

theorem frameOf_length (body : List Byte) : (frameOf body).length = (frameInside body).length + 2 := by
  simp [frameOf_eq]

/-- No flag stands between the flags of a frame (R174). -/
theorem frameInside_noFlag (body : List Byte) : ∀ x ∈ frameInside body, x ≠ flagByte := by
  intro x hx
  obtain ⟨b, -, hb⟩ := List.mem_flatMap.1 hx
  exact escaped_noFlag b x hb

/-- An escaped byte holds no flow byte (R174). -/
theorem escaped_noFlow (b : Byte) : ∀ x ∈ escaped b, x ≠ xonByte ∧ x ≠ xoffByte := by
  intro x hx
  unfold escaped at hx
  split at hx
  next h =>
    rw [List.mem_cons, List.mem_singleton] at hx
    rcases hx with rfl | rfl
    · decide
    · rcases h with rfl | rfl | rfl | rfl <;> decide
  next h =>
    obtain ⟨-, -, hxon, hxoff⟩ : _ ∧ _ ∧ _ ∧ _ := by simpa only [not_or] using h
    rw [List.mem_singleton.1 hx]
    exact ⟨hxon, hxoff⟩

theorem frameInside_noFlow (body : List Byte) : ∀ x ∈ frameInside body, x ≠ xonByte ∧ x ≠ xoffByte := by
  intro x hx
  obtain ⟨b, -, hb⟩ := List.mem_flatMap.1 hx
  exact escaped_noFlow b x hb

/-- No flow byte stands in a frame (R174). -/
theorem frameOf_noFlow (body : List Byte) : ∀ x ∈ frameOf body, x ≠ xonByte ∧ x ≠ xoffByte := by
  rw [frameOf_eq, List.forall_mem_cons, List.forall_mem_append, List.forall_mem_singleton]
  exact ⟨by decide, frameInside_noFlow body, by decide⟩

/-- An escape gives back the byte behind it (R174). -/
theorem unescape_escape (b : Byte) (l : List Byte) :
    unescape (escapeByte :: b :: l) = (unescape l).map fun l => (b ^^^ 0x20) :: l := by
  simp [unescape]

/-- A byte that is no escape stands for itself (R174). -/
theorem unescape_cons {b : Byte} (h : b ≠ escapeByte) (l : List Byte) :
    unescape (b :: l) = (unescape l).map fun l => b :: l := by
  cases l <;> simp [unescape, h]

/-- Escaping a byte and reading it back (R174). -/
theorem unescape_escaped (b : Byte) (l : List Byte) :
    unescape (escaped b ++ l) = (unescape l).map fun l => b :: l := by
  unfold escaped
  split
  next =>
    have hback : b ^^^ 0x20 ^^^ 0x20 = b := by rw [BitVec.xor_assoc, BitVec.xor_self, BitVec.xor_zero]
    exact (unescape_escape _ l).trans (by rw [hback])
  next h => exact unescape_cons (fun he => h (.inr (.inl he))) l

/-- Escaping bytes and reading them back (R174). -/
theorem unescape_flatMap (l : List Byte) : unescape (l.flatMap escaped) = some l := by
  induction l with
  | nil => rfl
  | cons b l ih =>
    rw [List.flatMap_cons, unescape_escaped, ih]
    rfl

/-- Between the flags of a frame stands its body, with its check (R176, R193). -/
theorem frameBody_frameInside {body : List Byte} (h : 4 ≤ body.length) :
    frameBody (frameInside body) = some body := by
  have hbody : (body ++ le 2 (frameCheck body).toNat).length - 2 = body.length := by
    rw [List.length_append, le_length]
    omega
  have hlong : 6 ≤ (body ++ le 2 (frameCheck body).toNat).length := by
    rw [List.length_append, le_length]
    omega
  simp only [frameBody, frameInside, unescape_flatMap, hbody, List.take_left, List.drop_left, hlong, true_and, if_true]

/-- The frame that closes with the only flag behind its opening one is at the head of the FIFO (R174). -/
theorem headFrame_closed {inner : List Byte} (h : ∀ x ∈ inner, x ≠ flagByte) :
    headFrame (flagByte :: (inner ++ [flagByte])) = some (inner, [flagByte]) := by
  have hpass : ∀ x ∈ inner, (!decide (x = flagByte)) = true := by simpa using h
  simp [headFrame, List.takeWhile_append_of_pos hpass, List.dropWhile_append_of_pos hpass]

theorem headFrame_frameOf (body : List Byte) : headFrame (frameOf body) = some (frameInside body, [flagByte]) :=
  headFrame_closed (frameInside_noFlag body)

/-- Settles O36: the head of the FIFO, the body read back, and the bytes of the frame. -/
theorem framesReadBack : Obligations.FramesReadBack := fun body hlen =>
  ⟨⟨frameInside body, headFrame_frameOf body, frameBody_frameInside hlen⟩, frameOf_noFlow body⟩

/-! ### One byte (R173 to R175) -/

/-- What arrives on the fleet port of a part that is up. -/
theorem State.fleetEvent_up {s : State} (f : State → State) (hu : s.core.up = true) : s.fleetEvent f = f s := by
  simp [State.fleetEvent, held_of_up hu]

/-- No frame is taken while a request is outstanding or none is complete (R176). -/
theorem takeFleet_idle {s : State} (h : s.fport.outstanding.isSome = true ∨ headFrame s.fport.fifo = none) :
    takeFleet s = s :=
  h.elim (takeFrames_outstanding _) (takeFrames_none _)

/-- A flow byte sets the flow state, and no frame is taken (R173). -/
theorem flowByte_idle {s : State} (pause : Bool) (hu : s.core.up = true)
    (h : s.fport.outstanding.isSome = true ∨ headFrame s.fport.fifo = none) :
    flowByte pause s = s.onFport (FleetPort.setFlow pause) := by
  rw [flowByte, wakeByFleet_awake (asleep_of_up hu)]
  exact takeFleet_idle h

/-- An XOFF leaves the byte on the line to be finished (R173). -/
theorem setFlow_pause (p : FleetPort) : p.setFlow true = { p with paused := true } := by
  simp [FleetPort.setFlow]

/-- An XON finds no stopped transmitter (R173). -/
theorem setFlow_resume_running {p : FleetPort}
    (h : p.transmit = none ∨ ∃ x, p.transmit = some x ∧ x.sending = true) :
    p.setFlow false = { p with paused := false } := by
  rcases h with h | ⟨x, h, hx⟩
  · simp [FleetPort.setFlow, h]
  · simp [FleetPort.setFlow, h, hx]

/-- An XON makes a stopped transmitter resume with its next byte (R173). -/
theorem setFlow_resume_stopped {p : FleetPort} {x : TxProgress} (h : p.transmit = some x) (hs : x.sending = false)
    (hn : x.next < x.bytes.length) :
    p.setFlow false =
      { p with paused := false, transmit := some { x with next := x.next + 1, sending := true } } := by
  simp [FleetPort.setFlow, h, hs, TxProgress.nextByte, hn]

/-- A byte is stored behind an opening flag, and otherwise only a flag is (R174, R175). -/
theorem receiveByte_eq (b : Byte) (p : FleetPort) :
    receiveByte b p =
      if p.rx ≠ .inFrame ∧ b ≠ flagByte then p
      else if p.fifo.length < 64 then { p with fifo := p.fifo ++ [b], rx := .inFrame }
      else { p with fifo := completePart p.fifo, rx := .discard } := by
  cases hrx : p.rx with
  | inFrame => simp [receiveByte, hrx, storeByte, dropPartial]
  | hunt => by_cases hb : b = flagByte <;> simp [receiveByte, hrx, storeByte, dropPartial, hb]
  | discard => by_cases hb : b = flagByte <;> simp [receiveByte, hrx, storeByte, dropPartial, hb]

/-- A byte that is no flow byte goes to the receiver (R173). -/
theorem exec_fleetByte {s : State} {b : Byte} (hu : s.core.up = true) (hon : b ≠ xonByte) (hoff : b ≠ xoffByte) :
    exec (.fleetByteReceived b) s = .next (takeByte s b).settle := by
  show (s.fleetEvent (fleetByte b)).done = _
  rw [State.fleetEvent_up _ hu, fleetByte, if_neg hon, if_neg hoff, wakeByFleet_awake (asleep_of_up hu), State.done_eq]

/-- The transmitter of an outstanding request ends with its closing flag: in RUN, or with the flag on the line. -/
theorem FleetPort.mayFinish_iff {p : FleetPort} {x : TxProgress} (h : p.transmit = some x) :
    p.mayFinish = true ↔ p.paused = false ∨ (x.sending = true ∧ x.next = x.bytes.length) := by
  simp [FleetPort.mayFinish, h, TxProgress.lastByte]

/-- The end of a response leaves no request outstanding, and takes what waits (R176). -/
theorem responseSent_ends {s : State} (ho : s.fport.outstanding.isSome = true) (hm : s.fport.mayFinish = true) :
    responseSent s = takeFleet (s.onFport fun p => { p with outstanding := none, transmit := none }) := by
  simp [responseSent, ho, hm]

/-- A transmitter stopped in PAUSED sends no closing flag (R173). -/
theorem responseSent_stopped {s : State} (hm : s.fport.mayFinish = false) : responseSent s = s := by
  simp [responseSent, hm]

/-- Settles O35: the flow bytes, the other bytes, the framing error and the end of a response. -/
theorem fleetBytesFollowTheReceiveState : Obligations.FleetBytesFollowTheReceiveState := by
  intro b s hu
  have hevent (f : State → State) : (s.fleetEvent f).done = .next (f s).settle :=
    congrArg State.done (State.fleetEvent_up f hu)
  refine ⟨fun hidle => ⟨?_, fun ht => ?_, fun x hx hstopped hmore => ?_⟩, rfl, rfl, ?_, fun hon hoff hidle => ?_,
    fun x ho hx => ⟨fun hends hnone => ?_, fun hp hmore => ?_⟩⟩
  · refine (hevent _).trans ?_
    rw [flowByte_idle true hu hidle, State.onFport, setFlow_pause]
  · refine (hevent _).trans ?_
    rw [flowByte_idle false hu hidle, State.onFport, setFlow_resume_running ht]
  · refine (hevent _).trans ?_
    rw [flowByte_idle false hu hidle, State.onFport, setFlow_resume_stopped hx hstopped hmore]
  · refine (hevent _).trans ?_
    rw [framingError, wakeByFleet_awake (asleep_of_up hu)]
    rfl
  · have htake : takeByte s b = s.onFport (receiveByte b) :=
      takeFleet_idle (hidle.imp_left fun h => (congrArg Option.isSome (receiveByte_outstanding b s.fport)).trans h)
    rw [exec_fleetByte hu hon hoff, htake, State.onFport, receiveByte_eq]
    rfl
  · refine (hevent _).trans ?_
    rw [responseSent_ends ho ((FleetPort.mayFinish_iff hx).2 hends),
      takeFleet_idle (s := s.onFport fun p => { p with outstanding := none, transmit := none }) (.inr hnone)]
    rfl
  · have hfinish : s.fport.mayFinish = false := by
      rw [← Bool.not_eq_true, FleetPort.mayFinish_iff hx, hp]
      simpa using hmore
    exact (hevent _).trans (by rw [responseSent_stopped hfinish])

/-! ### A fleet request is taken, waits or is never received (R175 to R177) -/

/-- The frame of a request that does not fit is never received (R175). -/
theorem fleetRequest_long {s : State} {k q : Byte} {own : Owner} {c : List Byte} (hu : s.core.up = true)
    (h : s.fport.Free) (hlong : ¬ FrameFits k q c) :
    fleetRequest k q own c s = s.onFport fun p => { p with
      fifo := if (frameOf (requestBytes k q c)).length = 65 then [] else [flagByte]
      rx := if (frameOf (requestBytes k q c)).length = 65 then .discard else .inFrame } := by
  have hlen : 64 < (frameOf (requestBytes k q c)).length := Nat.lt_of_not_le hlong
  have harrive := arrive_long (frameInside_noFlag (requestBytes k q c)) h.1 h.2 (by rw [← frameOf_length]; exact hlen)
  rw [← frameOf_eq, ← frameOf_length] at harrive
  simpa [fleetRequest, held_of_up hu, wakeByFleet_awake (asleep_of_up hu), takesAtOnce_long hlen] using harrive

/-- Settles O29: a free port takes what fits and never receives what does not, a busy one lets it wait. -/
theorem fleetRequestsAreTakenOrWait : Obligations.FleetRequestsAreTakenOrWait := by
  intro i k q c s hi
  obtain ⟨own, howner, hexec⟩ := exec_fleetHeader hi
  refine ⟨fun ⟨hheld, hpower, hfree⟩ hfits => ?_, fun ⟨hheld, hpower, hfree⟩ hlong => ?_, fun hu ho => ?_⟩
  · obtain ⟨core, hstate⟩ := fleetOwner_sameAround howner c (s.onFport closingFlag)
    exact ⟨_, (hexec s).trans (fleetRequest_responded (Core.up_of_active hheld hpower) hfree hfits
      (congrArg (fun t => Answer.mk t _ _) hstate)), rfl, rfl, _, _, rfl⟩
  · rw [hexec, fleetRequest_long (Core.up_of_active hheld hpower) hfree hlong]
    rfl
  · rw [hexec, fleetRequest_waits _ _ _ _ hu ho]
    rfl

/-! ### The bytes of a frame bring its request (R174, R176, log 5) -/

/-- Escaping drops no byte (R174). -/
theorem length_le_flatMap_escaped (l : List Byte) : l.length ≤ (l.flatMap escaped).length := by
  induction l with
  | nil => exact Nat.le_refl 0
  | cons b l ih =>
    have hone : 1 ≤ (escaped b).length := by unfold escaped; split <;> simp
    rw [List.flatMap_cons, List.length_append, List.length_cons]
    omega

theorem requestBytes_length (k q : Byte) (c : List Byte) : (requestBytes k q c).length = 4 + c.length := by
  simp only [requestBytes, List.length_cons, List.length_append, le_length]
  omega

/-- The content of a frame that fits is short (R175). -/
theorem FrameFits.content_length {k q : Byte} {c : List Byte} (h : FrameFits k q c) : c.length ≤ 64 := by
  have hinside : (requestBytes k q c).length + 2 ≤ (frameInside (requestBytes k q c)).length := by
    have hescaped := length_le_flatMap_escaped (requestBytes k q c ++ le 2 (frameCheck (requestBytes k q c)).toNat)
    rwa [List.length_append, le_length] at hescaped
  rw [FrameFits, frameOf_length] at h
  rw [requestBytes_length] at hinside
  omega

/-- The command of a fleet request is the taking of its bytes, by a port that is free for them. -/
theorem exec_fleetHeader_takeBody {i : Instr} {k q : Byte} {c : List Byte} {s : State}
    (hi : i.fleetHeader = some (k, q, c)) (h : FleetTakes s) (hf : FrameFits k q c) :
    exec i s = (takeBody (requestBytes k q c) (s.onFport closingFlag)).done := by
  obtain ⟨own, howner, hexec⟩ := exec_fleetHeader hi
  obtain ⟨hheld, hpower, hfree⟩ := h
  have hc : c.length < 65536 := Nat.lt_of_le_of_lt hf.content_length (by decide)
  have howner' : fleetOwner (headerByte (requestBytes k q c) 0).toNat = some own := howner
  have hbody : bodyOwner (requestBytes k q c) = own := by
    simp only [bodyOwner, headerAccepted_fleet (portTypes_of_fleetOwner howner) hc, if_true, howner', Option.getD_some]
  rw [hexec, fleetRequest_taken _ _ _ _ (Core.up_of_active hheld hpower) hfree hf, takeBody, hbody]
  rfl

/-- A complete frame at the head of the FIFO of a port without an outstanding request is taken (R176). -/
theorem takeFleet_frame {s : State} {body : List Byte} (ho : s.fport.outstanding = none)
    (hf : s.fport.fifo = frameOf body) (hlen : 4 ≤ body.length) :
    takeFleet s = takeBody body (s.onFport fun p => { p with fifo := [flagByte] }) := by
  have hlen' : s.fport.fifo.length = (frameInside body).length + 1 + 1 := by rw [hf, frameOf_length]
  rw [takeFleet, hlen']
  simp only [takeFrames, ho, Option.isSome_none, Bool.false_eq_true, if_false, hf, headFrame_frameOf,
    frameBody_frameInside hlen]

/-- A settled state stays settled when only the fleet port changes. -/
theorem State.settle_onFport {s : State} (h : s.settle = s) (f : FleetPort → FleetPort) :
    (s.onFport f).settle = s.onFport f := congrArg (fun t => State.onFport t f) h

/-- A command that answers a next state, and the commands behind it. -/
theorem execAll_next {i : Instr} {s t : State} (h : exec i s = .next t) (rest : List Instr) :
    execAll (i :: rest) s = execAll rest t := by
  simp only [execAll, h]

/-- Bytes of a frame that is not yet over only stand in the FIFO, one command after the other (R174). -/
theorem execAll_inside {l pre : List Byte} {s : State} (rest : List Instr) (hu : s.core.up = true)
    (hs : s.settle = s) (hl : ∀ x ∈ l, x ≠ flagByte) (hflow : ∀ x ∈ l, x ≠ xonByte ∧ x ≠ xoffByte)
    (hp : ∀ x ∈ pre, x ≠ flagByte) (hf : s.fport.fifo = flagByte :: pre) (hr : s.fport.rx = .inFrame)
    (hn : pre.length + 1 + l.length ≤ 64) :
    execAll (l.map (fun b => .fleetByteReceived b) ++ rest) s
      = execAll rest (s.onFport fun p => { p with fifo := flagByte :: (pre ++ l) }) := by
  induction l generalizing s pre with
  | nil =>
    have hsame : (s.onFport fun p => { p with fifo := flagByte :: (pre ++ []) }) = s := by
      simp [State.onFport, ← hf]
    rw [hsame]
    rfl
  | cons b l ih =>
    obtain ⟨hb, hl⟩ := List.forall_mem_cons.1 hl
    obtain ⟨⟨hon, hoff⟩, hflow⟩ := List.forall_mem_cons.1 hflow
    have hstored : takeByte s b = s.onFport fun p => { p with fifo := flagByte :: (pre ++ [b]), rx := .inFrame } :=
      arrive_inside (l := [b]) (by simpa using hb) hp hf hr (by simp at hn ⊢; omega)
    have hnext := exec_fleetByte hu hon hoff
    rw [hstored, State.settle_onFport hs] at hnext
    have hrest := ih (s := s.onFport fun p => { p with fifo := flagByte :: (pre ++ [b]), rx := .inFrame })
      (pre := pre ++ [b]) hu (State.settle_onFport hs _) hl hflow
      (List.forall_mem_append.2 ⟨hp, List.forall_mem_singleton.2 hb⟩) rfl rfl (by simp at hn ⊢; omega)
    rw [List.map_cons, List.cons_append, execAll_next hnext, hrest]
    simp [State.onFport, hr]

/-- The closing flag of a frame whose bytes stand in the FIFO lets a port without an outstanding request take it. -/
theorem takeByte_closes {s : State} {body : List Byte} (ho : s.fport.outstanding = none)
    (hf : s.fport.fifo = flagByte :: frameInside body) (hr : s.fport.rx = .inFrame)
    (hfits : (frameOf body).length ≤ 64) (hlen : 4 ≤ body.length) :
    takeByte s flagByte = takeBody body (s.onFport closingFlag) := by
  have hroom : s.fport.fifo.length < 64 := by
    rw [frameOf_length] at hfits
    rw [hf, List.length_cons]
    omega
  have hstored : receiveByte flagByte s.fport = { s.fport with fifo := frameOf body, rx := .inFrame } := by
    rw [receiveByte_eq, if_neg (fun h => h.1 hr), if_pos hroom, hf]
    rfl
  have htaken := takeFleet_frame (s := s.onFport (receiveByte flagByte)) (body := body)
    ((receiveByte_outstanding _ _).trans ho) (congrArg FleetPort.fifo hstored) hlen
  rw [takeByte, htaken]
  simp only [State.onFport, hstored, closingFlag]

/-- Settles O37: the flags and the inside of the frame one after the other, and the frame that waited. -/
theorem frameBytesBringTheRequest : Obligations.FrameBytesBringTheRequest := by
  intro i k q c s hi hfits hr hs
  have hlen : 4 ≤ (requestBytes k q c).length := by rw [requestBytes_length]; omega
  refine ⟨fun h hfifo => ?_, fun hheld hpower hp ho hfifo => ?_⟩
  · obtain ⟨hheld, hpower, hfree⟩ := id h
    have hu := Core.up_of_active hheld hpower
    have hflag {t : State} (ht : t.core.up = true) :
        exec (.fleetByteReceived flagByte) t = .next (takeByte t flagByte).settle :=
      exec_fleetByte ht (by decide) (by decide)
    have hopens := hflag hu
    rw [takeByte_flag hfree.1 hfree.2, State.settle_onFport hs] at hopens
    have hinside := execAll_inside (s := s.onFport closingFlag) (pre := []) [.fleetByteReceived flagByte] hu
      (State.settle_onFport hs _) (frameInside_noFlag (requestBytes k q c)) (frameInside_noFlow _)
      (List.forall_mem_nil _) rfl rfl
      (by rw [FrameFits, frameOf_length] at hfits; simp only [List.length_nil]; omega)
    have hcloses := takeByte_closes
      (s := (s.onFport closingFlag).onFport fun p => { p with fifo := flagByte :: frameInside (requestBytes k q c) })
      hfree.1 rfl rfl hfits hlen
    rw [exec_fleetHeader_takeBody hi h hfits, frameOf_eq, List.map_cons, List.map_append, execAll_next hopens]
    exact hinside.trans ((execAll_next (hflag (by exact hu)) []).trans (congrArg State.done hcloses))
  · have htaken := takeFleet_frame (s := s.onFport fun p => { p with outstanding := none, transmit := none }) rfl hfifo
      hlen
    refine (congrArg State.done (State.fleetEvent_up responseSent (Core.up_of_active hheld hpower))).trans ?_
    refine .trans ?_ (exec_fleetHeader_takeBody hi (by exact ⟨hheld, hpower, rfl, .inr rfl⟩) hfits).symm
    rw [responseSent_ends ho (by simp [FleetPort.mayFinish, hp]), htaken]
    simp only [State.onFport, closingFlag, hr, flagByte]

end Sys2Proof.Machine
end

section
/-! PROOFS. One step: the command at the front of the queue, and the character time of the fleet transmitter that passes
without one (R173). -/

namespace Sys2Proof.Machine

/-- A character time in a part that is up, with a response on its way: it takes its form, and the transmitter goes
on. -/
theorem State.characterTime_transmit {s : State} {y : TxProgress} (hu : s.core.up = true)
    (ht : s.fport.transmit = some y) :
    s.characterTime = { s with fport := { s.fport with
      transmit := some ((y.form s.core.notices).advance s.fport.paused) } } := by
  simp [State.characterTime, hu, State.onFport, FleetPort.characterTime, ht]

/-- No character time passes in a part that is held in reset or asleep (log 1). -/
theorem State.characterTime_down {s : State} (h : s.core.up = false) : s.characterTime = s := by
  simp [State.characterTime, h]

theorem TxProgress.lastByte_iff (t : TxProgress) :
    t.lastByte = true ↔ t.sending = true ∧ t.next = t.bytes.length := by
  simp [TxProgress.lastByte]

/-- The closing flag stays on the line until its own command (R176, log 26). -/
theorem TxProgress.advance_last (paused : Bool) {t : TxProgress} (h : t.sending = true ∧ t.next = t.bytes.length) :
    t.advance paused = t := by
  rw [TxProgress.advance, if_pos (t.lastByte_iff.2 h)]

/-- In PAUSED the transmitter stops after the byte it is sending (R173). -/
theorem TxProgress.advance_paused {t : TxProgress} (h : ¬ (t.sending = true ∧ t.next = t.bytes.length)) :
    t.advance true = { t with sending := false } := by
  rw [TxProgress.advance, if_neg (mt t.lastByte_iff.1 h), if_pos rfl]

/-- In RUN the next byte begins (R173). -/
theorem TxProgress.advance_running {t : TxProgress} (h : t.next < t.bytes.length) :
    t.advance false = { t with next := t.next + 1, sending := true } := by
  rw [TxProgress.advance, if_neg (fun hl => Nat.ne_of_lt h (t.lastByte_iff.1 hl).2), if_neg Bool.false_ne_true,
    TxProgress.nextByte, if_pos h]

/-- Settles O1: the front command by definition, and without one the character time by where the transmitter stands. -/
theorem stepTakesTheFrontCommand : Obligations.StepTakesTheFrontCommand := by
  refine ⟨fun i rest s => rfl, fun s hqueue => ⟨fun hidle => ?_, fun x y hu ht hx => ?_⟩⟩
  · rw [step_idle hqueue, hidle.elim State.characterTime_down State.characterTime_idle]
  · have hform : x = y.form s.core.notices := by
      rw [hx, TxProgress.form]
      cases y.forming <;> rfl
    rw [step_idle hqueue, State.characterTime_transmit hu ht, ← hform]
    refine ⟨fun hs hn => ?_, fun hp hmore => ?_, fun hp hmore => ?_⟩
    · rw [TxProgress.advance_last _ ⟨hs, hn⟩]
    · rw [hp, TxProgress.advance_paused hmore]
    · rw [hp, TxProgress.advance_running hmore]

end Sys2Proof.Machine
end

section
/-! PROOFS. The events of the blocks at the two ports: the effect of each is on the blocks alone, taken or not, and READY
follows the reset that they may take (chapter 10, R184). -/

namespace Sys2Proof.Machine

/-- What the blocks become leaves the environment, the queue and both ports but for READY in a reset (R184). -/
theorem afterBlocks_portsKept (s : State) (c : Core) : PortsKept s (afterBlocks s c) := ⟨rfl, rfl, rfl, rfl⟩

/-- An effect on the blocks completes in the state after it, in every power state. -/
theorem State.onCore_done (s : State) (f : Core → Core) : (s.onCore f).done = .next (afterBlocks s (f s.core)) := rfl

/-- An event that a part held in reset or asleep does not take leaves its blocks as they are (log 33). -/
theorem State.event_done_down {s : State} (f : Env → Core → Core) (h : s.core.up = false) :
    (s.event f).done = .next (afterBlocks s s.core) := by
  rw [State.event_down f h]; rfl

/-- An event of the blocks, taken or not, completes with an effect on the blocks alone. -/
theorem State.event_completes (s : State) (f : Env → Core → Core) : ∃ c, (s.event f).done = .next (afterBlocks s c) := by
  cases hu : s.core.up with
  | true => exact ⟨_, State.event_done f hu⟩
  | false => exact ⟨_, State.event_done_down f hu⟩

/-- Every event of the blocks completes with an effect on the blocks alone: most are taken only in a part that is up;
the time counter, the reset pin and the two supplies act in every power state (R127, R184, R190). -/
theorem exec_blockEvent {i : Instr} (hi : i.blockEvent = true) (s : State) :
    ∃ c, exec i s = .next (afterBlocks s c) := by
  cases i with
  | timeCounterTick => exact ⟨_, s.onCore_done tick⟩
  | resetPin => exact ⟨_, s.onCore_done resetPin⟩
  | supplyHeldReset => exact ⟨_, s.onCore_done fun c => takeReset .supply (cutStop c)⟩
  | retentionSupplyFall => exact ⟨_, s.onCore_done loseRetention⟩
  | closeConfirmTimeout | openConfirmTimeout | currentWaitTimerExpiry | pauseTimerExpiry | requestExpiry
  | authVerdict | authTimerExpiry | allocationTimerExpiry | slotTimerExpiry | quietWindowOpen
  | halfPeriodTimerExpiry | meteringTimerExpiry | receiveSegment | powerLimit | tariff | time | stopMessage
  | linkAliveTimerExpiry | postLimitTimerExpiry | statusTimerExpiry | transmitAttemptStart | transmitAttemptEnd
  | messageTimerExpiry => exact s.event_completes _
  | _ => exact absurd hi Bool.false_ne_true

/-- Settles O4: every event of the blocks completes in the state after its effect on the blocks, and that effect keeps
both ports. -/
theorem blockEventsKeepThePorts : Obligations.BlockEventsKeepThePorts := by
  intro i s hi
  obtain ⟨c, hexec⟩ := exec_blockEvent hi s
  exact ⟨_, hexec, afterBlocks_portsKept s c⟩

end Sys2Proof.Machine
end

section
/-! PROOFS. The commands that wait (log 1): no sleep, wake or reset, no owner of a request, no transaction of the vehicle
port, no byte or frame of the fleet port and no event of the front end changes them. -/

namespace Sys2Proof.Machine

/-! ### Sleep, wake and resets (R172, R184, R187 to R189) -/

@[simp] theorem wakeUp_pending (sources : Byte) (s : State) : (wakeUp sources s).pending = s.pending := rfl

@[simp] theorem enterSleep_pending (s : State) : (enterSleep s).pending = s.pending := rfl

@[simp] theorem wakeByFleet_pending (s : State) : (wakeByFleet s).pending = s.pending := by
  unfold wakeByFleet
  split
  · exact wakeUp_pending _ s
  · rfl

/-- Even a COLD reset, which puts every block to its reset value, keeps the commands that wait. -/
@[simp] theorem leaveReset_pending (kind : ResetKind) (s : State) : (leaveReset kind s).pending = s.pending := by
  cases kind <;> rfl

@[simp] theorem resetExit_pending (s : State) : (resetExit s).pending = s.pending := by
  unfold resetExit
  split
  · exact leaveReset_pending _ s
  · rfl

@[simp] theorem releaseSleep_pending (s : State) : (releaseSleep s).pending = s.pending := by
  unfold releaseSleep
  split
  · split
    · exact enterSleep_pending s
    · rfl
  · rfl

@[simp] theorem releaseAction_pending (a : DeferredAction) (s : State) : (releaseAction a s).pending = s.pending := by
  cases a with
  | none | reset => rfl
  | sleep => exact releaseSleep_pending s

/-! ### The front end (R1, R11, R17) -/

@[simp] theorem State.windowClose_pending (s : State) (w : WindowSamples) (first : Bool) :
    (s.windowClose w first).pending = s.pending := by
  unfold State.windowClose
  split <;> rfl

@[simp] theorem State.captureStep_pending (s : State) (f : Mfe → Mfe) : (s.captureStep f).pending = s.pending := by
  unfold State.captureStep
  split <;> rfl

@[simp] theorem settledAsleep_pending (d : DigitalInput) (level : LineLevel) (s : State) :
    (settledAsleep d level s).pending = s.pending := by
  cases d with
  | inletFlap =>
    simp only [settledAsleep]
    split <;> rfl
  | contactorAux | converterFault => rfl

@[simp] theorem settledChange_pending (d : DigitalInput) (level : LineLevel) (s : State) :
    (settledChange d level s).pending = s.pending := by
  unfold settledChange
  split
  · rfl
  · split
    · rfl
    · split
      · exact settledAsleep_pending d level s
      · rfl

/-! ### The owners of the requests (R177) -/

/-- Whatever the content, the owner leaves the commands that wait. -/
abbrev OwnerKeepsQueue (own : Owner) : Prop := OwnerRelates (fun s t => t.pending = s.pending) own

theorem State.SameShell.pending_eq {s t : State} (h : s.SameShell t) : t.pending = s.pending := by
  obtain ⟨e, c, rfl⟩ := h
  rfl

theorem State.SameAround.pending_eq {s t : State} (h : s.SameAround t) : t.pending = s.pending := by
  obtain ⟨c, rfl⟩ := h
  rfl

theorem ownBadRequest_keepsQueue : OwnerKeepsQueue ownBadRequest := fun _ _ => rfl

theorem vehicleOwner_keepsQueue {n : Nat} {o : Owner × DeferredAction} (h : vehicleOwner n = some o) :
    OwnerKeepsQueue o.1 :=
  fun content s => (vehicleOwner_sameShell h content s).pending_eq

theorem fleetOwner_keepsQueue {n : Nat} {own : Owner} (h : fleetOwner n = some own) : OwnerKeepsQueue own :=
  fun content s => (fleetOwner_sameAround h content s).pending_eq

theorem bodyOwner_keepsQueue (body : List Byte) : OwnerKeepsQueue (bodyOwner body) := by
  unfold bodyOwner
  split
  · cases ho : fleetOwner (headerByte body 0).toNat with
    | none => exact ownBadRequest_keepsQueue
    | some own => exact fleetOwner_keepsQueue ho
  · exact ownBadRequest_keepsQueue

/-! ### The transactions of the vehicle port (R170, R172) -/

@[simp] theorem releaseDeferred_pending (s : State) : (releaseDeferred s).pending = s.pending :=
  releaseAction_pending _ _

theorem vehicleRequest_pending {own : Owner} (hown : OwnerKeepsQueue own) (kind seq : Byte) (action : DeferredAction)
    (content : List Byte) (s : State) : (vehicleRequest kind seq action own content s).pending = s.pending := by
  unfold vehicleRequest
  split
  · rfl
  · split
    · exact wakeUp_pending (wakeSet false false true false) s
    · split
      · rfl
      · split
        · exact releaseDeferred_pending s
        · exact hown content (shiftHeld s)

theorem vehicleBytes_pending (bytes : List Byte) (s : State) : (vehicleBytes bytes s).pending = s.pending := by
  unfold vehicleBytes
  split
  next o ho =>
    refine vehicleRequest_pending ?_ _ _ _ _ s
    split at ho
    · exact vehicleOwner_keepsQueue ho
    · cases ho
  · exact vehicleRequest_pending ownBadRequest_keepsQueue _ _ _ _ s

@[simp] theorem busyTransaction_pending (s : State) : (busyTransaction s).pending = s.pending := by
  unfold busyTransaction
  split
  · rfl
  · split
    · exact wakeUp_pending (wakeSet false false true false) s
    · rfl

@[simp] theorem collectDeferred_pending (s : State) : (collectDeferred s).pending = s.pending := by
  unfold collectDeferred
  split
  · exact releaseDeferred_pending s
  · rfl

@[simp] theorem answerRequest_pending (s : State) : (answerRequest s).pending = s.pending := by
  unfold answerRequest
  split
  · split <;> rfl
  all_goals rfl

/-! ### Bytes and requests of the fleet port (R173 to R176) -/

@[simp] theorem takeBody_pending (body : List Byte) (s : State) : (takeBody body s).pending = s.pending :=
  bodyOwner_keepsQueue body _ s

@[simp] theorem takeFrames_pending (n : Nat) (s : State) : (takeFrames n s).pending = s.pending := by
  induction n generalizing s with
  | zero => rfl
  | succ n ih =>
    unfold takeFrames
    split
    · rfl
    · split
      · rfl
      next frame rest _ =>
        simp only
        split
        · exact ih (s.onFport fun p => { p with fifo := rest })
        · exact takeBody_pending _ (s.onFport fun p => { p with fifo := rest })

@[simp] theorem takeFleet_pending (s : State) : (takeFleet s).pending = s.pending := takeFrames_pending _ s

@[simp] theorem takeByte_pending (s : State) (b : Byte) : (takeByte s b).pending = s.pending :=
  takeFleet_pending (s.onFport (receiveByte b))

@[simp] theorem arrive_pending (bytes : List Byte) (s : State) : (arrive bytes s).pending = s.pending := by
  induction bytes generalizing s with
  | nil => rfl
  | cons b bytes ih => exact (ih (takeByte s b)).trans (takeByte_pending s b)

theorem fleetRequest_pending {own : Owner} (hown : OwnerKeepsQueue own) (kind seq : Byte) (content : List Byte)
    (s : State) : (fleetRequest kind seq own content s).pending = s.pending := by
  unfold fleetRequest
  simp only
  split
  · rfl
  · refine Eq.trans ?_ (wakeByFleet_pending s)
    split
    · exact hown content ((wakeByFleet s).onFport closingFlag)
    · exact arrive_pending _ (wakeByFleet s)

theorem fleetBytes_pending (body : List Byte) (s : State) : (fleetBytes body s).pending = s.pending := by
  unfold fleetBytes
  simp only
  split
  · rfl
  · refine Eq.trans ?_ (wakeByFleet_pending s)
    split
    · split
      · rfl
      · exact takeBody_pending body ((wakeByFleet s).onFport closingFlag)
    · exact arrive_pending _ (wakeByFleet s)

@[simp] theorem flowByte_pending (pause : Bool) (s : State) : (flowByte pause s).pending = s.pending :=
  (takeFleet_pending ((wakeByFleet s).onFport (FleetPort.setFlow pause))).trans (wakeByFleet_pending s)

@[simp] theorem fleetByte_pending (b : Byte) (s : State) : (fleetByte b s).pending = s.pending := by
  unfold fleetByte
  split
  · exact flowByte_pending false s
  · split
    · exact flowByte_pending true s
    · exact (takeByte_pending (wakeByFleet s) b).trans (wakeByFleet_pending s)

@[simp] theorem framingError_pending (s : State) : (framingError s).pending = s.pending := wakeByFleet_pending s

@[simp] theorem responseSent_pending (s : State) : (responseSent s).pending = s.pending := by
  unfold responseSent
  split
  · exact takeFleet_pending (s.onFport fun p => { p with outstanding := none, transmit := none })
  · rfl

theorem State.fleetEvent_pending {f : State → State} (hf : ∀ s, (f s).pending = s.pending) (s : State) :
    (s.fleetEvent f).pending = s.pending := by
  unfold State.fleetEvent
  split
  · rfl
  · exact hf s

/-- A wake takes its byte after its transaction, and each leaves the commands that wait (R172, R176, R189). -/
@[simp] theorem wakeEvent_pending (pilot vehicle flap : Bool) (byte : Option Byte) (s : State) :
    (wakeEvent pilot vehicle flap byte s).pending = s.pending := by
  unfold wakeEvent
  split
  · have hshift : (if vehicle then shiftBusy (wakeUp (wakeSources pilot vehicle flap byte) s)
        else wakeUp (wakeSources pilot vehicle flap byte) s).pending = s.pending := by
      cases vehicle <;> rfl
    cases byte with
    | none => exact hshift
    | some b => exact (fleetByte_pending b _).trans hshift
  · rfl

/-! ### Every command (log 1) -/

/-- A command whose effect leaves the commands that wait completes with them. -/
theorem completes_of_pending {i : Instr} {s u : State} (hexec : exec i s = u.done) (hu : u.pending = s.pending) :
    Completes i s fun t => t.pending = s.pending :=
  ⟨u.settle, hexec, hu⟩

theorem blockEvent_keepsQueue {i : Instr} (hi : i.blockEvent = true) (s : State) :
    Completes i s fun t => t.pending = s.pending := by
  obtain ⟨c, hexec⟩ := exec_blockEvent hi s
  exact ⟨_, hexec, rfl⟩

theorem vehicleHeader_keepsQueue {i : Instr} {k q : Byte} {c : List Byte} (hi : i.vehicleHeader = some (k, q, c))
    (s : State) : Completes i s fun t => t.pending = s.pending := by
  obtain ⟨own, action, howner, hexec⟩ := exec_vehicleHeader hi
  exact completes_of_pending (hexec s) (vehicleRequest_pending (vehicleOwner_keepsQueue howner) _ _ _ _ s)

theorem fleetHeader_keepsQueue {i : Instr} {k q : Byte} {c : List Byte} (hi : i.fleetHeader = some (k, q, c))
    (s : State) : Completes i s fun t => t.pending = s.pending := by
  obtain ⟨own, howner, hexec⟩ := exec_fleetHeader hi
  exact completes_of_pending (hexec s) (fleetRequest_pending (fleetOwner_keepsQueue howner) _ _ _ s)

/-- Settles O3: a request by the transaction of its header, an event of the blocks by its effect on them alone, and every
other command by the rule of its own effect. -/
theorem commandsLeaveTheQueue : Obligations.CommandsLeaveTheQueue := by
  intro i s
  cases i with
  | measurementWindowClose w first => exact completes_of_pending rfl (s.windowClose_pending w first)
  | pilotRisingEdge | pilotFallingEdge | staticTimerExpiry => exact completes_of_pending rfl (s.captureStep_pending _)
  | digitalInputSettledChange d level => exact completes_of_pending rfl (settledChange_pending d level s)
  | poll | readStatus | chargeRequest | stop | clearWeld | setDriverTag | clearInsulationFault | readInsulation
  | writeConfig | readConfig | writeTempTable | sleep | reset => exact vehicleHeader_keepsQueue rfl s
  | readOldestRecord | releaseRecord | readOpenRecord | setTime | setSpendCap | allowAdd | allowRemove | allowRead =>
    exact fleetHeader_keepsQueue rfl s
  | identify p | enableNotices p | ackNotices p =>
    cases p with
    | vehicle => exact vehicleHeader_keepsQueue rfl s
    | fleet => exact fleetHeader_keepsQueue rfl s
  | unknownRequest p bytes =>
    cases p with
    | vehicle => exact completes_of_pending rfl (vehicleBytes_pending bytes s)
    | fleet => exact completes_of_pending rfl (fleetBytes_pending bytes s)
  | busyTransaction => exact completes_of_pending rfl (busyTransaction_pending s)
  | deferredActionRelease => exact completes_of_pending rfl (collectDeferred_pending s)
  | requestAnswered => exact completes_of_pending rfl (answerRequest_pending s)
  | xon | xoff => exact completes_of_pending rfl (s.fleetEvent_pending (flowByte_pending _))
  | framingError => exact completes_of_pending rfl (s.fleetEvent_pending framingError_pending)
  | fleetByteReceived b => exact completes_of_pending rfl (s.fleetEvent_pending (fleetByte_pending b))
  | fleetResponseSent => exact completes_of_pending rfl (s.fleetEvent_pending responseSent_pending)
  | resetExit => exact completes_of_pending rfl (resetExit_pending s)
  | wake pilot vehicle flap byte => exact completes_of_pending rfl (wakeEvent_pending pilot vehicle flap byte s)
  | _ => exact blockEvent_keepsQueue rfl s

end Sys2Proof.Machine
end

section
/-! PROOFS. The contactor goes with the session (R20, R25, R27, R34 to R37, R40): which of the two every operation moves,
and that every event of the blocks keeps them together. -/

namespace Sys2Proof.Machine

/-! ### What leaves contactor and current wait alone -/

@[simp] theorem Session.moveTo_waitTimer (new : SessionState) (s : Session) :
    (s.moveTo new).waitTimer = s.waitTimer := rfl

@[simp] theorem setPause_contactor (p : PauseCause) (on : Bool) (c : Core) :
    (setPause p on c).session.contactor = c.session.contactor := by
  unfold setPause
  split <;> rfl

@[simp] theorem setPause_waitTimer (p : PauseCause) (on : Bool) (c : Core) :
    (setPause p on c).session.waitTimer = c.session.waitTimer := by
  unfold setPause
  split <;> rfl

@[simp] theorem addFault_contactor (cause : StopCause) (c : Core) :
    (addFault cause c).session.contactor = c.session.contactor := by
  unfold addFault
  split <;> simp

@[simp] theorem addFault_waitTimer (cause : StopCause) (c : Core) :
    (addFault cause c).session.waitTimer = c.session.waitTimer := by
  unfold addFault
  split <;> simp

/-! ### The contactor and the wait of a session state (R20, R35) -/

/-- The session record of the blocks has the contactor that goes with its state. -/
def Core.ContactFits (c : Core) : Prop := c.session.Fits

/-- What leaves state, contactor and current wait as they are keeps them together. -/
theorem Core.ContactFits.frame {c d : Core} (h : c.ContactFits)
    (hd : d.session.state = c.session.state ∧ d.session.contactor = c.session.contactor
      ∧ d.session.waitTimer = c.session.waitTimer) : d.ContactFits := by
  obtain ⟨hstate, hcont, hwait⟩ := hd
  rwa [Core.ContactFits, Session.Fits, hstate, hcont, hwait]

/-- Whichever of two courses an event takes, each keeps the contactor with the session. -/
theorem Core.ContactFits.ite {p : Prop} [Decidable p] {c d : Core} (hc : c.ContactFits) (hd : d.ContactFits) :
    (if p then c else d).ContactFits := by
  split
  · exact hc
  · exact hd

/-- A session that waits for no current fits with a contactor that goes with its state. -/
theorem Session.fits_of_noWait {s : Session} (hk : contactorFits s.state s.contactor = true)
    (hw : s.waitTimer = none) : s.Fits := ⟨hk, by simp [hw]⟩

/-- Outside STOPPING no current is waited for (R35). -/
theorem Session.Fits.noWait {s : Session} (h : s.Fits) (hs : s.state ≠ .stopping) : s.waitTimer = none := by
  cases hw : s.waitTimer with
  | none => rfl
  | some n => exact absurd (h.2 (by simp [hw])).1 hs

/-- Once the contactor is not CLOSED no current is waited for (R35, R36). -/
theorem Session.Fits.noWait_of_contactor {s : Session} (h : s.Fits) (hk : s.contactor ≠ .closed) :
    s.waitTimer = none := by
  cases hw : s.waitTimer with
  | none => rfl
  | some n => exact absurd (h.2 (by simp [hw])).2 hk

/-- Before and after a session the contactor is OPEN (R20, R37). -/
theorem Session.Fits.opened {s : Session} (h : s.Fits)
    (hs : s.state = .idle ∨ s.state = .attached ∨ s.state = .closed) : s.contactor = .opened := by
  have hk := h.1
  rcases hs with hs | hs | hs <;> rw [hs] at hk <;> cases hc : s.contactor <;> simp_all [contactorFits]

/-- In PREHEAT, CHARGING and PAUSED the contactor is CLOSED (R20). -/
theorem Session.Fits.closed {s : Session} (h : s.Fits)
    (hs : s.state = .preheat ∨ s.state = .charging ∨ s.state = .paused) : s.contactor = .closed := by
  have hk := h.1
  rcases hs with hs | hs | hs <;> rw [hs] at hk <;> cases hc : s.contactor <;> simp_all [contactorFits]

/-- Every running state goes with a CLOSED contactor (R28). -/
theorem contactorFits_runningChoice (e : Env) (s : Session) : contactorFits (runningChoice e s) .closed = true := by
  unfold runningChoice
  split
  · rfl
  · split <;> rfl

/-- A session that changes its state without a current wait fits if the contactor goes with the new state. -/
theorem changeState_contactFits {e : Env} {new : SessionState} {c : Core}
    (hk : contactorFits new c.session.contactor = true) (hw : c.session.waitTimer = none) :
    (changeState e new c).ContactFits :=
  Session.fits_of_noWait (by simpa using hk) (by simpa using hw)

/-! ### The stop sequence (R32 to R37) -/

/-- With the contactor OPEN the end of the stop sequence fits (R37). -/
theorem enterClosed_contactFits {e : Env} {c : Core} (hk : c.session.contactor = .opened)
    (hw : c.session.waitTimer = none) : (enterClosed e c).ContactFits := by
  obtain ⟨b, hb⟩ := enterClosed_session e c
  refine Session.fits_of_noWait ?_ ?_ <;> rw [hb]
  · simp [hk, contactorFits]
  · exact hw

/-- A confirmed open ends the stop sequence with the contactor OPEN (R36, R37). -/
theorem confirmOpen_contactFits {e : Env} {c : Core} (hw : c.session.waitTimer = none) :
    (confirmOpen e c).ContactFits :=
  enterClosed_contactFits (by simp) (by simpa using hw)

/-- In STOPPING the contactor may begin to open (R36). -/
theorem beginOpening_contactFits {c : Core} (hs : c.session.state = .stopping) : (beginOpening c).ContactFits :=
  Session.fits_of_noWait (by simp [hs, contactorFits]) (by simp)

theorem openContactor_contactFits {e : Env} {c : Core} (hs : c.session.state = .stopping) :
    (openContactor e c).ContactFits :=
  .ite (beginOpening_contactFits hs) (confirmOpen_contactFits (by simp))

/-- The entry to STOPPING deals with the contactor as it finds it (R34). -/
theorem startOpening_contactFits {e : Env} {cause : StopCause} {c : Core} (hs : c.session.state = .stopping)
    (hw : c.session.waitTimer = none) : (startOpening e cause c).ContactFits := by
  unfold startOpening
  split
  next hk => exact enterClosed_contactFits hk hw
  next => exact beginOpening_contactFits hs
  next hk =>
    refine .ite (openContactor_contactFits hs) ⟨?_, fun _ => ⟨hs, hk⟩⟩
    simp [hs, hk, contactorFits]
  next hk => exact Session.fits_of_noWait (by rw [hs, hk]; rfl) hw

theorem enterStopping_contactFits {e : Env} {cause : StopCause} {c : Core} (hw : c.session.waitTimer = none) :
    (enterStopping e cause c).ContactFits := by
  obtain ⟨d, hd, hses, -⟩ := enterStopping_split e cause c
  rw [hd]
  exact startOpening_contactFits (by rw [hses]; rfl) (by rw [hses]; exact hw)

section
variable {e : Env} {c : Core} (h : c.ContactFits)
include h

theorem stopCause_contactFits (cause : StopCause) : (stopCause e cause c).ContactFits := by
  unfold stopCause
  split
  case h_1 hs | h_2 hs | h_3 hs | h_4 hs => exact enterStopping_contactFits (h.noWait (by simp [hs]))
  case h_5 hs => exact .ite (openContactor_contactFits (by simpa using hs)) (h.frame (by simp))
  case h_6 | h_7 | h_8 => exact h

theorem converterFault_contactFits : (converterFault e c).ContactFits :=
  stopCause_contactFits (h.frame (by simp)) _

/-! ### Pauses, allocations and the meter (R28 to R31, R62, R137, R138) -/

omit h in
theorem chooseRunning_contactFits (hk : c.session.contactor = .closed) (hw : c.session.waitTimer = none) :
    (chooseRunning e c).ContactFits :=
  changeState_contactFits (by rw [hk]; exact contactorFits_runningChoice ..) hw

/-- Between the running pair and PAUSED the contactor stays CLOSED (R30, R31). -/
theorem settlePause_contactFits : (settlePause e c).ContactFits := by
  unfold settlePause
  split
  case h_1 hs | h_2 hs =>
    exact .ite (changeState_contactFits (by rw [h.closed (by simp [hs])]; rfl) (h.noWait (by simp [hs]))) h
  case h_3 hs =>
    exact .ite (chooseRunning_contactFits (h.closed (by simp [hs])) (h.noWait (by simp [hs]))) h
  all_goals exact h

/-- Within the running pair the contactor stays CLOSED (R29). -/
theorem temperatureMove_contactFits : (temperatureMove e c).ContactFits := by
  unfold temperatureMove
  split
  case h_1 hs | h_2 hs =>
    exact .ite (changeState_contactFits (by rw [h.closed (by simp [hs])]; rfl) (h.noWait (by simp [hs]))) h
  all_goals exact h

theorem allocate_contactFits (immediate : Bool) : (allocate immediate e c).ContactFits :=
  settlePause_contactFits (h.frame (by simp))

theorem allocationDue_contactFits : (allocationDue e c).ContactFits :=
  .ite (allocate_contactFits (h.frame (by simp)) _) h

theorem roomReport_contactFits : (roomReport e c).ContactFits := by
  unfold roomReport
  split
  · exact h
  · exact .ite h (.ite (h.frame (by simp [handOver])) (.ite (settlePause_contactFits (h.frame (by simp))) h))

theorem creditInterval_contactFits (energies : List (LineKey × Nat)) :
    (creditInterval e energies c).ContactFits := by
  unfold creditInterval
  split
  · exact h
  · exact .ite (h.frame (by simp)) (.ite (h.frame (by simp)) (.ite
      (.ite (h.frame (by simp)) (settlePause_contactFits (h.frame (by simp)))) (h.frame (by simp))))

theorem meteringDue_contactFits : (meteringDue e c).ContactFits :=
  .ite (.ite h (creditInterval_contactFits (h.frame (by simp)) _)) h

/-! ### Contactor, authorization and start (R24 to R28, R48 to R54) -/

/-- The contactor's input moves it between states that go with one another (R27, R36, R38). -/
theorem auxChanged_contactFits (now : Bool) : (auxChanged e now c).ContactFits := by
  unfold auxChanged
  split
  next hk =>
    have hw := h.noWait_of_contactor (by simp [hk])
    refine .ite (Session.fits_of_noWait ?_ ?_) h <;> rw [confirmClose_session]
    · exact contactorFits_runningChoice ..
    · exact hw
  next => exact .ite h (stopCause_contactFits h _)
  next hk => exact .ite h (confirmOpen_contactFits (h.noWait_of_contactor (by simp [hk])))
  next => exact h

/-- In AUTHORIZING an OPEN contactor begins to close, or the session stops because it reads closed (R26, R27). -/
theorem energizeIfReady_contactFits : (energizeIfReady e c).ContactFits := by
  unfold energizeIfReady
  split
  next hready =>
    simp only [Bool.and_eq_true, beq_iff_eq] at hready
    obtain ⟨⟨⟨hs, -⟩, -⟩, -⟩ := hready
    refine .ite (stopCause_contactFits (h.frame (by simp [setWeld])) _) (Session.fits_of_noWait ?_ ?_)
    · simp [hs, contactorFits]
    · simpa using h.noWait (by simp [hs])
  next => exact h

theorem reportGrant_contactFits : (reportGrant e c).ContactFits :=
  .ite (energizeIfReady_contactFits (h.frame (by simp))) h

theorem reportTestPassed_contactFits : (reportTestPassed e c).ContactFits :=
  .ite (energizeIfReady_contactFits (h.frame (by simp))) h

theorem reportTestFailed_contactFits : (reportTestFailed e c).ContactFits :=
  stopCause_contactFits (h.frame (by simp)) _

theorem grant_contactFits (st : AuthState) (mode : AuthMode) : (grant e st mode c).ContactFits :=
  reportGrant_contactFits (h.frame (by simp))

theorem refuse_contactFits (cause : StopCause) : (refuse e cause c).ContactFits :=
  stopCause_contactFits (h.frame (by simp)) _

theorem offlineDecision_contactFits : (offlineDecision e c).ContactFits := by
  unfold offlineDecision
  split
  · exact refuse_contactFits h _
  · exact .ite (grant_contactFits (h.frame (by simp)) _ _) (refuse_contactFits (h.frame (by simp)) _)

theorem decideAtEntry_contactFits : (decideAtEntry e c).ContactFits :=
  .ite (grant_contactFits h _ _) (.ite (offlineDecision_contactFits h) (h.frame (by simp)))

theorem takeVerdict_contactFits (number : Half) (echo : Tag) (verdict : Byte) :
    (takeVerdict e number echo verdict c).ContactFits := by
  refine .ite ?_ h
  split
  · exact .ite (grant_contactFits (h.frame (by simp)) _ _) (refuse_contactFits h _)
  · exact .ite (h.frame (by simp)) (refuse_contactFits h _)
  all_goals exact h

/-- A session starts with the contactor OPEN (R24, R25). -/
theorem evaluateStart_contactFits : (evaluateStart e c).ContactFits := by
  unfold evaluateStart
  split
  next hstart =>
    simp only [Bool.and_eq_true, beq_iff_eq] at hstart
    obtain ⟨⟨hs, -⟩, -⟩ := hstart
    have hentry : (changeState e .authorizing (c.onSession Session.begin)).ContactFits :=
      changeState_contactFits (by simpa [Session.begin, contactorFits] using congrArg (contactorFits .authorizing) (h.opened (by simp [hs])))
        (by simpa [Session.begin] using h.noWait (by simp [hs]))
    exact decideAtEntry_contactFits (hentry.frame (by simp))
  next => exact h

/-- The entries to IDLE and to ATTACHED find the contactor OPEN (R23, R40). -/
theorem enterIdle_contactFits (hs : c.session.state = .attached ∨ c.session.state = .closed) :
    (enterIdle e c).ContactFits := by
  have hk : c.session.contactor = .opened := h.opened (.inr hs)
  have hw : c.session.waitTimer = none := h.noWait (by rcases hs with hs | hs <;> simp [hs])
  exact Session.fits_of_noWait (by simp [hk, contactorFits]) (by simpa using hw)

theorem attach_contactFits (hs : c.session.state = .idle) : (attach e c).ContactFits := by
  have hentry : (changeState e .attached c).ContactFits :=
    changeState_contactFits (by rw [h.opened (.inl hs)]; rfl) (h.noWait (by simp [hs]))
  exact evaluateStart_contactFits (hentry.frame (by simp))

theorem leaveClosed_contactFits : (leaveClosed e c).ContactFits := by
  unfold leaveClosed
  split
  next hleave =>
    simp only [Bool.and_eq_true, beq_iff_eq] at hleave
    obtain ⟨⟨hs, -⟩, -⟩ := hleave
    refine .ite (enterIdle_contactFits h (.inr hs)) (.ite (evaluateStart_contactFits ?_) h)
    exact changeState_contactFits (by rw [h.opened (by simp [hs])]; rfl) (h.noWait (by simp [hs]))
  next => exact h

theorem conclude_contactFits : (conclude e c).ContactFits := leaveClosed_contactFits (evaluateStart_contactFits h)

/-! ### Sets, inputs and requests at the session (R1, R16 to R18, R21, R41, R190) -/

theorem sessionTakeSet_contactFits (stopping : Bool) : (sessionTakeSet stopping e c).ContactFits := by
  unfold sessionTakeSet
  split
  case h_1 hs => exact .ite (attach_contactFits h hs) h
  case h_2 hs => exact .ite (enterIdle_contactFits h (.inl hs)) (evaluateStart_contactFits h)
  case h_3 | h_4 | h_5 | h_6 =>
    exact .ite (stopCause_contactFits h _)
      (temperatureMove_contactFits (settlePause_contactFits (h.frame (by simp [pauseOnSet]))))
  case h_7 hs => exact .ite (stopCause_contactFits h _) (.ite (openContactor_contactFits hs) h)
  case h_8 => exact h

theorem takeSupply_contactFits : (takeSupply e c).ContactFits := by
  unfold takeSupply
  split
  · exact h
  · exact .ite (.ite (h.frame (by simp)) h) (.ite (stopCause_contactFits (h.frame (by simp)) _) h)

theorem deliverSet_contactFits (stopping : Bool) : (deliverSet stopping e c).ContactFits := by
  have hset : (if c.active then sessionTakeSet stopping e c else c).ContactFits :=
    .ite (sessionTakeSet_contactFits h _) h
  exact takeSupply_contactFits (hset.frame (by simp))

theorem reviewAux_contactFits (was : Bool) : (reviewAux was e c).ContactFits := .ite h (auxChanged_contactFits h _)

theorem windowFault_contactFits : (windowFault e c).ContactFits := .ite (converterFault_contactFits h) h

theorem windowDeliveries_contactFits (wasAux : Bool) (faults : Byte) (first : Bool) :
    (windowDeliveries wasAux faults first e c).ContactFits := by
  have haux : (reviewAux wasAux e (postSensorFault faults c)).ContactFits :=
    reviewAux_contactFits (h.frame (by simp)) _
  exact conclude_contactFits (.ite (deliverSet_contactFits (windowFault_contactFits haux) _)
    (windowFault_contactFits (deliverSet_contactFits haux _)))

theorem deliverOffer_contactFits (before : Nat) (valid : Bool) : (deliverOffer before valid e c).ContactFits := by
  have hfall : (if 0 < before ∧ e.mfe.offer = 0 then allocate true e c else c).ContactFits :=
    .ite (allocate_contactFits h true) h
  exact .ite h (conclude_contactFits (settlePause_contactFits (hfall.frame (by simp))))

theorem inputChanged_contactFits (d : DigitalInput) (wasAux event : Bool) :
    (inputChanged d wasAux event e c).ContactFits := by
  unfold inputChanged
  split
  · exact conclude_contactFits (reviewAux_contactFits h _)
  · exact .ite (conclude_contactFits (converterFault_contactFits h)) h
  · exact h

theorem reviewRequest_contactFits : (reviewRequest e c).ContactFits :=
  .ite (temperatureMove_contactFits (settlePause_contactFits (h.frame (by simp [pauseOnRequest])))) h

theorem takeRelease_contactFits : (takeRelease e c).ContactFits := by
  unfold takeRelease
  split
  case h_1 | h_2 | h_3 | h_4 => exact stopCause_contactFits h _
  case h_5 => exact stopCause_contactFits (h.frame (by simp)) _
  all_goals exact h

theorem takeRequest_contactFits (r : ChargeRequest) : (takeRequest e r c).ContactFits := by
  have hreq : (c.onSession fun s => { s with request := some r, requestTimer := some 1000 }).ContactFits :=
    h.frame (by simp)
  exact .ite (takeRelease_contactFits hreq) (reviewRequest_contactFits hreq)

theorem releaseReset_contactFits : (releaseReset e c).ContactFits := by
  unfold releaseReset
  split
  case h_1 | h_2 | h_3 => exact h.frame (by simp)
  all_goals exact stopCause_contactFits (h.frame (by simp)) _

/-! ### Timers of the session (R22, R27, R31, R35, R36, R53) -/

theorem closeTimeout_contactFits : (closeTimeout e c).ContactFits :=
  .ite (conclude_contactFits (stopCause_contactFits (h.frame (by simp)) _)) h

/-- The open confirmation runs with the contactor OPENING alone, and ends with it OPEN (R36). -/
theorem openTimeout_contactFits : (openTimeout e c).ContactFits := by
  unfold openTimeout
  split
  next hdue =>
    have hw := h.noWait_of_contactor (by simp [hdue.1])
    exact conclude_contactFits (.ite (confirmOpen_contactFits (by simpa [setWeld] using hw)) (confirmOpen_contactFits hw))
  next => exact h

/-- The current wait runs in STOPPING alone, and ends in an opening contactor (R35). -/
theorem waitTimeout_contactFits : (waitTimeout e c).ContactFits := by
  unfold waitTimeout
  split
  next hwait => exact conclude_contactFits (openContactor_contactFits (h.2 hwait).1)
  next => exact h

theorem pauseTimeout_contactFits : (pauseTimeout e c).ContactFits :=
  .ite (conclude_contactFits (stopCause_contactFits h _)) h

theorem requestTimeout_contactFits : (requestTimeout e c).ContactFits :=
  .ite (conclude_contactFits (reviewRequest_contactFits (h.frame (by simp)))) h

theorem authTimeout_contactFits : (authTimeout e c).ContactFits :=
  .ite (.ite (conclude_contactFits (offlineDecision_contactFits (h.frame (by simp)))) h) h

/-! ### The insulation monitor (R108 to R117) -/

theorem failTest_contactFits : (failTest e c).ContactFits := by
  have hfail : (reportTestFailed e (leaveMeasuring e .inoperative c)).ContactFits :=
    reportTestFailed_contactFits (h.frame (by simp))
  exact .ite (hfail.frame (by simp)) hfail

theorem passTest_contactFits : (passTest e c).ContactFits :=
  .ite (h.frame (by simp)) (reportTestPassed_contactFits (h.frame (by simp)))

theorem judgeTest_contactFits (r : RIso) : (judgeTest e r c).ContactFits :=
  .ite (.ite (passTest_contactFits (h.frame (by simp))) h) (failTest_contactFits h)

theorem enterFault_contactFits : (enterFault e c).ContactFits := by
  have hstopped := stopCause_contactFits (e := e) (h.frame (d := c.latched) (by simp)) .insulationFault
  exact (allocate_contactFits (e := e) hstopped true).frame (by simp [enterFault, Core.latched])

theorem setResult_contactFits (new : ResultState) : (setResult e new c).ContactFits := by
  refine .ite h ?_
  split
  case h_1 => exact enterFault_contactFits h
  all_goals exact h.frame (by simp)

theorem judgeBus_contactFits (r : RIso) : (judgeBus e r c).ContactFits := by
  unfold judgeBus
  split
  · exact h
  · exact setResult_contactFits (h.frame (by simp)) _

theorem endWithoutResult_contactFits : (endWithoutResult e c).ContactFits := by
  refine .ite h ?_
  split
  · exact failTest_contactFits h
  all_goals exact reportTestFailed_contactFits (h.frame (by simp))

theorem discardHalf_contactFits : (discardHalf e c).ContactFits :=
  .ite h (endWithoutResult_contactFits (h.frame (by simp)))

theorem takeResult_contactFits (r : RIso) : (takeResult e r c).ContactFits := by
  unfold takeResult
  split
  · exact judgeTest_contactFits (h.frame (by simp)) _
  all_goals exact judgeBus_contactFits (h.frame (by simp)) _

theorem acceptHalf_contactFits : (acceptHalf e c).ContactFits := by
  unfold acceptHalf
  simp only
  split
  · exact h
  · exact h
  · exact takeResult_contactFits (h.frame (by simp)) _

theorem decideHalf_contactFits : (decideHalf e c).ContactFits :=
  .ite (discardHalf_contactFits h) ((acceptHalf_contactFits (e := e) h).frame (by simp))

theorem halfPeriodEnd_contactFits (samples : List Int) : (halfPeriodEnd samples e c).ContactFits := by
  have hdecided := decideHalf_contactFits (e := e) (h.frame (d := c.onMon (takeSamples samples)) (by simp))
  exact .ite (conclude_contactFits (hdecided.frame (by simp))) h

/-! ### Messages of the post (R156 to R158) -/

theorem deliverVerdict_contactFits (number : Half) (echo : Tag) (verdict : Byte) :
    (deliverVerdict number echo verdict e c).ContactFits :=
  conclude_contactFits (takeVerdict_contactFits h ..)

theorem deliverStop_contactFits : (deliverStop e c).ContactFits :=
  conclude_contactFits (stopCause_contactFits h _)

theorem deliver_contactFits (k : PostKind) (content : List Byte) : (deliver k content e c).ContactFits :=
  deliver_keeps h (fun _ => h.frame (by simp)) (fun _ _ _ => deliverVerdict_contactFits h ..)
    (fun _ _ _ _ _ => h.frame (by simp)) (fun _ _ => h.frame (by simp)) (deliverStop_contactFits h) k content

theorem takeSegment_contactFits (k : PostKind) (segByte : Byte) (bytes : List Byte) :
    (takeSegment k segByte bytes e c).ContactFits := by
  unfold takeSegment
  simp only
  split
  · exact .ite (deliver_contactFits (h.frame (by simp)) _ _) (h.frame (by simp))
  · exact h.frame (by simp)

theorem receiveFrame_contactFits (f : CanFrame) : (receiveFrame f e c).ContactFits := by
  refine .ite ?_ h
  split
  · exact takeSegment_contactFits h ..
  · exact h

end

/-! ### Every event, every move, every step -/

theorem BlockEvent.contactFits {f : Env → Core → Core} (hf : BlockEvent f) {e : Env} {c : Core}
    (h : c.ContactFits) : (f e c).ContactFits := by
  cases hf with
  | window => exact windowDeliveries_contactFits h ..
  | offer => exact deliverOffer_contactFits h ..
  | input => exact inputChanged_contactFits h ..
  | closeTimeout => exact closeTimeout_contactFits h
  | openTimeout => exact openTimeout_contactFits h
  | waitTimeout => exact waitTimeout_contactFits h
  | pauseTimeout => exact pauseTimeout_contactFits h
  | requestTimeout => exact requestTimeout_contactFits h
  | authTimeout => exact authTimeout_contactFits h
  | allocation => exact allocationDue_contactFits h
  | halfPeriod => exact halfPeriodEnd_contactFits h _
  | metering => exact meteringDue_contactFits h
  | frame => exact receiveFrame_contactFits h _
  | verdict => exact deliverVerdict_contactFits (h.frame (by simp)) ..
  | stopMessage => exact deliverStop_contactFits (h.frame (by simp))
  | chargeRequest r => exact conclude_contactFits (takeRequest_contactFits h r)
  | stopRequest => exact conclude_contactFits (stopCause_contactFits h _)
  | config => exact conclude_contactFits h
  | resetRelease => exact conclude_contactFits (releaseReset_contactFits h)
  | clearLatches => exact conclude_contactFits (h.frame ⟨rfl, rfl, rfl⟩)
  | driverTag | clearFault => exact conclude_contactFits (h.frame (by simp))
  | draw => exact h
  | slot | quietOpen | powerLimit | tariff | time | aliveTimeout | postLimitTimeout | status | messageTimeout
  | attemptStart | attemptEnd | sleepRefused => exact h.frame (by simp)

theorem AlwaysEvent.contactFits {f : Env → Core → Core} (hf : AlwaysEvent f) {e : Env} {c : Core}
    (h : c.ContactFits) : (f e c).ContactFits := by
  cases hf with
  | release => exact conclude_contactFits (roomReport_contactFits (h.frame (by simp)))
  | supplyReset =>
    have hcut : (cutStop c).ContactFits := .ite (h.frame (by simp)) h
    exact hcut.frame (by simp)
  | loseRetention => exact h
  | notices | setTime | spendCap | allowList | tick | resetPin => exact h.frame (by simp)

/-- The close of a record found in retention leaves all but the pending close of the session (R143). -/
theorem closeRetained_session (e : Env) (c : Core) :
    ∃ b, (closeRetained e c).session = { c.session with closePending := b } := by
  unfold closeRetained
  split
  · exact ⟨_, rfl⟩
  · split
    · exact ⟨_, rfl⟩
    · simp only
      split
      · exact ⟨false, by simp [handOver]⟩
      · exact ⟨_, rfl⟩

/-- Every move keeps the contactor with the session: SLEEP and a wake leave both, a reset begins in IDLE with the
contactor OPEN (R46, R189). -/
theorem Core.Move.contactFits {c d : Core} (hm : Core.Move c d) (h : c.ContactFits) : d.ContactFits := by
  cases hm with
  | block e hf => exact hf.contactFits h
  | always _ _ hf => exact hf.contactFits h
  | sleep => exact h
  | wake => exact h.frame ⟨rfl, rfl, rfl⟩
  | cold => exact Session.fits_of_noWait rfl rfl
  | leaveReset _ e kind =>
    obtain ⟨b, hb⟩ := closeRetained_session e (c.retained e.cfg.halfPeriod kind)
    refine Session.fits_of_noWait ?_ ?_ <;> rw [hb] <;> rfl

/-- Settles O58: every step moves the blocks by events, and each keeps the contactor with the session. -/
theorem stepsKeepTheContactorWithTheSession : Obligations.StepsKeepTheContactorWithTheSession :=
  fun _ _ h hstep => (step_moves hstep).keeps (P := Core.ContactFits) (fun _ _ hm hc => hm.contactFits hc) h

end Sys2Proof.Machine
end

section
/-! PROOFS. Resets and the wake (R46, R61, R123, R143, R154, R168, R181, R184, R189, R191): the state after a COLD
reset, the blocks that a WARM or COMMAND reset leaves, the record found open in retention, and the wake. -/

namespace Sys2Proof.Machine

/-! ### The state after a COLD reset (R191) -/

/-- Settles O55: of the fixed state after a COLD reset every clause evaluates. -/
theorem resetMeetsTheInvariants : Obligations.ResetMeetsTheInvariants := by
  obtain ⟨⟨hqueue, hallow⟩, hfport⟩ := reset_storesFit
  have hmeter : Meter.reset.Fits := fun _ ho => by cases ho
  exact ⟨hqueue, hallow, hfport, hmeter, ⟨by decide, by decide, by decide, nofun⟩, ⟨by decide, nofun⟩,
    ⟨by decide, fun _ => ⟨rfl, rfl, rfl⟩, nofun⟩, rfl, rfl, rfl, by
      unfold ConfigRecord.InRange; decide⟩

/-- The lines after a COLD reset are those of a self-test (R106). -/
theorem linesOf_reset : linesOf Core.reset = Lines.reset := rfl

/-! ### The wake (R189) -/

/-- WAKE is routed to both masters (R178). -/
theorem enterNotice_wake (u : Notices) :
    enterNotice .wake u
      = { u with vehiclePending := u.vehiclePending ||| 0x2000, fleetPending := u.fleetPending ||| 0x2000 } := rfl

/-- Without a fleet byte a wake in SLEEP is the wake itself, and a transaction that wakes gets the BUSY filler. -/
theorem wakeEvent_taken {pilot vehicle flap : Bool} {s : State} (hs : s.asleep = true)
    (h : (pilot || vehicle || flap) = true) :
    wakeEvent pilot vehicle flap none s
      = if vehicle then shiftBusy (wakeUp (wakeSet pilot false vehicle flap) s)
        else wakeUp (wakeSet pilot false vehicle flap) s := by
  have hsources : (wakeSources pilot vehicle flap none != 0) = true := by
    revert h
    cases pilot <;> cases vehicle <;> cases flap <;> decide
  rw [wakeEvent, hs, hsources]
  rfl

/-- Settles O54: a source wakes the part, `wakeUp` gives the blocks their values, and the filler is formed after it. -/
theorem wakeMakesThePartActive : Obligations.WakeMakesThePartActive := by
  rintro pilot vehicle flap sources s hheld hpower hsource rfl
  have hasleep : s.asleep = true := by simp [State.asleep, hheld, hpower]
  refine ⟨_, congrArg State.done (wakeEvent_taken hasleep hsource), ?_⟩
  cases vehicle with
  | false => exact ⟨rfl, rfl, rfl, rfl, by simp [State.settle_eq, wakeUp, Core.awake, hheld, VehiclePort.reset], rfl, rfl⟩
  | true =>
    exact ⟨rfl, rfl, rfl, rfl, by
      simp [State.settle_eq, shiftBusy, busyResponse, wakeUp, Core.awake, enterNotice_wake, hheld, VehiclePort.reset,
        postWake], rfl, rfl⟩

/-! ### The record found open in retention (R139, R140, R143) -/

/-- Closing a record keeps its energy: the zero line of a record without lines has none. -/
theorem closeContent_mwh (cfg : ConfigRecord) (m : Meter) (reason : RecordEnd) (faults : Half) (r : BillingRecord) :
    (closeContent cfg m reason faults r).mwh = r.mwh := by
  show linesMwh ((if r.lines = [] then [zeroLine cfg m] else r.lines).map withCost) = linesMwh r.lines
  rw [linesMwh_withCost]
  split
  next h => rw [h]; rfl
  · rfl

theorem handOver_meter (e : Env) (r : BillingRecord) (c : Core) :
    (handOver e r c).meter = { c.meter with openRec := none } := by
  simp [handOver, placeRecord_meter]

theorem handOver_queue (e : Env) (r : BillingRecord) (c : Core) :
    (handOver e r c).queue = c.queue.place r := by simp [handOver]

theorem handOver_session (e : Env) (r : BillingRecord) (c : Core) :
    (handOver e r c).session = { c.session with closePending := false } := by simp [handOver]

/-- A placed record is RECORD-READY for the fleet master (R146). -/
theorem placeRecord_ready (e : Env) (r : BillingRecord) (c : Core) :
    hasBit (placeRecord e r c).notices.fleetPending Notice.recordReady.code = true := by
  have hready : hasBit (enterNotice .recordReady c.notices).fleetPending Notice.recordReady.code = true := by
    rw [hasBit_enterNotice_fleet _ _ (by decide), show hasBit fleetRouted Notice.recordReady.code = true by decide]
    simp
  show hasBit (postFull _ _).notices.fleetPending _ = true
  unfold postFull
  split
  · rw [post_notices, hasBit_enterNotice_fleet _ _ (by decide)]
    exact Bool.or_eq_true_iff.2 (.inl hready)
  · exact hready

theorem handOver_ready (e : Env) (r : BillingRecord) (c : Core) :
    hasBit (handOver e r c).notices.fleetPending Notice.recordReady.code = true := placeRecord_ready e r _

/-- The record that a reset closes: as RESET, with a stop cause that it held as a copy in its faults-seen (R143). -/
def resetRecord (e : Env) (m : Meter) (o : OpenRecord) : BillingRecord :=
  closeContent e.cfg m .reset (faultsWith o.record.faultsSeen (copiedCause o.record)) o.record

theorem closeRetained_idle {e : Env} {c : Core} (h : ∀ o, c.meter.openRec = some o → o.closeRequested = true) :
    closeRetained e c = c := by
  unfold closeRetained
  split
  · rfl
  next o ho => rw [if_pos (h o ho)]

theorem closeRetained_places {e : Env} {c : Core} {o : OpenRecord} (ho : c.meter.openRec = some o)
    (hrun : o.closeRequested = false) (hroom : c.queue.room = true) :
    closeRetained e c = handOver e (resetRecord e c.meter o) c := by
  simp [closeRetained, resetRecord, ho, hrun, hroom]

theorem closeRetained_waits {e : Env} {c : Core} {o : OpenRecord} (ho : c.meter.openRec = some o)
    (hrun : o.closeRequested = false) (hroom : c.queue.room = false) :
    closeRetained e c
      = c.onMeter fun m => { m with openRec := some { record := resetRecord e c.meter o, closeRequested := true } } := by
  simp [closeRetained, resetRecord, ho, hrun, hroom]

/-- Of the meter a record found open changes the open record alone. -/
theorem closeRetained_meter (e : Env) (c : Core) :
    (closeRetained e c).meter = { c.meter with openRec := (closeRetained e c).meter.openRec } := by
  cases ho : c.meter.openRec with
  | none => rw [closeRetained_idle (by simp [ho])]
  | some o =>
    cases hrun : o.closeRequested with
    | true => rw [closeRetained_idle (by simp [ho, hrun])]
    | false =>
      cases hroom : c.queue.room with
      | true => rw [closeRetained_places ho hrun hroom, handOver_meter]
      | false => rw [closeRetained_waits ho hrun hroom]; rfl

/-- A session that hears nothing is asked nothing: without a pending close the session stays as it is. -/
theorem closeRetained_settled {e : Env} {c : Core} (h : c.session.closePending = false) :
    (closeRetained e c).session = c.session := by
  unfold closeRetained
  split
  · rfl
  · split
    · rfl
    · simp only
      split
      · rw [handOver_session, ← h]
      · rfl

/-- A record found open is closed as RESET and placed where there is room, and waits otherwise (R143). -/
theorem closeRetained_closes {e : Env} {c : Core} {o : OpenRecord} (ho : c.meter.openRec = some o)
    (hrun : o.closeRequested = false) :
    (c.queue.room = true → (closeRetained e c).meter.openRec = none
      ∧ hasBit (closeRetained e c).notices.fleetPending Notice.recordReady.code = true
      ∧ (closeRetained e c).queue = c.queue.place (resetRecord e c.meter o))
    ∧ (c.queue.room = false → (closeRetained e c).queue = c.queue
      ∧ (closeRetained e c).meter.openRec = some { record := resetRecord e c.meter o, closeRequested := true }) := by
  constructor <;> intro hroom
  · rw [closeRetained_places ho hrun hroom, handOver_meter, handOver_queue]
    exact ⟨rfl, handOver_ready .., rfl⟩
  · rw [closeRetained_waits ho hrun hroom]
    exact ⟨rfl, rfl⟩

/-! ### Leaving a reset (R184) -/

/-- The kind of a reset with a valid retention area. -/
def retainedKind (cause : ResetCause) : ResetKind := if cause = .command then .command else .warm

/-- With a valid retention area the blocks keep the retained items, and a record found open is closed. -/
theorem resetExit_retained {s : State} {cause : ResetCause} (hh : s.core.sup.held = some cause)
    (hv : s.core.sup.retentionValid = true) :
    resetExit s =
      { s with
        env := { s.env with mfe := Mfe.afterReset s.env.cfg }
        core := closeRetained { s.env with mfe := Mfe.afterReset s.env.cfg }
          (s.core.retained s.env.cfg.halfPeriod (retainedKind cause))
        vport := VehiclePort.reset
        fport := FleetPort.reset } := by
  unfold resetExit
  rw [hh, hv]
  cases cause <;> rfl

theorem Monitor.retained_eq (halfPeriod : Nat) (m : Monitor) :
    m.retained halfPeriod = { Monitor.reset with
      timer := some halfPeriod
      result := if m.result = .fault then .fault else .noResult
      last := if m.result = .fault then m.faultResult else none
      faultResult := if m.result = .fault then m.faultResult else none } := by
  cases h : m.result <;> simp [Monitor.retained, h, Monitor.reset]

/-- Settles O53: an invalid retention area leaves the COLD values; a valid one leaves `Core.retained`, whose frame laws
and the rule of the record found open give the clauses. -/
theorem resetExitKeepsTheRetentionArea : Obligations.ResetExitKeepsTheRetentionArea := by
  intro cause s hheld
  constructor
  · intro hlost
    show (resetExit s).done = _
    have hexit : resetExit s = leaveReset .cold s := by rw [resetExit, hheld, hlost]; rfl
    rw [hexit, leaveReset, State.done_eq, State.settle_eq]
    exact congrArg (fun lines => Host.Outcome.next
      { State.reset with core := { Core.reset with drawn := s.core.drawn }, lines, pending := s.pending })
      linesOf_reset
  intro hvalid
  have hexit := resetExit_retained hheld hvalid
  generalize hc : s.core.retained s.env.cfg.halfPeriod (retainedKind cause) = c at hexit
  generalize he : ({ s.env with mfe := Mfe.afterReset s.env.cfg } : Env) = e at hexit
  have hup : (closeRetained e c).sup.held = none := by rw [closeRetained_sup, ← hc]; rfl
  have hopen : c.meter.openRec = s.core.meter.openRec := by rw [← hc]; rfl
  have hqueue : c.queue = s.core.queue := by rw [← hc]; rfl
  have hmeter : c.meter = s.core.meter.retained := by rw [← hc]; rfl
  refine ⟨_, congrArg State.done hexit, rfl, ?_, rfl, rfl, ?_, ?_, ?_, ?_, ?_, ?_, ?_, ?_, ?_⟩
  case refine_1 => rw [State.settle_vport, hup]; rfl
  case refine_2 => exact (closeRetained_settled (by rw [← hc]; rfl)).trans (by rw [← hc]; rfl)
  case refine_3 => exact (closeRetained_auth ..).trans (by rw [← hc]; rfl)
  case refine_4 => exact (closeRetained_alloc ..).trans (by rw [← hc]; rfl)
  case refine_5 => exact (closeRetained_heater ..).trans (by rw [← hc]; rfl)
  case refine_6 =>
    refine (closeRetained_mon e c).trans ?_
    rw [← hc]
    exact Monitor.retained_eq ..
  case refine_7 => exact (closeRetained_sup ..).trans (by rw [← hc]; rfl)
  case refine_8 =>
    refine (closeRetained_meter e c).trans ?_
    rw [hmeter]
    rfl
  case refine_9 =>
    intro h
    have hidle : closeRetained e c = c := closeRetained_idle (by rwa [hopen])
    refine ⟨?_, ?_, ?_, ?_⟩ <;> simp only [State.settle_core, hidle, hopen, hqueue] <;> rw [← hc] <;> rfl
  case refine_10 =>
    intro o ho hrun
    obtain ⟨hplaced, hwaits⟩ := closeRetained_closes (e := e) (hopen.trans ho) hrun
    rw [hqueue] at hplaced hwaits
    constructor <;> intro hroom
    · obtain ⟨hnone, hready, hplace⟩ := hplaced hroom
      refine ⟨hnone, hready, _, hplace, rfl, rfl, rfl, by rw [hmeter]; rfl, closeContent_mwh .., ?_⟩
      show faultsWith _ (copiedCause o.record) = _
      unfold copiedCause
      split <;> simp_all [faultsWith]
    · obtain ⟨hkept, hrec⟩ := hwaits hroom
      exact ⟨hkept, _, hrec, rfl, rfl⟩

end Sys2Proof.Machine
end

section
/-! PROOFS. The driven lines (R20, R81, R94, R106, R123, R179, R184): what each line says of the state. -/

namespace Sys2Proof.Machine

/-! ### Each line, as the state gives it -/

/-- The converter is enabled in PREHEAT and CHARGING (R20). -/
theorem SessionState.powered_iff {x : SessionState} : x.powered = true ↔ x = .preheat ∨ x = .charging := by
  cases x <;> decide

/-- The contactor is driven while it closes in AUTHORIZING, and closed in the states with power (R20). -/
theorem contactorDrive_iff (x : Session) :
    contactorDrive x = true ↔ (x.state = .authorizing ∧ x.contactor = .closing)
      ∨ (x.contactor = .closed
        ∧ (x.state = .preheat ∨ x.state = .charging ∨ x.state = .paused ∨ x.state = .stopping)) := by
  cases hs : x.state <;> cases hk : x.contactor <;> simp [contactorDrive, hs, hk]

/-- The request load is in from the closing of the contactor to the end of STOPPING (R20). -/
theorem pilotLoad_iff (x : Session) :
    pilotLoad x = true ↔ (x.state = .authorizing ∧ x.contactor = .closing)
      ∨ x.state = .preheat ∨ x.state = .charging ∨ x.state = .paused ∨ x.state = .stopping := by
  cases hs : x.state <;> cases hk : x.contactor <;> simp [pilotLoad, hs, hk]

/-- Outside PREHEAT and CHARGING, and under a FAULT, the command line carries nothing (R81). -/
theorem commandLine_zero {c : Core} (h : c.session.state.powered = false ∨ c.mon.result = .fault) :
    commandLine c = 0 := by
  rcases h with h | h <;> simp [commandLine, h]

/-- The heater energizes at most one segment at a time (R94). -/
theorem linesOf_segments (c : Core) : (linesOf c).segments.toList.count true ≤ 1 := by
  unfold linesOf
  split
  · decide
  · simp only
    generalize c.heater.energized = k
    rcases k with _ | (_ | _ | _ | _) <;> decide

theorem linesOf_commandDuty {c : Core} (h : c.session.state.powered = false ∨ c.mon.result = .fault) :
    (linesOf c).commandDuty = 0 := by
  unfold linesOf
  split
  · rfl
  · simp [commandLine_zero h]

/-- A part that is not held in reset drives its lines as its blocks give them. -/
theorem linesOf_free {c : Core} (h : c.sup.held = none) :
    ((linesOf c).converterEnable = true ↔ c.session.state.powered = true)
      ∧ (linesOf c).contactorDrive = contactorDrive c.session
      ∧ (linesOf c).pilotLoad = pilotLoad c.session
      ∧ ((linesOf c).referencePath = true ↔ c.mon.state = .selfTest)
      ∧ ((linesOf c).vehicleAttention = true ↔ c.notices.vehiclePending &&& c.notices.vehicleEnable ≠ 0)
      ∧ ((linesOf c).fleetAttention = true ↔ c.notices.fleetPending &&& c.notices.fleetEnable ≠ 0) := by
  simp [linesOf, h]

/-- A part held in reset withdraws every line (R184). -/
theorem linesOf_held {c : Core} (h : c.sup.held.isSome = true) :
    linesOf c = { Lines.reset with generator := 0, referencePath := false } := by simp [linesOf, h]

/-- Settles O2: every command ends with `State.settle`, so the lines are `linesOf` of the blocks, and READY is negated
in a part held in reset. -/
theorem commandsLeaveTheLinesAsTheStateGivesThem : Obligations.CommandsLeaveTheLinesAsTheStateGivesThem := by
  intro i s
  obtain ⟨u, hu⟩ := exec_answers i s
  refine ⟨_, hu, rfl, linesOf_segments u.core, linesOf_commandDuty, ?_, ?_⟩
  · intro hfree
    obtain ⟨hconverter, hdrive, hload, hpath, hvehicle, hfleet⟩ := linesOf_free hfree
    exact ⟨hconverter.trans SessionState.powered_iff,
      (iff_of_eq (congrArg (· = true) hdrive)).trans (contactorDrive_iff _),
      (iff_of_eq (congrArg (· = true) hload)).trans (pilotLoad_iff _), hpath, hvehicle, hfleet⟩
  · intro hheld
    have hready : u.settle.vport.ready = false := by
      have hnot : u.core.sup.held.isNone = false := Option.isNone_eq_false_iff.2 hheld
      rw [State.settle_vport, hnot]
      exact Bool.and_false _
    have hlines : u.settle.lines = _ := linesOf_held hheld
    rw [hlines]
    exact ⟨hready, rfl, rfl, rfl, rfl, rfl, rfl, rfl, rfl, rfl⟩

end Sys2Proof.Machine
end

section
/-! PROOFS. CLEAR-WELD and CLEAR-INSULATION-FAULT (R43, R120). -/

namespace Sys2Proof.Machine

/-! ### The operand of CLEAR-WELD (R43) -/

theorem latchOperand_none {mask : Byte} (hw : hasBit mask 0 = false) (hc : hasBit mask 1 = false) :
    latchOperand [mask] = none := by simp [latchOperand, hw, hc]

theorem latchOperand_some {mask : Byte} (h : hasBit mask 0 = true ∨ hasBit mask 1 = true) :
    latchOperand [mask] = some (hasBit mask 0, hasBit mask 1) := if_pos (Bool.or_eq_true_iff.2 h)

theorem latchActive_iff (m : Mfe) (mask : Byte) :
    latchActive m (hasBit mask 0, hasBit mask 1) = true
      ↔ (hasBit mask 0 = true ∧ m.aux.active = true) ∨ (hasBit mask 1 = true ∧ m.fault.active = true) := by
  simp [latchActive]

/-! ### The owners in a session and at rest -/

/-- An owner of a request of a session at rest moves the session no further. -/
theorem okWith_rests {s : State} {f : Core → Core} (h : (f s.core).session.Rests) :
    okWith (s.run fun e c => conclude e (f c)) = okWith { s with core := f s.core } := by
  show okWith { s with core := conclude s.env (f s.core) } = _
  rw [conclude_rests h]

section
variable {s : State} {mask : Byte}

theorem ownClearWeld_unnamed (hw : hasBit mask 0 = false) (hc : hasBit mask 1 = false) :
    ownClearWeld [mask] s = refusedWith .badRequest s := withOperand_none (latchOperand_none hw hc) s

theorem ownClearWeld_busy (hm : hasBit mask 0 = true ∨ hasBit mask 1 = true) (hb : s.core.session.state.busy = true) :
    ownClearWeld [mask] s = refusedWith .refusedState s :=
  (withOperand_some (latchOperand_some hm) s).trans (if_pos hb)

/-- At rest an active input refuses the whole request, and otherwise the named latches are cleared. -/
theorem ownClearWeld_rests (hm : hasBit mask 0 = true ∨ hasBit mask 1 = true) (hr : s.core.session.Rests) :
    ownClearWeld [mask] s
      = if (hasBit mask 0 = true ∧ s.env.mfe.aux.active = true) ∨ (hasBit mask 1 = true ∧ s.env.mfe.fault.active = true)
        then refusedWith .latchActive s
        else okWith { s with core := s.core.onSession (Session.clearLatches (hasBit mask 0, hasBit mask 1)) } := by
  have hclear := okWith_rests (s := s)
    (f := fun c => c.onSession (Session.clearLatches (hasBit mask 0, hasBit mask 1))) hr
  rw [ownClearWeld, withOperand_some (latchOperand_some hm), State.session, if_neg (by simp [hr.notBusy]), hclear]
  simp only [latchActive_iff]

theorem ownClearInsulationFault_busy (hb : s.core.session.state.busy = true) :
    ownClearInsulationFault [] s = refusedWith .refusedState s := if_pos hb

theorem ownClearInsulationFault_rests (hr : s.core.session.Rests) :
    ownClearInsulationFault [] s = okWith { s with core := s.core.onMon clearFault } := by
  have hnot : ¬s.session.busy = true := by rw [State.session, hr.notBusy]; exact Bool.false_ne_true
  exact (if_neg hnot).trans (okWith_rests (f := fun c => c.onMon clearFault) hr)

end

/-- Only a FAULT is cleared, with its result and counts (R120, log 43). -/
theorem clearFault_eq (m : Monitor) :
    clearFault m
      = if m.result = .fault then { m with result := .noResult, faultResult := none, low := 0, good := 0 } else m := by
  simp [clearFault]

/-- Settles O20: each request by what its owner answers in a session and at rest. -/
theorem latchesAreClearedByRequest : Obligations.LatchesAreClearedByRequest := by
  intro q mask s h
  refine ⟨fun hw hc => vehicleDispatch_refused h (ownClearWeld_unnamed hw hc), fun hm => ⟨fun hb => ?_, fun hr => ?_⟩,
    fun hb => vehicleDispatch_refused h (ownClearInsulationFault_busy hb), fun hr => ?_⟩
  · exact vehicleDispatch_refused h (ownClearWeld_busy hm hb)
  · have hown := ownClearWeld_rests (s := shiftHeld s) hm hr
    split
    next hactive => exact vehicleDispatch_refused h (hown.trans (if_pos hactive))
    next hquiet => exact vehicleDispatch_done h (hown.trans (if_neg hquiet))
  · have hown := ownClearInsulationFault_rests (s := shiftHeld s) hr
    rw [← clearFault_eq]
    exact vehicleDispatch_done h hown

end Sys2Proof.Machine
end

section
/-! PROOFS. The rules of the stop sequence (R32 to R37): the blocks at the entry to STOPPING, and the four things that
its contactor can then do. -/

namespace Sys2Proof.Machine

/-! ### The entry to STOPPING (R34) -/

/-- The blocks at the entry to STOPPING, before the contactor is dealt with (R34). -/
def stopReady (e : Env) (cause : StopCause) (c : Core) : Core :=
  copyFaults (c.onSession fun s => { s with endReason := some cause })
    |> changeState e .stopping
    |> (fun c => c.onSession fun s => { s with pauseCauses := 0 })
    |> authOnStopping
    |> monitorOnStopping e
    |> allocate true e

theorem enterStopping_eq (e : Env) (cause : StopCause) (c : Core) :
    enterStopping e cause c = startOpening e cause (stopReady e cause c) := rfl

section
variable (e : Env) (cause : StopCause) (c : Core)

@[simp] theorem stopReady_session : (stopReady e cause c).session = c.session.stopped cause := by
  rw [stopReady, allocate_session_notLive (by simp; rfl)]
  simp [Session.stopped]

@[simp] theorem stopReady_record : (stopReady e cause c).alloc.record = AllocRecord.zero := by
  rw [stopReady, allocate_record_notLive (by simp; rfl), nextRecord_zero (by simp)]

@[simp] theorem stopReady_queue : (stopReady e cause c).queue = c.queue := by simp [stopReady]

@[simp] theorem stopReady_sup : (stopReady e cause c).sup = c.sup := by simp [stopReady]

@[simp] theorem stopReady_link : (stopReady e cause c).link = c.link := by simp [stopReady]

/-- The end reason and the faults seen are copied into a running record (R139). -/
@[simp] theorem stopReady_meter :
    (stopReady e cause c).meter = (copyFaults (c.onSession fun s => { s with endReason := some cause })).meter := by
  simp [stopReady]

/-- WAITING is given up, and any other state of the authorization unit stays (R55). -/
@[simp] theorem stopReady_auth :
    (stopReady e cause c).auth
      = if c.auth.state = .waiting then { c.auth with state := .refused, request := none } else c.auth := by
  have hfollow (d : Core) : (authOnStopping d).auth
      = if d.auth.state = .waiting then { d.auth with state := .refused, request := none } else d.auth := by
    unfold authOnStopping
    split <;> simp_all
  simp only [stopReady, allocate_auth, monitorOnStopping_auth, hfollow, Core.onSession_auth, changeState_auth,
    copyFaults_auth]

@[simp] theorem leaveMeasuring_notices (e : Env) (new : MonitorState) (c : Core) :
    (leaveMeasuring e new c).notices = c.notices := by simp [leaveMeasuring]

@[simp] theorem monitorOnStopping_notices (e : Env) (c : Core) : (monitorOnStopping e c).notices = c.notices := by
  unfold monitorOnStopping
  split <;> simp

/-- SESSION-STATE is posted, and nothing else (R44). -/
@[simp] theorem stopReady_notices : (stopReady e cause c).notices = enterNotice .sessionState c.notices := by
  rw [stopReady, allocate_notices_notLive (by simp; rfl)]
  simp

end

/-! ### The contactor at the entry to STOPPING (R34, R36) -/

section
variable {e : Env} {cause : StopCause} {c : Core} (hl : c.session.state.live = true)
include hl

/-- From CLOSING the open confirmation runs (R27, log 16). -/
theorem stopCause_closing (hk : c.session.contactor = .closing) :
    stopCause e cause c = beginOpening (stopReady e cause c) := by
  have hclosing : (stopReady e cause c).session.contactor = .closing := by rw [stopReady_session]; exact hk
  rw [stopCause_live hl, enterStopping_eq, startOpening, hclosing]

/-- With the contactor OPEN the stop sequence is over at once (R34). -/
theorem stopCause_opened (hk : c.session.contactor = .opened) :
    stopCause e cause c = enterClosed e (stopReady e cause c) := by
  have hopened : (stopReady e cause c).session.contactor = .opened := by rw [stopReady_session]; exact hk
  rw [stopCause_live hl, enterStopping_eq, startOpening, hopened]

/-- With the contactor CLOSED a cause that does not open at once waits for the current (R34, R35). -/
theorem stopCause_waits (hk : c.session.contactor = .closed) (ha : cause.atOnce = false) :
    stopCause e cause c = (stopReady e cause c).onSession fun s => { s with waitTimer := some 500 } := by
  have hclosed : (stopReady e cause c).session.contactor = .closed := by rw [stopReady_session]; exact hk
  rw [stopCause_live hl, enterStopping_eq, startOpening, hclosed]
  simp only [ha, Bool.false_eq_true, if_false]

/-- A cause of the class "at once" opens a CLOSED contactor whose contact reads closed (R32, R34, R36). -/
theorem stopCause_opens (hk : c.session.contactor = .closed) (ha : cause.atOnce = true)
    (haux : e.mfe.aux.active = true) : stopCause e cause c = beginOpening (stopReady e cause c) := by
  have hclosed : (stopReady e cause c).session.contactor = .closed := by rw [stopReady_session]; exact hk
  rw [stopCause_live hl, enterStopping_eq, startOpening, hclosed]
  simp only [ha, if_true, openContactor, haux]

end

/-! ### A session that stops on its current (R32, R34, R35) -/

/-- PREHEAT, CHARGING and PAUSED keep pause causes. -/
theorem SessionState.live_of_energized {x : SessionState} (h : x = .preheat ∨ x = .charging ∨ x = .paused) :
    x.live = true := by rcases h with rfl | rfl | rfl <;> rfl

section
variable {e : Env} {cause : StopCause} {c : Core}
  (hs : c.session.state = .preheat ∨ c.session.state = .charging ∨ c.session.state = .paused)
  (hk : c.session.contactor = .closed) (ha : cause.atOnce = false)
include hs hk ha

/-- Nothing follows an event whose stop cause waits for the current. -/
theorem conclude_waits :
    conclude e (stopCause e cause c)
      = (stopReady e cause c).onSession fun s => { s with waitTimer := some 500 } := by
  rw [stopCause_waits (SessionState.live_of_energized hs) hk ha]
  exact conclude_busy (by rw [Core.onSession_session, stopReady_session]; rfl)

/-- The next state of an event of the blocks that stops the session on its current. -/
theorem stoppedOnCurrent_conclude {t : State} (hh : c.sup.held = none)
    (ht : t.core = conclude e (stopCause e cause c)) (hlines : t.lines = linesOf t.core) :
    StoppedOnCurrent cause t := by
  rw [conclude_waits hs hk ha] at ht
  refine stoppedOnCurrent_of (x := c.session) hk ?_ ?_ ?_ hlines <;> rw [ht]
  · rw [Core.onSession_session, stopReady_session]
  · rw [Core.onSession_alloc, stopReady_record]
  · rw [Core.onSession_sup, stopReady_sup, hh]

end

end Sys2Proof.Machine
end

section
/-! PROOFS. The deferred actions (R45, R172, R187 to R189): RESET and SLEEP answered first, and what their release does
in the states of the session. -/

namespace Sys2Proof.Machine

/-! ### The answers (R187, R188) -/

/-- A RESET is answered OK with its deferred action. -/
theorem reset_done {s : State} (q : Byte) (h : VehicleTakes s) :
    exec (.reset q []) s = .next (afterVehicle s s.core 0x0D q .ok [] .reset) := by
  obtain ⟨hheld, hpower, hready, hdeferred⟩ := id h
  exact vehicleRequest_processed (Core.up_of_active hheld hpower) hready hdeferred
    ((dispatch_vehicle ownReset [] h).trans rfl)

theorem ownSleep_eq (s : State) :
    ownSleep [] s
      = if s.core.session.state ≠ .idle then refusedWith .refusedState s
        else if wakingSources s.env.mfe s.fport ≠ 0 then
          { state := s, status := .wakePending, content := [wakingSources s.env.mfe s.fport] }
        else okWith s := rfl

/-- A SLEEP is answered as its conditions allow, and OK alone carries the deferred action. -/
theorem sleep_done {s : State} (q : Byte) (h : VehicleTakes s) :
    exec (.sleep q []) s = .next (
      if s.core.session.state ≠ .idle then afterVehicle s s.core 0x0C q .refusedState [] .none
      else if wakingSources s.env.mfe s.fport ≠ 0 then
        afterVehicle s s.core 0x0C q .wakePending [wakingSources s.env.mfe s.fport] .none
      else afterVehicle s s.core 0x0C q .ok [] .sleep) := by
  obtain ⟨hheld, hpower, hready, hdeferred⟩ := id h
  have hup := Core.up_of_active hheld hpower
  have hown := (dispatch_vehicle ownSleep [] h).trans (ownSleep_eq _)
  split
  next hs => exact vehicleRequest_processed hup hready hdeferred (hown.trans (if_pos hs))
  next hs =>
    rw [if_neg (show ¬(shiftHeld s).core.session.state ≠ .idle from hs)] at hown
    split
    next hw => exact vehicleRequest_processed hup hready hdeferred (hown.trans (if_pos hw))
    next hw => exact vehicleRequest_processed hup hready hdeferred (hown.trans (if_neg hw))

/-! ### The release (R172) -/

/-- The port when a transaction has collected the answer of a deferred action: its slot is EMPTY (R172, log 30). -/
def State.collected (s : State) : State :=
  { s with vport :=
    { VehiclePort.reset with
      ready := s.vport.ready
      shiftedOut := some (s.vport.held.getD (nullResponse s.core)) } }

/-- A transaction that finds a deferred action collects the answer and releases the action. -/
theorem releaseDeferred_eq (s : State) : releaseDeferred s = releaseAction s.vport.deferred s.collected := rfl

section
variable {s : State} (hu : s.core.up = true) (hr : s.vport.ready = true)
include hu hr

theorem deferredActionRelease_eq (hd : s.vport.deferred ≠ .none) :
    exec .deferredActionRelease s = (releaseAction s.vport.deferred s.collected).done := by
  show (collectDeferred s).done = _
  rw [collectDeferred, if_pos (by simp [hu, hr, hd]), releaseDeferred_eq]

/-- Any request of the vehicle port does what the release command does (R172). -/
theorem request_releases (hd : s.vport.deferred ≠ .none) {i : Instr} (hi : i.vehicleHeader.isSome = true) :
    exec i s = exec .deferredActionRelease s := by
  obtain ⟨⟨k, q, c⟩, hi⟩ := Option.isSome_iff_exists.1 hi
  obtain ⟨own, action, -, hexec⟩ := exec_vehicleHeader hi
  rw [hexec, vehicleRequest_deferred k q action own c hu hr hd, deferredActionRelease_eq hu hr hd, releaseDeferred_eq]

end

/-! ### A RESET is released (R45, R187) -/

/-- A part that has taken a reset follows no event further (R187, log 24). -/
theorem conclude_held {e : Env} {c : Core} (h : c.sup.held.isSome = true) : conclude e c = c := by
  have hnot : c.active = false := by simp [Core.active, Option.isNone_eq_false_iff.2 h]
  simp [conclude, evaluateStart, leaveClosed, hnot]

theorem releaseReset_rests {e : Env} {c : Core}
    (h : c.session.state = .idle ∨ c.session.state = .attached ∨ c.session.state = .closed) :
    releaseReset e c = takeReset .command c := by
  rcases h with h | h | h <;> rw [releaseReset, h]

theorem releaseReset_energized {e : Env} {c : Core}
    (h : c.session.state = .preheat ∨ c.session.state = .charging ∨ c.session.state = .paused) :
    releaseReset e c = stopCause e .resetCommand (c.onSup fun p => { p with deferredReset := true }) := by
  rcases h with h | h | h <;> rw [releaseReset, h]

/-- Settles O23: the answers by what the owners return, the release by the state that the session is in. -/
theorem deferredActionsAreReleased : Obligations.DeferredActionsAreReleased := by
  intro q s
  refine ⟨fun h => ⟨reset_done q h, sleep_done q h⟩, fun hu hr => ⟨fun hd i => request_releases hu hr hd,
    fun hd => ?reset, fun hd hidle hquiet => ?sleep⟩⟩
  case reset =>
    have hrelease := deferredActionRelease_eq hu hr (by simp [hd])
    rw [hd] at hrelease
    have hheld := held_of_up hu
    refine ⟨fun hs => ?_, fun hs hk => ?_⟩
    · have hcore : conclude s.env (releaseReset s.env s.core) = takeReset .command s.core := by
        rw [releaseReset_rests hs, conclude_held rfl]
      refine ⟨_, hrelease, rfl, rfl, rfl, hcore, ?_⟩
      show ({ s.collected.vport with ready := s.vport.ready && (conclude s.env (releaseReset s.env s.core)).sup.held.isNone }
        : VehiclePort) = _
      rw [hcore, show (takeReset .command s.core).sup.held.isNone = false from rfl, Bool.and_false]
      rfl
    · let c : Core := s.core.onSup fun p => { p with deferredReset := true }
      have hcore : conclude s.env (releaseReset s.env s.core) = conclude s.env (stopCause s.env .resetCommand c) := by
        rw [releaseReset_energized hs]
      have hready := conclude_waits (e := s.env) (cause := .resetCommand) (c := c) hs hk rfl
      have hsup : (conclude s.env (releaseReset s.env s.core)).sup = c.sup := by
        rw [hcore, hready, Core.onSession_sup, stopReady_sup]
      refine ⟨_, hrelease, stoppedOnCurrent_conclude (c := c) hs hk rfl hheld hcore rfl, ?_, ?_, ?_, rfl⟩
      · exact (congrArg Supply.deferredReset hsup :)
      · exact (congrArg Supply.held hsup : _).trans hheld
      · show (s.vport.ready && (conclude s.env (releaseReset s.env s.core)).sup.held.isNone) = true
        rw [hsup, hr, show c.sup.held = none from hheld]
        rfl
  case sleep =>
    have hrelease := deferredActionRelease_eq hu hr (by simp [hd])
    rw [hd] at hrelease
    have hsleep : releaseAction .sleep s.collected = enterSleep s.collected := by
      have hstate : (s.collected.core.session.state == .idle) = true := beq_iff_eq.2 hidle
      rw [releaseAction, releaseSleep, if_pos hstate]
      exact if_pos hquiet
    rw [hsleep] at hrelease
    exact ⟨_, hrelease, rfl, rfl, rfl, rfl, rfl, rfl, rfl, rfl, rfl, rfl, rfl, rfl, rfl, rfl, rfl⟩

end Sys2Proof.Machine
end

section
/-! PROOFS. The vehicle charge request (R21, R22, R30, R31): what leaves it alone, its storing and its expiry. -/

namespace Sys2Proof.Machine

/-! ### What leaves the request and its timer alone (R21) -/

/-- The vehicle charge request with its timer. -/
def Session.asked (s : Session) : Option ChargeRequest × Timer := (s.request, s.requestTimer)

@[simp] theorem Session.moveTo_asked (new : SessionState) (s : Session) : (s.moveTo new).asked = s.asked := rfl

@[simp] theorem Session.stopped_asked (cause : StopCause) (s : Session) : (s.stopped cause).asked = s.asked := rfl

@[simp] theorem changeState_asked (e : Env) (new : SessionState) (c : Core) :
    (changeState e new c).session.asked = c.session.asked := by simp

@[simp] theorem setPause_asked (p : PauseCause) (on : Bool) (c : Core) :
    (setPause p on c).session.asked = c.session.asked := by
  unfold setPause
  split <;> rfl

@[simp] theorem settlePause_asked (e : Env) (c : Core) : (settlePause e c).session.asked = c.session.asked := by
  unfold settlePause
  split
  case h_1 | h_2 => split <;> simp
  case h_3 => split <;> simp [chooseRunning]
  all_goals rfl

@[simp] theorem temperatureMove_asked (e : Env) (c : Core) :
    (temperatureMove e c).session.asked = c.session.asked := by
  unfold temperatureMove
  split
  case h_1 | h_2 => split <;> simp
  all_goals rfl

@[simp] theorem setContactor_asked (k : Contactor) (c : Core) :
    (setContactor k c).session.asked = c.session.asked := by rw [setContactor_session]; rfl

@[simp] theorem beginOpening_asked (c : Core) : (beginOpening c).session.asked = c.session.asked := by
  rw [beginOpening_session]; rfl

@[simp] theorem addFault_asked (cause : StopCause) (c : Core) :
    (addFault cause c).session.asked = c.session.asked := by
  unfold addFault
  split
  · rfl
  · rw [copyFaults_session]; rfl

@[simp] theorem enterClosed_asked (e : Env) (c : Core) : (enterClosed e c).session.asked = c.session.asked := by
  obtain ⟨b, hb⟩ := enterClosed_session e c
  rw [hb]; rfl

@[simp] theorem openContactor_asked (e : Env) (c : Core) : (openContactor e c).session.asked = c.session.asked := by
  unfold openContactor confirmOpen
  split
  · exact beginOpening_asked c
  · rw [enterClosed_asked]
    exact (setContactor_asked ..).trans (beginOpening_asked c)

@[simp] theorem startOpening_asked (e : Env) (cause : StopCause) (c : Core) :
    (startOpening e cause c).session.asked = c.session.asked := by
  unfold startOpening
  split
  · exact enterClosed_asked e c
  · exact beginOpening_asked c
  · split
    · exact openContactor_asked e c
    · rfl
  · rfl

@[simp] theorem stopCause_asked (e : Env) (cause : StopCause) (c : Core) :
    (stopCause e cause c).session.asked = c.session.asked := by
  unfold stopCause
  split
  case h_1 | h_2 | h_3 | h_4 => rw [enterStopping_eq, startOpening_asked, stopReady_session, Session.stopped_asked]
  case h_5 => simp only; split <;> simp
  all_goals rfl

/-- The start of a session keeps the request that asked for it. -/
@[simp] theorem energizeIfReady_asked (e : Env) (c : Core) :
    (energizeIfReady e c).session.asked = c.session.asked := by
  unfold energizeIfReady beginEnergizing
  split
  · split
    · rw [stopCause_asked]; rfl
    · rw [setContactor_asked]; rfl
  · rfl

@[simp] theorem grant_asked (e : Env) (st : AuthState) (mode : AuthMode) (c : Core) :
    (grant e st mode c).session.asked = c.session.asked := by
  have hsettled : (post .authResult (settleMode st mode c)).session = c.session := by simp
  rw [grant, reportGrant, ← hsettled]
  split
  · rw [energizeIfReady_asked]; rfl
  · rfl

@[simp] theorem refuse_asked (e : Env) (cause : StopCause) (c : Core) :
    (refuse e cause c).session.asked = c.session.asked := by
  rw [refuse, stopCause_asked]; rfl

@[simp] theorem offlineDecision_asked (e : Env) (c : Core) :
    (offlineDecision e c).session.asked = c.session.asked := by
  unfold offlineDecision
  split
  · simp
  · simp only
    split <;> simp

@[simp] theorem decideAtEntry_asked (e : Env) (c : Core) :
    (decideAtEntry e c).session.asked = c.session.asked := by
  unfold decideAtEntry
  split
  · simp
  · split <;> simp

@[simp] theorem enterAuthorizing_asked (e : Env) (c : Core) :
    (enterAuthorizing e c).session.asked = c.session.asked := by
  rw [enterAuthorizing, decideAtEntry_asked]
  simp
  rfl

@[simp] theorem evaluateStart_asked (e : Env) (c : Core) :
    (evaluateStart e c).session.asked = c.session.asked := by
  unfold evaluateStart
  split <;> simp

@[simp] theorem enterIdle_asked (e : Env) (c : Core) : (enterIdle e c).session.asked = c.session.asked := by
  rw [enterIdle_session]; rfl

/-- Nothing that follows an event touches the request. -/
@[simp] theorem conclude_asked (e : Env) (c : Core) : (conclude e c).session.asked = c.session.asked := by
  rw [conclude, leaveClosed, ← evaluateStart_asked e c]
  split
  · split
    · exact enterIdle_asked ..
    · split
      · rw [evaluateStart_asked, changeState_asked]
      · rfl
  · rfl

@[simp] theorem reviewRequest_asked (e : Env) (c : Core) :
    (reviewRequest e c).session.asked = c.session.asked := by
  unfold reviewRequest pauseOnRequest
  split <;> simp

@[simp] theorem takeRelease_asked (e : Env) (c : Core) : (takeRelease e c).session.asked = c.session.asked := by
  unfold takeRelease
  split
  case h_5 => rw [stopCause_asked]; rfl
  case h_1 | h_2 | h_3 | h_4 => simp
  all_goals rfl

/-- A CHARGE-REQUEST is stored in every session state (R21). -/
theorem takeRequest_asked (e : Env) (r : ChargeRequest) (c : Core) :
    (takeRequest e r c).session.asked = (some r, some 1000) := by
  unfold takeRequest
  simp only
  split
  · rw [takeRelease_asked]; rfl
  · rw [reviewRequest_asked]; rfl

/-! ### The storing (R21) -/

/-- The request that the bytes of CHARGE-REQUEST bring, in range, and whether a value was changed. -/
theorem chargeOperand_bytes {i v : Nat} (flags : Byte) (hi : i < 65536) (hv : v < 65536) :
    chargeOperand (flags :: (le 2 i ++ le 2 v)) = some
      ({ chargeEnable := hasBit flags 0
         heatEnable := hasBit flags 1
         hvLive := hasBit flags 2
         iReq := min 1000 i
         vTarget := max 2500 (min 4500 v) },
        decide (1000 < i ∨ v < 2500 ∨ 4500 < v)) := by
  have hileg : leVal (le 2 i) = i := (leVal_le 2 i).trans (Nat.mod_eq_of_lt hi)
  have hvleg : leVal (le 2 v) = v := (leVal_le 2 v).trans (Nat.mod_eq_of_lt hv)
  have hflag : (clampNat 0 1000 i != i || clampNat 2500 4500 v != v) = decide (1000 < i ∨ v < 2500 ∨ 4500 < v) := by
    rw [Bool.eq_iff_iff, Bool.or_eq_true, bne_iff_ne, bne_iff_ne, decide_eq_true_iff]
    unfold clampNat
    omega
  show some (_, _) = _
  rw [show leVal [BitVec.ofNat 8 i, BitVec.ofNat 8 (i / 256)] = i from hileg,
    show leVal [BitVec.ofNat 8 v, BitVec.ofNat 8 (v / 256)] = v from hvleg, hflag]
  simp [clampNat]

/-- Settles O16: every session state stores the request, and nothing after it changes what is stored. -/
theorem chargeRequestIsStored : Obligations.ChargeRequestIsStored := by
  intro q flags i v s h hi hv
  have hown := withOperand_some (act := fun r s => okOrClamped r.2 (s.run fun e c => conclude e (takeRequest e r.1 c)))
    (chargeOperand_bytes flags hi hv) (shiftHeld s)
  have hdone := vehicleDispatch_done (q := q) (k := 0x03) (own := ownChargeRequest) h hown
  have hasked := (conclude_asked s.env _).trans (takeRequest_asked s.env
    { chargeEnable := hasBit flags 0, heatEnable := hasBit flags 1, hvLive := hasBit flags 2, iReq := min 1000 i,
      vTarget := max 2500 (min 4500 v) } s.core)
  obtain ⟨hrequest, htimer⟩ := Prod.mk.inj hasked
  refine ⟨_, hdone, hrequest, htimer, rfl, rfl, ?_⟩
  simp only [afterVehicle, decide_eq_true_eq]

/-! ### The expiry (R22, R30, R31) -/

/-- The pause causes that a session without a request has after its expiry (R30). -/
def Session.causesOnExpiry (s : Session) : Byte :=
  putBit
    (putBit (putBit s.pauseCauses PauseCause.vehicleSilent.code true) PauseCause.packVoltage.code true)
    PauseCause.sensorsInvalid.code false

theorem hasBit_causesOnExpiry (s : Session) :
    hasBit s.causesOnExpiry PauseCause.vehicleSilent.code = true
      ∧ hasBit s.causesOnExpiry PauseCause.packVoltage.code = true := by
  simp [Session.causesOnExpiry, hasBit_putBit, PauseCause.code]

/-- A session without a request is silent, not live at high voltage, and asks nothing of the sensors (R22, R30). -/
theorem pauseOnRequest_expired {e : Env} {c : Core} (hl : c.session.state.live = true)
    (hr : c.session.request = none) :
    pauseOnRequest e c = c.onSession fun s => { s with pauseCauses := c.session.causesOnExpiry } := by
  unfold pauseOnRequest
  rw [setPause_live _ _ (by rw [setPause_live _ _ (by rw [setPause_live _ _ hl]; exact hl),
      setPause_live _ _ hl]; exact hl),
    setPause_live _ _ (by rw [setPause_live _ _ hl]; exact hl), setPause_live _ _ hl]
  simp [Session.causesOnExpiry, packVoltage, sensorsInvalid, Session.hvLive, Session.chargeEnable, hr]
  rfl

/-- In the states that keep pause causes the request moves the session (R21, R22). -/
theorem reviewRequest_live {e : Env} {c : Core} (hl : c.session.state.live = true) :
    reviewRequest e c = temperatureMove e (settlePause e (pauseOnRequest e c)) := if_pos hl

/-- The expiry pauses the running pair (R22, R30). -/
theorem expireRequest_powered {e : Env} {c : Core} (hp : c.session.state.powered = true) :
    expireRequest e c = changeState e .paused
      (c.onSession fun s => { s with
        request := none, requestTimer := none, pauseCauses := c.session.causesOnExpiry }) := by
  have hl := SessionState.live_of_powered hp
  have hne : c.session.causesOnExpiry ≠ 0 := ne_zero_of_hasBit (hasBit_causesOnExpiry c.session).1
  have hpause := pauseOnRequest_expired (e := e)
    (c := c.onSession fun s => { s with request := none, requestTimer := none }) hl rfl
  rw [expireRequest, reviewRequest_live (by simpa using hl), hpause,
    settlePause_powered (by simpa using hp) hne]
  simp [temperatureMove]
  rfl

/-- A change of state out of the running pair turns the heater OFF (R86, R94). -/
theorem changeState_heaterOff {e : Env} {new : SessionState} {c : Core} (hp : c.session.state.powered = true)
    (hn : new.powered = false) :
    (changeState e new c).heater.run = .off ∧ (changeState e new c).heater.energized = none := by
  simp [changeState, heaterFollow, hp, hn, heaterOff_heater, Heater.formDemand, Heater.off]

/-- Settles O15: the expiry pauses the session, and nothing follows in PAUSED. -/
theorem requestExpiryPausesTheSession : Obligations.RequestExpiryPausesTheSession := by
  intro s hu ht hp
  obtain ⟨hsilent, hpack⟩ := hasBit_causesOnExpiry s.core.session
  obtain ⟨hrun, henergized⟩ := changeState_heaterOff (e := s.env) (new := .paused)
    (c := s.core.onSession fun x => { x with
        request := none, requestTimer := none, pauseCauses := s.core.session.causesOnExpiry }) hp rfl
  have hstep : requestTimeout s.env s.core = expireRequest s.env s.core := by
    rw [requestTimeout, if_pos ht, expireRequest_powered hp]
    exact conclude_live (by simp; rfl)
  obtain ⟨henable, hduty⟩ := linesOf_unpowered (c := expireRequest s.env s.core)
    (by rw [expireRequest_powered hp, changeState_session]; rfl)
  refine ⟨_, State.event_done requestTimeout hu, ?_⟩
  rw [hstep]
  simp only [afterBlocks, henable, hduty, and_true]
  rw [expireRequest_powered hp, changeState_session]
  exact ⟨rfl, rfl, rfl, rfl, hsilent, hpack, rfl, rfl, rfl, hrun, henergized, by simp, by simp⟩

end Sys2Proof.Machine
end

section
/-! PROOFS. The allocation timer (R30, R62, R69, R82): the record by the session state, the value handed, and the
report of the limit. -/

namespace Sys2Proof.Machine

/-! ### The value handed is recorded (R82) -/

@[simp] theorem Heater.beginSlot_lastHanded (cfg : ConfigRecord) (p : Nat) (h : Heater) :
    (h.beginSlot cfg p).lastHanded = h.lastHanded := by
  unfold Heater.beginSlot
  split
  · rfl
  · split
    · rfl
    · split <;> rfl

@[simp] theorem Heater.startFrame_lastHanded (e : Env) (h : Heater) :
    (h.startFrame e).lastHanded = h.lastHanded := by simp [Heater.startFrame]

@[simp] theorem Heater.takeBoundary_lastHanded (e : Env) (h : Heater) :
    (h.takeBoundary e).lastHanded = h.lastHanded := by
  unfold Heater.takeBoundary
  split
  next => rfl
  next => split <;> simp
  all_goals simp

@[simp] theorem trim_lastHanded (cfg : ConfigRecord) (v : Nat) (c : Core) :
    (trim cfg v c).heater.lastHanded = c.heater.lastHanded := by
  unfold trim
  simp only
  split
  · rfl
  · split <;> simp

/-- In every run state the heater records the value that it is handed. -/
theorem handHeat_lastHanded (e : Env) (v : Nat) (c : Core) : (handHeat e v c).heater.lastHanded = v := by
  unfold handHeat boundaryDue
  simp only
  split
  · rfl
  · split <;> simp
  · split <;> simp

/-! ### Allocations outside the running pair (R62) -/

/-- Outside PREHEAT and CHARGING the command line carries nothing, and nothing falls (R81, R83). -/
theorem reportFall_unpowered {c d : Core} (h : c.session.state.powered = false) : reportFall (commandLine c) d = d := by
  have hzero : commandLine c = 0 := by simp [commandLine, h]
  rw [reportFall, hzero, if_neg (by omega)]

/-- The blocks of an allocation before its report: the record replaced, a fall reported, the heater handed its value. -/
def Core.handed (e : Env) (r : AllocRecord) (c : Core) : Core :=
  handHeat e r.pHeatAlloc (reportFall (commandLine c) (c.onAlloc fun a => { a with record := r }))

theorem allocate_eq (immediate : Bool) (e : Env) (c : Core) :
    allocate immediate e c = reportLimit e (c.handed e (nextRecord immediate e c)) := rfl

section
variable (e : Env) (r : AllocRecord) (c : Core)

@[simp] theorem Core.handed_session : (c.handed e r).session = c.session := by simp [Core.handed]

@[simp] theorem Core.handed_alloc : (c.handed e r).alloc = { c.alloc with record := r } := by simp [Core.handed]

@[simp] theorem Core.handed_meter : (c.handed e r).meter = c.meter := by simp [Core.handed]

@[simp] theorem Core.handed_link : (c.handed e r).link = c.link := by simp [Core.handed]

@[simp] theorem Core.handed_queue : (c.handed e r).queue = c.queue := by simp [Core.handed]

@[simp] theorem Core.handed_auth : (c.handed e r).auth = c.auth := by simp [Core.handed]

@[simp] theorem Core.handed_lastHanded : (c.handed e r).heater.lastHanded = r.pHeatAlloc := handHeat_lastHanded ..

end

/-- With the heater OFF and without power nothing falls and no frame starts. -/
theorem Core.handed_unpowered {e : Env} {c : Core} (r : AllocRecord) (hp : c.session.state.powered = false)
    (hr : c.heater.run = .off) :
    c.handed e r = { c with
      alloc := { c.alloc with record := r }
      heater := { c.heater with lastHanded := r.pHeatAlloc, held := r.pHeatAlloc } } := by
  rw [Core.handed, reportFall_unpowered hp, handHeat_off (by simpa using hr)]
  rfl

theorem nextRecord_limit {immediate : Bool} {e : Env} {c : Core}
    (h : c.session.state = .authorizing ∨ c.session.state = .paused) : nextRecord immediate e c = limitRecord e c := by
  rcases h with h | h <;> simp [nextRecord, h]

/-- The pause causes that a set or cleared cause leaves (R30). -/
theorem setPause_becomes {p : PauseCause} {on : Bool} {causes : Byte} {c : Core} (hl : c.session.state.live = true)
    (hc : putBit c.session.pauseCauses p.code on = causes) :
    setPause p on c = c.onSession fun s => { s with pauseCauses := causes } := by
  subst hc
  exact setPause_live p on hl

/-- A report that moves no state sets LIMIT-ZERO in or out (R69). -/
theorem reportLimit_stays {e : Env} {c : Core} {causes : Byte}
    (hc : causes = putBit c.session.pauseCauses PauseCause.limitZero.code (c.alloc.record.pInLim == 0))
    (h : c.session.state = .authorizing ∨ (c.session.state = .paused ∧ causes ≠ 0)) :
    reportLimit e c = c.onSession fun s => { s with pauseCauses := causes } := by
  have hl : c.session.state.live = true := by rcases h with h | ⟨h, -⟩ <;> rw [h] <;> rfl
  rw [reportLimit, setPause_becomes hl hc.symm]
  refine settlePause_stays (fun hp => ?_) fun hs => ?_
  · rcases h with h | ⟨h, -⟩ <;> simp [h, SessionState.powered] at hp
  · exact h.elim (fun ha => absurd (ha.symm.trans hs) nofun) (·.2)

/-- PAUSED is left to the running state when the report takes its last cause out (R30, R69). -/
theorem reportLimit_resumes {e : Env} {c : Core} (hs : c.session.state = .paused) (hlim : 0 < c.alloc.record.pInLim)
    (h : putBit c.session.pauseCauses PauseCause.limitZero.code false = 0) :
    reportLimit e c = chooseRunning e (c.onSession fun s => { s with pauseCauses := 0 }) := by
  have hzero : (c.alloc.record.pInLim == 0) = false := beq_eq_false_iff_ne.2 (by omega)
  rw [reportLimit, hzero, setPause_becomes (by rw [hs]; rfl) h, settlePause]
  simp only [Core.onSession_session, hs, if_true]

/-! ### A limit of zero in the running pair (R30, R69) -/

/-- The session with LIMIT-ZERO as its only pause cause. -/
def Core.limitPause (c : Core) : Core :=
  c.onSession fun s => { s with pauseCauses := putBit 0 PauseCause.limitZero.code true }

theorem reportLimit_pauses {e : Env} {c : Core} (hp : c.session.state.powered = true)
    (h0 : c.session.pauseCauses = 0) (hlim : c.alloc.record.pInLim = 0) :
    reportLimit e c = changeState e .paused c.limitPause := by
  have hne : putBit (0 : Byte) PauseCause.limitZero.code true ≠ 0 := by decide
  rw [reportLimit, hlim, setPause_becomes (SessionState.live_of_powered hp) (by rw [h0])]
  exact settlePause_powered (c := c.limitPause) hp hne

/-- On leaving the running pair the allocator keeps its timer, and its record but for the ramp (R78, R79). -/
theorem changeState_allocPaused {e : Env} {c : Core} (hp : c.session.state.powered = true) :
    (changeState e .paused c).alloc
      = { c.alloc with record := { c.alloc.record with rampValid := false, pendingIncrease := none } } := by
  simp only [changeState, reportFall_alloc, allocFollow]
  rw [if_pos (by rw [hp]; rfl)]
  simp [leavePowered]

/-! ### The timer (R62) -/

/-- The blocks when the timer has restarted, before the allocation. -/
def Core.timed (c : Core) : Core := c.onAlloc fun a => { a with timer := some 100 }

@[simp] theorem Core.timed_session (c : Core) : c.timed.session = c.session := rfl

/-- The next state after the timer, without the attempt to leave any state. -/
theorem allocationTimer_done {s : State} (hu : s.core.up = true) (ht : s.core.alloc.timer.isSome = true) :
    exec .allocationTimerExpiry s = .next (afterBlocks s (allocate false s.env s.core.timed)) := by
  have hdue : allocationDue s.env s.core = allocate false s.env s.core.timed := if_pos ht
  rw [show exec .allocationTimerExpiry s = (s.event allocationDue).done from rfl, State.event_done _ hu, hdue]

/-- Settles O40: each kind of allocation by the session state, and the report of the limit by what it finds. -/
theorem allocationTimerReplacesTheRecord : Obligations.AllocationTimerReplacesTheRecord := by
  intro s hu ht
  rw [Completes, Completes, Completes, allocationTimer_done hu ht]
  refine ⟨fun hr hs => ?zero, fun causes hr hcauses hs => ?limit, fun hs hlim hlast => ?resumed,
    fun hp h0 => ⟨fun hlim => ?full, fun hlim => ?paused⟩⟩
  case zero =>
    have hp : s.core.session.state.powered = false := by rcases hs with h | h | h | h <;> rw [h] <;> rfl
    have hl : s.core.session.state.live = false := by rcases hs with h | h | h | h <;> rw [h] <;> rfl
    rw [allocate_eq, nextRecord_zero (c := s.core.timed) hs, reportLimit_notLive (by simpa using hl),
      Core.handed_unpowered (c := s.core.timed) _ hp hr]
    rfl
  case limit =>
    have hp : s.core.session.state.powered = false := by rcases hs with h | ⟨h, -⟩ <;> rw [h] <;> rfl
    have hstays := reportLimit_stays (e := s.env) (c := s.core.timed.handed s.env (limitRecord s.env s.core))
      (by simpa using hcauses) (by simpa using hs)
    rw [Core.handed_unpowered (c := s.core.timed) _ hp hr] at hstays
    rw [allocate_eq, nextRecord_limit (c := s.core.timed) (hs.imp_right And.left),
      Core.handed_unpowered (c := s.core.timed) _ hp hr]
    exact congrArg _ (congrArg _ hstays)
  case resumed =>
    have hresumes := reportLimit_resumes (e := s.env) (c := s.core.timed.handed s.env (limitRecord s.env s.core))
      (by simpa using hs) (by simpa using hlim) (by simpa using hlast)
    have hdue := (allocate_eq false s.env s.core.timed).trans
      ((congrArg (reportLimit s.env <| s.core.timed.handed s.env ·) (nextRecord_limit (.inr hs))).trans hresumes)
    have hsession : (allocate false s.env s.core.timed).session
        = ({ s.core.session with pauseCauses := 0 } : Session).moveTo
          (runningChoice s.env { s.core.session with pauseCauses := 0 }) := by
      rw [hdue, chooseRunning, changeState_session]
      simp [Core.timed]
    have hchoice : runningChoice s.env { s.core.session with pauseCauses := 0 }
        = if s.core.session.chargeEnable = true
            ∧ ∃ v : Int, s.env.mfe.tMin = some v ∧ s.env.cfg.permitTemp ≤ v then .charging else .preheat := by
      rw [runningChoice, if_neg (by simp)]
      exact if_congr chargePermitted_iff rfl rfl
    refine ⟨_, rfl, ?_⟩
    simp only [afterBlocks, hsession, hchoice]
    refine ⟨rfl, ?_, rfl, rfl⟩
    split <;> rfl
  case full =>
    have hdue : allocate false s.env s.core.timed = s.core.timed.handed s.env (fullRecord false s.env s.core) :=
      allocate_limitStands (c := s.core.timed) hp h0 hlim
    refine ⟨_, rfl, ?_⟩
    simp only [afterBlocks, hdue]
    exact ⟨by simp; rfl, by simp, by simp, by simp; rfl, by simp; rfl, by simp; rfl, by simp; rfl⟩
  case paused =>
    have hpauses := reportLimit_pauses (e := s.env) (c := s.core.timed.handed s.env (fullRecord false s.env s.core))
      (by simpa using hp) (by simpa using h0) (by simpa using hlim)
    have hdue := (allocate_eq false s.env s.core.timed).trans
      ((congrArg (reportLimit s.env <| s.core.timed.handed s.env ·) (nextRecord_powered hp)).trans hpauses)
    refine ⟨_, rfl, ?_⟩
    have hpowered : (s.core.timed.handed s.env (fullRecord false s.env s.core)).limitPause.session.state.powered
        = true := by simpa [Core.limitPause] using hp
    obtain ⟨hrun, henergized⟩ := changeState_heaterOff (e := s.env) (new := .paused) hpowered rfl
    obtain ⟨henable, hduty⟩ := linesOf_unpowered (c := allocate false s.env s.core.timed)
      (by rw [hdue, changeState_session]; rfl)
    simp only [afterBlocks, henable, hduty, and_true]
    rw [hdue, changeState_session, changeState_allocPaused hpowered, Core.limitPause, Core.onSession_session,
      Core.handed_session, Core.onSession_alloc, Core.handed_alloc]
    exact ⟨rfl, rfl, rfl, rfl, rfl, hrun, henergized⟩

end Sys2Proof.Machine
end

section
/-! PROOFS. The end of the stop sequence (R37, R107, R139, R140, R146): what CLOSED does to the session, the monitor and
the record, and that notices stay pending. -/

namespace Sys2Proof.Machine

/-! ### Notices stay pending (R178) -/

/-- The notice is in the pending set of a port's master. -/
def Core.Pends (p : Port) (n : Notice) (c : Core) : Prop := hasBit (c.notices.pendingOf p) n.code = true

/-- A posting takes no notice out of a pending set. -/
theorem Core.Pends.post {p : Port} {n : Notice} {c : Core} (k : Notice) (h : c.Pends p n) : (post k c).Pends p n := by
  have hcode : n.code < 16 := by cases n <;> decide
  cases p with
  | vehicle =>
    exact (hasBit_enterNotice_vehicle k c.notices hcode).trans (Bool.or_eq_true_iff.2 (.inl h))
  | fleet => exact (hasBit_enterNotice_fleet k c.notices hcode).trans (Bool.or_eq_true_iff.2 (.inl h))

/-- What leaves the notices alone leaves them pending. -/
theorem Core.Pends.frame {p : Port} {n : Notice} {c d : Core} (h : c.Pends p n) (hd : d.notices = c.notices) :
    d.Pends p n := by rwa [Core.Pends, hd]

/-- A notice that is posted enters the pending set of the vehicle master it is routed to. -/
theorem post_pends_vehicle {n : Notice} (c : Core) (h : hasBit vehicleRouted n.code = true) :
    (post n c).Pends .vehicle n :=
  (hasBit_enterNotice_vehicle n c.notices (by cases n <;> decide)).trans (by simp [h])

theorem post_pends_fleet {n : Notice} (c : Core) (h : hasBit fleetRouted n.code = true) : (post n c).Pends .fleet n :=
  (hasBit_enterNotice_fleet n c.notices (by cases n <;> decide)).trans (by simp [h])

section
variable {p : Port} {n : Notice} {c : Core} (h : c.Pends p n) (e : Env)
include h

theorem Core.Pends.changeState (new : SessionState) : (changeState e new c).Pends p n :=
  (h.post .sessionState).frame (changeState_notices ..)

theorem Core.Pends.placeRecord (r : BillingRecord) : (placeRecord e r c).Pends p n := by
  have hready : (Machine.post .recordReady (c.onQueue (ExportQueue.place r))).Pends p n := h.post .recordReady
  show (postFull _ _).Pends p n
  unfold postFull
  split
  · exact hready.post .queueFull
  · exact hready

theorem Core.Pends.closeRecord : (closeRecord e c).Pends p n := by
  unfold Machine.closeRecord
  split
  · exact h
  · split
    · exact h
    · simp only
      split
      · exact (h.frame (d := (c.onMeter _).onMeter _) rfl).placeRecord e _
      · exact h

end

/-! ### The monitor at the end of the stop sequence (R107) -/

/-- Monitors that agree but for their marks are in one state, with one window. -/
theorem Monitor.eq_of_unmarked {m k : Monitor} (h : m.unmarked = k.unmarked) :
    m.state = k.state ∧ m.window = k.window :=
  ⟨(congrArg Monitor.state h :), (congrArg Monitor.window h :)⟩

/-- The entry to STOPPING does not touch a monitor that is not in SELF-TEST, but for its mark (R34, R107). -/
theorem stopReady_unmarked {e : Env} {cause : StopCause} {c : Core} (hm : c.mon.state ≠ .selfTest) :
    (stopReady e cause c).mon.unmarked = c.mon.unmarked := by
  have hstays (d : Core) (hd : d.mon.unmarked = c.mon.unmarked) : monitorOnStopping e d = d := by
    have hstate := (Monitor.eq_of_unmarked hd).1
    simp [monitorOnStopping, hstate, hm]
  rw [stopReady, hstays _ (by simp)]
  simp

@[simp] theorem monitorOnClosed_notices (e : Env) (c : Core) : (monitorOnClosed e c).notices = c.notices := by
  unfold monitorOnClosed
  split <;> simp

@[simp] theorem resetIfDeferred_notices (c : Core) : (resetIfDeferred c).notices = c.notices := by
  unfold resetIfDeferred
  split <;> rfl

/-- A monitor that measures is turned OFF, any other stays (R107). -/
theorem monitorOnClosed_mon (e : Env) (c : Core) :
    (monitorOnClosed e c).mon =
      if c.mon.state.measuring then
        { c.mon with
          state := .off, kind := none, timer := none, vPos := none, discards := 0, mark := false, window := false }
      else c.mon := by
  unfold monitorOnClosed
  split
  · rw [leaveMeasuring_mon]
  · rfl

/-- The blocks at the end of the stop sequence, before the record's close is asked for (R37). -/
def closeReady (e : Env) (c : Core) : Core :=
  monitorOnClosed e (authOnClosed ((changeState e .closed c).onSession fun s => { s with closePending := true }))

theorem enterClosed_eq (e : Env) (c : Core) : enterClosed e c = resetIfDeferred (closeRecord e (closeReady e c)) := rfl

section
variable (e : Env) (c : Core)

@[simp] theorem closeReady_session :
    (closeReady e c).session = { c.session.moveTo .closed with closePending := true } := by
  simp [closeReady, authOnClosed]

@[simp] theorem closeReady_meter : (closeReady e c).meter = c.meter := by simp [closeReady, authOnClosed]

@[simp] theorem closeReady_queue : (closeReady e c).queue = c.queue := by simp [closeReady, authOnClosed]

/-- A monitor that measures is turned OFF, any other stays but for its mark. -/
theorem closeReady_unmarked :
    (closeReady e c).mon.unmarked =
      if c.mon.state.measuring then
        { c.mon with
          state := .off, kind := none, timer := none, vPos := none, discards := 0, mark := false, window := false }
      else c.mon.unmarked := by
  have hchange : (changeState e .closed c).mon.unmarked = c.mon.unmarked := changeState_unmarked ..
  have hstate := (Monitor.eq_of_unmarked hchange).1
  rw [closeReady, monitorOnClosed_mon]
  simp only [authOnClosed, Core.onAuth_mon, Core.onSession_mon, hstate]
  split
  · exact congrArg (fun m : Monitor => { m with
      state := .off, kind := none, timer := none, vPos := none, discards := 0, window := false }) hchange
  · exact hchange

theorem enterClosed_unmarked_eq : (enterClosed e c).mon.unmarked = (closeReady e c).mon.unmarked := by
  simp [enterClosed_eq]

end

section
variable {e : Env} {c : Core}

theorem enterClosed_pends {p : Port} {n : Notice} (h : c.Pends p n) : (enterClosed e c).Pends p n := by
  have hready : (closeReady e c).Pends p n := (h.changeState e .closed).frame (by simp [closeReady, authOnClosed])
  rw [enterClosed_eq]
  exact (hready.closeRecord e).frame (resetIfDeferred_notices _)

/-- A monitor that does not measure passes the end of the stop sequence, but for its mark. -/
theorem enterClosed_unmarked (hm : c.mon.state.measuring = false) :
    (enterClosed e c).mon.unmarked = c.mon.unmarked := by
  rw [enterClosed_unmarked_eq, closeReady_unmarked, if_neg (by simp [hm])]

/-- A monitor that measures is OFF in CLOSED. -/
theorem enterClosed_monitorOff (hm : c.mon.state.measuring = true) : (enterClosed e c).mon.state = .off := by
  have hunmarked := (enterClosed_unmarked_eq e c).trans (closeReady_unmarked e c)
  rw [if_pos hm] at hunmarked
  exact (congrArg Monitor.state hunmarked :)

/-- A stop cause before the contactor closes leaves the session CLOSED with its end reason (R34, R37). -/
theorem stopCause_closes {cause : StopCause} (hl : c.session.state.live = true)
    (hk : c.session.contactor = .opened) :
    ∃ p, (stopCause e cause c).session = { (c.session.stopped cause).moveTo .closed with closePending := p } := by
  obtain ⟨p, hp⟩ := enterClosed_session e (stopReady e cause c)
  exact ⟨p, by rw [stopCause_opened hl hk, hp, stopReady_session]⟩

/-- A monitor that does not measure passes such a stop, but for its mark. -/
theorem stopCause_closes_unmarked {cause : StopCause} (hl : c.session.state.live = true)
    (hk : c.session.contactor = .opened) (hm : c.mon.state.measuring = false) :
    (stopCause e cause c).mon.unmarked = c.mon.unmarked := by
  have hready := stopReady_unmarked (e := e) (cause := cause) (c := c) (by rintro h; rw [h] at hm; cases hm)
  have hstate := (Monitor.eq_of_unmarked hready).1
  rw [stopCause_opened hl hk, enterClosed_unmarked (by rwa [hstate]), hready]

/-! ### The record at the end of the stop sequence (R139, R140, R146) -/

/-- The record that the session asks to close (R139, R140). -/
def closedAs (e : Env) (m : Meter) (faults : Half) (cause : StopCause) (o : OpenRecord) : BillingRecord :=
  closeContent e.cfg m (.cause cause) faults o.record

/-- A close that finds room is placed at once, and the session hears of it (R139, R146). -/
theorem closeRecord_places {o : OpenRecord} {cause : StopCause} (ho : c.meter.openRec = some o)
    (hr : c.session.endReason = some cause) (hroom : c.queue.room = true) :
    (closeRecord e c).meter.openRec = none ∧ (closeRecord e c).session.closePending = false
      ∧ (closeRecord e c).Pends .fleet .recordReady
      ∧ (closeRecord e c).queue = c.queue.place (closedAs e c.meter c.session.faultsSeen cause o) := by
  have hclose : closeRecord e c = handOver e (closedAs e c.meter c.session.faultsSeen cause o)
      (c.onMeter fun m => { m with
        held := false
        openRec := some { record := closedAs e c.meter c.session.faultsSeen cause o, closeRequested := true } }) := by
    simp [closeRecord, closedAs, ho, hr, hroom]
  rw [hclose]
  exact ⟨by rw [handOver_meter], by rw [handOver_session], handOver_ready .., by rw [handOver_queue]; rfl⟩

/-- The end of the stop sequence closes the record and places it where there is room. -/
theorem enterClosed_places {o : OpenRecord} {cause : StopCause} (ho : c.meter.openRec = some o)
    (hr : c.session.endReason = some cause) (hroom : c.queue.room = true) :
    (enterClosed e c).meter.openRec = none ∧ (enterClosed e c).session.closePending = false
      ∧ (enterClosed e c).Pends .fleet .recordReady
      ∧ (enterClosed e c).queue = c.queue.place (closedAs e c.meter c.session.faultsSeen cause o) := by
  obtain ⟨hmeter, hpending, hready, hqueue⟩ := closeRecord_places (e := e) (c := closeReady e c) (by simpa using ho)
    (by simpa using hr) (by simpa using hroom)
  rw [enterClosed_eq, resetIfDeferred_meter, resetIfDeferred_session, resetIfDeferred_queue]
  exact ⟨hmeter, hpending, hready.frame (resetIfDeferred_notices _), by simpa using hqueue⟩

/-- The lines of a closed record are those it stood with, priced (R140). -/
theorem closedAs_priced (m : Meter) (faults : Half) (cause : StopCause) {o : OpenRecord} (hl : o.record.lines ≠ []) :
    PricedFrom o.record.lines (closedAs e m faults cause o) := by
  have hlines : (if o.record.lines = [] then [zeroLine e.cfg m] else o.record.lines) = o.record.lines := if_neg hl
  rw [PricedFrom]
  simp only [closedAs, closeContent, formTotals, hlines]
  exact ⟨rfl, trivial, rfl⟩

/-- CLOSED drives neither load nor contactor (R20). -/
theorem linesOf_closed (hs : c.session.state = .closed) :
    (linesOf c).pilotLoad = false ∧ (linesOf c).contactorDrive = false := by
  unfold linesOf
  split
  · exact ⟨rfl, rfl⟩
  · simp [pilotLoad, contactorDrive, hs]

end

end Sys2Proof.Machine
end

section
/-! PROOFS. The end of a self-test (R23, R26, R110, R116, R117, R124, R185): the expiry that ends a cycle on the
reference path, and what a pass and a failure do at start-up and in a session. -/

namespace Sys2Proof.Machine

/-! ### The expiry that ends a cycle of the self-test (R108, R116) -/

/-- The half-period whose expiry ends a cycle in SELF-TEST: NEGATIVE, with V_pos and a settled sample of `n` samples
that sum to `sum`. -/
structure EndsTestCycle (samples : List Int) (sum vPos : Int) (n : Nat) (s : State) : Prop where
  up : s.core.up = true
  selfTest : s.core.mon.state = .selfTest
  timer : s.core.mon.timer.isSome = true
  window : s.core.mon.window = true
  mark : s.core.mon.mark = false
  polarity : s.core.mon.polarity = .negative
  vPos : s.core.mon.vPos = some vPos
  sum : sum = s.core.mon.windowSum + (samples.map fun v => max (-30000) (min 30000 v)).sum
  count : n = s.core.mon.windowCount + samples.length
  positive : 0 < n

/-- The blocks when a result of the reference path is stored and the next cycle has begun (R106, R110). -/
def Core.tested (e : Env) (r : RIso) (c : Core) : Core :=
  (storeResult e (c.onMon fun m => { m with discards := 0 }) .reference r).onMon (beginCycle e)

section
variable (e : Env) (r : RIso) (sum : Int) (n : Nat) (c : Core)

@[simp] theorem Core.sampled_session : (c.sampled sum n).session = c.session := rfl
@[simp] theorem Core.sampled_sup : (c.sampled sum n).sup = c.sup := rfl
@[simp] theorem Core.sampled_meter : (c.sampled sum n).meter = c.meter := rfl
@[simp] theorem Core.sampled_pass : (c.sampled sum n).mon.pass = c.mon.pass := rfl
@[simp] theorem Core.sampled_kind : (c.sampled sum n).mon.kind = c.mon.kind := rfl
@[simp] theorem Core.sampled_result : (c.sampled sum n).mon.result = c.mon.result := rfl

@[simp] theorem Core.tested_session : (c.tested e r).session = c.session := rfl
@[simp] theorem Core.tested_sup : (c.tested e r).sup = c.sup := rfl
@[simp] theorem Core.tested_meter : (c.tested e r).meter = c.meter := rfl
@[simp] theorem Core.tested_pass : (c.tested e r).mon.pass = c.mon.pass := rfl
@[simp] theorem Core.tested_kind : (c.tested e r).mon.kind = c.mon.kind := rfl
@[simp] theorem Core.tested_result : (c.tested e r).mon.result = c.mon.result := rfl

end

/-- The NEGATIVE half-period of a cycle in SELF-TEST is accepted: its result is stored and judged (R108, R110, R116). -/
theorem decideHalf_judgesTest {e : Env} {c : Core} {vPos : Int} {r : RIso} (h : c.mon.discarded = false)
    (hpol : c.mon.polarity = .negative) (hpos : c.mon.vPos = some vPos) (hm : c.mon.state = .selfTest)
    (hr : r = resistance ((vPos - c.mon.settled) / 2)) :
    decideHalf e c = (judgeTest e r (c.tested e r)).onMon Monitor.unmarked := by
  have htake : acceptHalf e c = judgeTest e r (c.tested e r) := by
    simp only [acceptHalf, hpol, hpos, takeResult, Core.onMon_mon, hm]
    rw [hr]; rfl
  rw [decideHalf, h, if_neg Bool.false_ne_true, htake]
  rfl

/-- The next state after the expiry, when the judgement has left the monitor without a window. -/
theorem EndsTestCycle.done {samples : List Int} {sum vPos : Int} {n : Nat} {s : State} {r : RIso} {d : Core}
    (h : EndsTestCycle samples sum vPos n s) (hr : r = resistance ((vPos - sum / n) / 2))
    (hd : judgeTest s.env r ((s.core.sampled sum n).tested s.env r) = d) (hw : d.mon.window = false) :
    exec (.halfPeriodTimerExpiry samples) s
      = .next (afterBlocks s (conclude s.env (d.onMon Monitor.unmarked))) := by
  have hsampled : s.core.onMon (takeSamples samples) = s.core.sampled sum n := by
    simp only [Core.sampled, Core.onMon, takeSamples_open h.window h.sum h.count]
  have hdecide := decideHalf_judgesTest (e := s.env) (c := s.core.sampled sum n)
    (Monitor.discarded_eq_false h.mark h.window h.positive) h.polarity h.vPos h.selfTest hr
  have hend : halfPeriodEnd samples s.env s.core = conclude s.env (d.onMon Monitor.unmarked) := by
    rw [halfPeriodEnd, if_pos (by simp [h.selfTest, h.timer, MonitorState.measuring]), hsampled, hdecide, hd,
      closeWindow_closed (by exact hw)]
  rw [show exec (.halfPeriodTimerExpiry samples) s = (s.event (halfPeriodEnd samples)).done from rfl,
    State.event_done _ h.up, hend]

/-! ### The judgement (R116, R117) -/

theorem judgeTest_passes {e : Env} {r : RIso} {c : Core} (hr : r.inBand = true) (hp : c.mon.pass = 1) :
    judgeTest e r c = passTest e (c.onMon fun m => { m with pass := m.pass + 1 }) := by
  rw [judgeTest, if_pos hr]
  exact if_pos (congrArg (· + 1) hp)

theorem judgeTest_fails {e : Env} {r : RIso} {c : Core} (hr : r.inBand = false) : judgeTest e r c = failTest e c :=
  if_neg (by simp [hr])

theorem passTest_startUp {e : Env} {c : Core} (hk : c.mon.kind = some .startUp) :
    passTest e c = endStarting .passed (leaveMeasuring e .off c) := if_pos hk

theorem passTest_session {e : Env} {c : Core} (hk : c.mon.kind = some .session) :
    passTest e c = reportTestPassed e ((leaveMeasuring e .monitoring c).onMon (beginCycle e)) :=
  if_neg (by simp [hk])

/-- At start-up a failure finds no session to stop (R117, R185). -/
theorem failTest_startUp {e : Env} {c : Core} (hs : c.session.state = .idle) (hk : c.mon.kind = some .startUp) :
    failTest e c = endStarting .failed
      ((leaveMeasuring e .inoperative c).onSession fun s => { s with monitorFailure := true }) := by
  have hidle : reportTestFailed e (leaveMeasuring e .inoperative c)
      = (leaveMeasuring e .inoperative c).onSession fun s => { s with monitorFailure := true } := by
    simp [reportTestFailed, stopCause, hs]
  rw [failTest, hidle]
  exact if_pos hk

theorem failTest_session {e : Env} {c : Core} (hk : c.mon.kind = some .session) :
    failTest e c = reportTestFailed e (leaveMeasuring e .inoperative c) := if_neg (by simp [hk])

/-! ### The report of a pass in AUTHORIZING (R26, R27) -/

/-- Without authorization the fact is recorded and waits. -/
theorem reportTestPassed_waits {e : Env} {c : Core} (hs : c.session.state = .authorizing)
    (hg : c.session.authGranted = false) :
    reportTestPassed e c = c.onSession fun s => { s with selfTestPassed := true } := by
  simp [reportTestPassed, energizeIfReady, hs, hg]

/-- With authorization granted the contactor begins to close (R27). -/
theorem reportTestPassed_closes {e : Env} {c : Core} (hs : c.session.state = .authorizing)
    (hg : c.session.authGranted = true) (hk : c.session.contactor = .opened) (haux : e.mfe.aux.active = false) :
    reportTestPassed e c
      = setContactor .closing (c.onSession fun s => { s with selfTestPassed := true, confirmTimer := some 100 }) := by
  simp [reportTestPassed, energizeIfReady, beginEnergizing, hs, hg, hk, haux]
  rfl

/-- A failure in AUTHORIZING with the contactor OPEN ends the session, and leaves an INOPERATIVE monitor so (R117, R34). -/
theorem reportTestFailed_closes {e : Env} {c : Core} (hs : c.session.state = .authorizing)
    (hk : c.session.contactor = .opened) (hm : c.mon.state = .inoperative) :
    (∃ p, (reportTestFailed e c).session
        = { (({ c.session with monitorFailure := true } : Session).stopped .selfTestFail).moveTo .closed with
          closePending := p })
      ∧ (reportTestFailed e c).mon.unmarked = c.mon.unmarked := by
  have hl : (c.onSession fun x => { x with monitorFailure := true }).session.state.live = true := by
    simp [hs, SessionState.live]
  exact ⟨stopCause_closes hl hk, stopCause_closes_unmarked hl hk (by simp [hm, MonitorState.measuring])⟩

/-! ### The lines of the monitor (R106) -/

theorem linesOf_notMeasuring {c : Core} (h : c.mon.state = .off ∨ c.mon.state = .inoperative) :
    (linesOf c).generator = 0 ∧ (linesOf c).referencePath = false := by
  unfold linesOf
  split
  · exact ⟨rfl, rfl⟩
  · rcases h with h | h <;> simp [generatorOut, h]

theorem linesOf_noTest {c : Core} (h : c.mon.state ≠ .selfTest) : (linesOf c).referencePath = false := by
  unfold linesOf
  split
  · rfl
  · simpa using h

/-- A contactor that closes is driven with the request load in (R20). -/
theorem linesOf_closing {c : Core} (hh : c.sup.held = none) (hs : c.session.state = .authorizing)
    (hk : c.session.contactor = .closing) :
    (linesOf c).contactorDrive = true ∧ (linesOf c).pilotLoad = true := by
  simp [linesOf, hh, contactorDrive, pilotLoad, hs, hk]

/-! ### The outcomes at start-up (R117, R185) -/

/-- STARTING ends with a monitor that has left SELF-TEST: what the blocks are then. -/
theorem endStarting_leaves {e : Env} {outcome : TestOutcome} {new : MonitorState} {f : Session → Session} {b d : Core}
    (hd : (endStarting outcome ((leaveMeasuring e new b).onSession f)).onMon Monitor.unmarked = d) :
    d.sup = { b.sup with power := .active, selfTest := some outcome }
      ∧ d.mon.state = new ∧ d.mon.timer = none ∧ d.mon.window = false ∧ d.mon.result = b.mon.result
      ∧ d.alloc.timer = some 100 ∧ d.meter = { b.meter with timer := some 100 } ∧ d.session = f b.session := by
  subst hd
  have hmon := leaveMeasuring_mon e new b
  refine ⟨?_, (congrArg Monitor.state hmon :), (congrArg Monitor.timer hmon :), (congrArg Monitor.window hmon :),
    (congrArg Monitor.result hmon :), rfl, ?_, ?_⟩ <;> simp [endStarting]

section
variable {samples : List Int} {sum vPos : Int} {n : Nat} {s : State} {r : RIso}
  (h : EndsTestCycle samples sum vPos n s) (hr : r = resistance ((vPos - sum / n) / 2))
include h hr

/-- The judgement of a start-up self-test ends STARTING in a state without a session. -/
theorem EndsTestCycle.endsStarting {outcome : TestOutcome} {new : MonitorState} {f : Session → Session} {b : Core}
    (hjudge : judgeTest s.env r ((s.core.sampled sum n).tested s.env r)
      = endStarting outcome ((leaveMeasuring s.env new b).onSession f))
    (hsup : b.sup = s.core.sup) (hresult : b.mon.result = s.core.mon.result) (hmeter : b.meter = s.core.meter)
    (hses : b.session = s.core.session) (hidle : (f s.core.session).state = .idle) :
    ∃ d : Core, exec (.halfPeriodTimerExpiry samples) s = .next (afterBlocks s d)
      ∧ d.sup = { s.core.sup with power := .active, selfTest := some outcome }
      ∧ d.mon.state = new ∧ d.mon.timer = none ∧ d.mon.window = false ∧ d.mon.result = s.core.mon.result
      ∧ d.alloc.timer = some 100 ∧ d.meter = { s.core.meter with timer := some 100 }
      ∧ d.session = f s.core.session := by
  have hdone := h.done hr hjudge (congrArg Monitor.window (leaveMeasuring_mon s.env new b) :)
  generalize hd : (endStarting outcome ((leaveMeasuring s.env new b).onSession f)).onMon Monitor.unmarked = d at hdone
  have hleaves := endStarting_leaves hd
  rw [hsup, hresult, hmeter, hses] at hleaves
  obtain ⟨-, -, -, -, -, -, -, hsession⟩ := id hleaves
  rw [conclude_other (by rw [hsession, hidle]; nofun) (by rw [hsession, hidle]; nofun)] at hdone
  exact ⟨d, hdone, hleaves⟩

variable (hs : s.core.session.state = .idle) (hk : s.core.mon.kind = some .startUp)
include hs hk

/-- A pass at start-up ends STARTING with the monitor OFF. -/
theorem EndsTestCycle.passes_startUp (hband : r.inBand = true) (hpass : s.core.mon.pass = 1) :
    Completes (.halfPeriodTimerExpiry samples) s fun t =>
      t.core.sup = { s.core.sup with power := .active, selfTest := some .passed }
        ∧ t.core.mon.state = .off ∧ t.core.mon.timer = none ∧ t.core.mon.window = false
        ∧ t.core.mon.result = s.core.mon.result
        ∧ t.core.alloc.timer = some 100 ∧ t.core.meter = { s.core.meter with timer := some 100 }
        ∧ t.core.session = s.core.session ∧ t.lines.generator = 0 ∧ t.lines.referencePath = false := by
  have hjudge := (judgeTest_passes (e := s.env) (c := (s.core.sampled sum n).tested s.env r) hband
    (by simpa using hpass)).trans (passTest_startUp (by simpa using hk))
  obtain ⟨d, hdone, hsup, hstate, htimer, hwindow, hresult, halloc, hmeter, hsession⟩ :=
    h.endsStarting hr (f := id) hjudge (by simp) (by simp) (by simp) (by simp) hs
  obtain ⟨hgen, hpath⟩ := linesOf_notMeasuring (.inl hstate)
  exact ⟨_, hdone, hsup, hstate, htimer, hwindow, hresult, halloc, hmeter, hsession, hgen, hpath⟩

/-- A failure at start-up ends STARTING with the monitor INOPERATIVE and its failure flag set. -/
theorem EndsTestCycle.fails_startUp (hband : r.inBand = false) :
    Completes (.halfPeriodTimerExpiry samples) s fun t =>
      t.core.sup = { s.core.sup with power := .active, selfTest := some .failed }
        ∧ t.core.mon.state = .inoperative ∧ t.core.mon.timer = none
        ∧ t.core.alloc.timer = some 100 ∧ t.core.meter = { s.core.meter with timer := some 100 }
        ∧ t.core.session = { s.core.session with monitorFailure := true }
        ∧ t.lines.generator = 0 ∧ t.lines.referencePath = false := by
  have hjudge := (judgeTest_fails (e := s.env) (c := (s.core.sampled sum n).tested s.env r) hband).trans
    (failTest_startUp (by simpa using hs) (by simpa using hk))
  obtain ⟨d, hdone, hsup, hstate, htimer, -, -, halloc, hmeter, hsession⟩ := 
    h.endsStarting hr hjudge (by simp) (by simp) (by simp) (by simp) hs
  obtain ⟨hgen, hpath⟩ := linesOf_notMeasuring (.inr hstate)
  exact ⟨_, hdone, hsup, hstate, htimer, halloc, hmeter, hsession, hgen, hpath⟩

end

/-! ### The outcomes in a session (R26, R27, R117) -/

/-- The monitor when a passed self-test has become MONITORING, its first cycle begun. -/
def Core.monitoring (e : Env) (c : Core) : Core := (leaveMeasuring e .monitoring c).onMon (beginCycle e)

theorem Core.monitoring_mon (e : Env) (c : Core) :
    (c.monitoring e).mon.state = .monitoring ∧ (c.monitoring e).mon.polarity = .positive
      ∧ (c.monitoring e).mon.timer = some e.cfg.halfPeriod ∧ (c.monitoring e).mon.window = false := by
  refine ⟨?_, rfl, rfl, ?_⟩ <;> simp [Core.monitoring, leaveMeasuring_mon, beginCycle, beginHalf]

@[simp] theorem Core.monitoring_session (e : Env) (c : Core) : (c.monitoring e).session = c.session := by
  simp [Core.monitoring]

@[simp] theorem Core.monitoring_sup (e : Env) (c : Core) : (c.monitoring e).sup = c.sup := by simp [Core.monitoring]

section
variable {samples : List Int} {sum vPos : Int} {n : Nat} {s : State} {r : RIso}
  (h : EndsTestCycle samples sum vPos n s) (hr : r = resistance ((vPos - sum / n) / 2))
  (hs : s.core.session.state = .authorizing) (hk : s.core.mon.kind = some .session)
include h hr hs hk

omit hs in
/-- A pass in a session goes on in MONITORING, and is reported to it. -/
theorem EndsTestCycle.passes_session (hband : r.inBand = true) (hpass : s.core.mon.pass = 1) :
    ∃ b : Core, b.session = s.core.session ∧ b.sup = s.core.sup
      ∧ (b.mon.state = .monitoring ∧ b.mon.polarity = .positive ∧ b.mon.timer = some s.env.cfg.halfPeriod
        ∧ b.mon.window = false)
      ∧ ∀ d : Core, reportTestPassed s.env b = d → d.session.state = .authorizing → d.mon.window = false →
          exec (.halfPeriodTimerExpiry samples) s = .next (afterBlocks s (d.onMon Monitor.unmarked)) := by
  have hjudge := (judgeTest_passes (e := s.env) (c := (s.core.sampled sum n).tested s.env r) hband
    (by simpa using hpass)).trans (passTest_session (by simpa using hk))
  refine ⟨(((s.core.sampled sum n).tested s.env r).onMon fun m => { m with pass := m.pass + 1 }).monitoring s.env,
    by simp, by simp, Core.monitoring_mon .., fun d hd hstate hwindow => ?_⟩
  have hdone := h.done hr (hjudge.trans hd) hwindow
  rwa [conclude_other (by simp [hstate]) (by simp [hstate])] at hdone

/-- A failure in a session makes the monitor INOPERATIVE and ends the session before it is energized (R117, R34). -/
theorem EndsTestCycle.fails_session (hcont : s.core.session.contactor = .opened) (hband : r.inBand = false)
    (hdet : s.env.mfe.detached = false) (hrel : s.core.session.releaseSeen = false) :
    Completes (.halfPeriodTimerExpiry samples) s fun t =>
      t.core.mon.state = .inoperative ∧ t.core.session.monitorFailure = true
        ∧ t.core.session.state = .closed ∧ t.core.session.endReason = some .selfTestFail
        ∧ t.lines.generator = 0 ∧ t.lines.referencePath = false := by
  have hjudge := (judgeTest_fails (e := s.env) (c := (s.core.sampled sum n).tested s.env r) hband).trans
    (failTest_session (by simpa using hk))
  have hmon := leaveMeasuring_mon s.env .inoperative ((s.core.sampled sum n).tested s.env r)
  have hsession : (leaveMeasuring s.env .inoperative ((s.core.sampled sum n).tested s.env r)).session
      = s.core.session := by simp
  obtain ⟨hinoperative, hwindow⟩ := And.intro (congrArg Monitor.state hmon) (congrArg Monitor.window hmon)
  generalize leaveMeasuring s.env .inoperative ((s.core.sampled sum n).tested s.env r) = b
    at hjudge hsession hinoperative hwindow
  obtain ⟨⟨pending, hclosed⟩, hunmarked⟩ := reportTestFailed_closes (e := s.env) (by rw [hsession, hs])
    (by rw [hsession, hcont]) hinoperative
  rw [hsession] at hclosed
  generalize reportTestFailed s.env b = d at hjudge hclosed hunmarked
  have hdone := h.done hr hjudge ((Monitor.eq_of_unmarked hunmarked).2.trans hwindow)
  have hmonitor : d.mon.state = .inoperative := (Monitor.eq_of_unmarked hunmarked).1.trans hinoperative
  rw [conclude_closed (by rw [Core.onMon_session, hclosed]; rfl)
    (.inr ⟨hdet, by rw [Core.onMon_session, hclosed]; exact hrel⟩)] at hdone
  obtain ⟨hgen, hpath⟩ := linesOf_notMeasuring (c := d.onMon Monitor.unmarked) (.inr hmonitor)
  exact ⟨_, hdone, hmonitor, (congrArg Session.monitorFailure hclosed :), (congrArg Session.state hclosed :),
    (congrArg Session.endReason hclosed :), hgen, hpath⟩

end

/-- Settles O44: a pass and a failure, each at start-up and in a session. -/
theorem startUpSelfTestEndsStarting : Obligations.StartUpSelfTestEndsStarting := by
  intro samples sum vPos n r s hu hm ht hw hmark hpol hpos hsum hn hn0 hr
  have h : EndsTestCycle samples sum vPos n s := ⟨hu, hm, ht, hw, hmark, hpol, hpos, hsum, hn, hn0⟩
  refine ⟨fun hs hk => ⟨h.passes_startUp hr hs hk, h.fails_startUp hr hs hk⟩,
    fun hs hcont hk => ⟨fun hband hpass => ?passes, fun hband => h.fails_session hr hs hk hcont hband⟩⟩
  obtain ⟨b, hsession, hsup, ⟨hstate, hpolarity, htimer, hwindow⟩, hdone⟩ := h.passes_session hr hk hband hpass
  refine ⟨fun hg => ?_, fun hg haux => ?_⟩
  · have hreport := reportTestPassed_waits (e := s.env) (c := b) (by rw [hsession, hs]) (by rw [hsession, hg])
    refine ⟨_, hdone _ hreport (by rw [Core.onSession_session, hsession]; exact hs) hwindow, hstate, hpolarity, htimer,
      hwindow, ?_, linesOf_noTest ?_⟩
    · show ({ b.session with selfTestPassed := true } : Session) = _
      rw [hsession]
    · show b.mon.state ≠ .selfTest
      rw [hstate]; nofun
  · have hreport := reportTestPassed_closes (e := s.env) (c := b) (by rw [hsession, hs]) (by rw [hsession, hg])
      (by rw [hsession, hcont]) haux
    generalize hd : setContactor .closing
      (b.onSession fun x => { x with selfTestPassed := true, confirmTimer := some 100 }) = d at hreport
    have hmon : d.mon.unmarked = b.mon.unmarked := by rw [← hd]; simp [setContactor]
    have hses : d.session = { s.core.session with
        selfTestPassed := true, contactor := .closing, confirmTimer := some 100 } := by
      rw [← hd, setContactor_session, Core.onSession_session, hsession]
    have hheld : d.sup.held = none := by
      rw [← hd]
      simp [hsup, held_of_up hu]
    obtain ⟨hdrive, hload⟩ := linesOf_closing (c := d.onMon Monitor.unmarked) hheld (by rw [Core.onMon_session, hses]; exact hs)
      (by rw [Core.onMon_session, hses])
    exact ⟨_, hdone d hreport (by rw [hses]; exact hs) ((Monitor.eq_of_unmarked hmon).2.trans hwindow),
      (Monitor.eq_of_unmarked hmon).1.trans hstate, hses, hdrive, hload⟩

end Sys2Proof.Machine
end

section
/-! PROOFS. The stops (R31, R32, R34, R35, R39, R41, R190): STOP, the stop message and the pause timer wait for the
current; a window that shows detachment or SUPPLY-LOW opens at once. -/

namespace Sys2Proof.Machine

/-! ### A stop cause that opens at once -/

section
variable {e : Env} {cause : StopCause} {c : Core}

/-- The blocks when a CLOSED contactor has been opened at once (R34, R36). -/
theorem stopCause_opensBlocks (hl : c.session.state.live = true) (hk : c.session.contactor = .closed)
    (ha : cause.atOnce = true) (haux : e.mfe.aux.active = true) :
    (stopCause e cause c).session = c.session.opening cause
      ∧ (stopCause e cause c).alloc.record = AllocRecord.zero ∧ (stopCause e cause c).queue = c.queue
      ∧ (stopCause e cause c).sup = c.sup := by
  rw [stopCause_opens hl hk ha haux]
  refine ⟨?_, ?_, ?_, ?_⟩
  · rw [beginOpening_session, stopReady_session]; rfl
  all_goals simp [beginOpening]

/-- The lines in STOPPING (R20, R81). -/
theorem linesOf_stopping (hh : c.sup.held = none) (hs : c.session.state = .stopping) :
    (linesOf c).pilotLoad = true ∧ (linesOf c).converterEnable = false ∧ (linesOf c).commandDuty = 0 := by
  obtain ⟨henable, hduty⟩ := linesOf_unpowered (c := c) (by rw [hs]; rfl)
  exact ⟨by simp [linesOf, hh, pilotLoad, hs], henable, hduty⟩

end

/-! ### The deliveries of a window (R1, R190) -/

/-- A window that brings its set alone hands it to the session controller, the heater and the supply monitor (R1). -/
theorem windowClose_hands {w : WindowSamples} {s : State} (first : Bool) (hb : BringsTheSet w s) {c : Core}
    (hc : sessionTakeSet (s.core.session.state == .stopping) (s.windowEnv w) (s.windowCore w) = c) :
    exec (.measurementWindowClose w first) s = .next (s.afterWindow w
      (conclude (s.windowEnv w) (takeSupply (s.windowEnv w) (heaterTakeSet (s.windowEnv w) c)))) := by
  obtain ⟨hheld, hpower, -⟩ := id hb
  have hactive : (s.windowCore w).active = true := by simp [Core.active, hheld, hpower]
  subst hc
  have hdeliver : deliverSet (s.core.session.state == .stopping) (s.windowEnv w) (s.windowCore w)
      = takeSupply (s.windowEnv w) (heaterTakeSet (s.windowEnv w)
        (sessionTakeSet (s.core.session.state == .stopping) (s.windowEnv w) (s.windowCore w))) := by
    rw [deliverSet, if_pos hactive]
  rw [exec_windowClose first hb]
  exact congrArg (fun d => Host.Outcome.next (s.afterWindow w (conclude (s.windowEnv w) d))) hdeliver

/-- The entry to SUPPLY-LOW is a stop cause (R190). -/
theorem takeSupply_enters {e : Env} {c : Core} {p : MeasurementSet} (hp : e.mfe.published = some p)
    (hlow : c.sup.low = false) (h : p.vSupMin < 90) :
    takeSupply e c = stopCause e .supplyLoss (c.onSup fun x => { x with low := true }) := by
  simp [takeSupply, hp, hlow, h]

@[simp] theorem State.windowCore_queue (s : State) (w : WindowSamples) : (s.windowCore w).queue = s.core.queue :=
  postSensorFault_queue ..

/-- In the states that keep pause causes a detachment removes the cable (R39). -/
theorem sessionTakeSet_removed {stopping : Bool} {e : Env} {c : Core} (hl : c.session.state.live = true)
    (hd : e.mfe.detached = true) : sessionTakeSet stopping e c = stopCause e .cableRemoved c := by
  unfold sessionTakeSet
  cases hs : c.session.state <;> simp_all [SessionState.live]

/-- Without a detachment a set is taken by the causes and T_min (R29, R30). -/
theorem sessionTakeSet_attached {stopping : Bool} {e : Env} {c : Core} (hl : c.session.state.live = true)
    (hd : e.mfe.detached = false) :
    sessionTakeSet stopping e c = temperatureMove e (settlePause e (pauseOnSet e c)) := by
  unfold sessionTakeSet
  cases hs : c.session.state <;> simp_all [SessionState.live]

theorem settlePause_live {e : Env} {c : Core} (hl : c.session.state.live = true) :
    (settlePause e c).session.state.live = true := by
  unfold settlePause
  split
  case h_1 | h_2 =>
    split
    · rw [changeState_session]; rfl
    · exact hl
  case h_3 =>
    split
    · rw [chooseRunning, changeState_session]
      exact runningChoice_live ..
    · exact hl
  all_goals exact hl

theorem temperatureMove_staysLive {e : Env} {c : Core} (hl : c.session.state.live = true) :
    (temperatureMove e c).session.state.live = true := by
  unfold temperatureMove
  split
  case h_1 | h_2 =>
    split
    · rw [changeState_session]; rfl
    · exact hl
  all_goals exact hl

@[simp] theorem settlePause_contactor (e : Env) (c : Core) :
    (settlePause e c).session.contactor = c.session.contactor := by
  unfold settlePause chooseRunning
  split
  case h_1 | h_2 | h_3 => split <;> simp
  all_goals rfl

/-- A set without a detachment leaves a session among the states that keep pause causes, and its contactor alone. -/
theorem sessionTakeSet_staysLive {stopping : Bool} {e : Env} {c : Core} (hl : c.session.state.live = true)
    (hd : e.mfe.detached = false) :
    (sessionTakeSet stopping e c).session.state.live = true
      ∧ (sessionTakeSet stopping e c).session.contactor = c.session.contactor := by
  rw [sessionTakeSet_attached hl hd]
  refine ⟨temperatureMove_staysLive (settlePause_live (by rw [pauseOnSet_state]; exact hl)), ?_⟩
  obtain ⟨-, hcontactor, -⟩ := temperatureMove_keeps e (settlePause e (pauseOnSet e c))
  rw [hcontactor]
  simp [pauseOnSet]

/-! ### A session that opens at once (R34, R35, R39, R190) -/

/-- What a session that has opened at once shows. -/
def OpenedFor (r : StopCause) (queue : ExportQueue) (t : State) : Prop :=
  t.core.session.state = .stopping ∧ t.core.session.endReason = some r
    ∧ t.core.session.contactor = .opening ∧ t.core.session.confirmTimer = some 100
    ∧ t.core.session.pauseCauses = 0 ∧ t.core.alloc.record = AllocRecord.zero
    ∧ t.core.queue = queue ∧ t.lines.converterEnable = false
    ∧ t.lines.commandDuty = 0 ∧ t.lines.contactorDrive = false ∧ t.lines.pilotLoad = true

theorem openedFor_of {cause : StopCause} {queue : ExportQueue} {x : Session} {t : State}
    (hses : t.core.session = x.opening cause) (hrecord : t.core.alloc.record = AllocRecord.zero)
    (hqueue : t.core.queue = queue) (hh : t.core.sup.held = none) (hlines : t.lines = linesOf t.core) :
    OpenedFor cause queue t := by
  have hstate : t.core.session.state = .stopping := by rw [hses]; rfl
  have hopening : t.core.session.contactor = .opening := by rw [hses]; rfl
  obtain ⟨hload, henable, hduty⟩ := linesOf_stopping hh hstate
  obtain ⟨-, hdrive⟩ := linesOf_opening hstate hopening
  rw [← hlines] at hload henable hduty hdrive
  exact ⟨hstate, by rw [hses]; rfl, hopening, by rw [hses]; rfl, by rw [hses]; rfl, hrecord, hqueue, henable, hduty,
    hdrive, hload⟩

section
variable {w : WindowSamples} {s : State} (first : Bool) (hb : BringsTheSet w s) (hl : s.core.session.state.live = true)
  (hk : s.core.session.contactor = .closed) (haux : s.env.mfe.aux.active = true)
include hb hl hk haux

/-- A window that shows detachment removes the cable (R39). -/
theorem windowClose_removes (hd : (s.windowMfe w).detached = true) (hs : SupplyStays w s) :
    Completes (.measurementWindowClose w first) s fun t => OpenedFor .cableRemoved s.core.queue t := by
  obtain ⟨hheld, -, -, hsame, -⟩ := id hb
  have hset := sessionTakeSet_removed (stopping := s.core.session.state == .stopping) (e := s.windowEnv w)
    (c := s.windowCore w) (by simpa using hl) hd
  obtain ⟨hses, hrecord, hqueue, hsup⟩ := stopCause_opensBlocks (e := s.windowEnv w) (cause := .cableRemoved)
    (c := s.windowCore w) (by simpa using hl) (by simpa using hk) rfl (hsame.trans haux)
  have hexec := windowClose_hands first hb hset
  generalize stopCause (s.windowEnv w) .cableRemoved (s.windowCore w) = d at *
  obtain ⟨low, hsupply⟩ := takeSupply_stays (e := s.windowEnv w) (p := measure w) (c := heaterTakeSet (s.windowEnv w) d)
    rfl (by rw [heaterTakeSet_sup, hsup, State.windowCore_sup]; exact hs)
  rw [hsupply, conclude_busy (by rw [Core.onSup_session, heaterTakeSet_session, hses]; rfl)] at hexec
  refine ⟨_, hexec, openedFor_of (x := s.core.session) ?_ ?_ ?_ ?_ rfl⟩
  · simpa using hses
  · simpa using hrecord
  · simpa using hqueue
  · simp [hsup, hheld]

/-- A window that takes the supply to SUPPLY-LOW stops with SUPPLY-LOSS (R190). -/
theorem windowClose_losesSupply (hd : (s.windowMfe w).detached = false) (hlow : s.core.sup.low = false)
    (hv : (measure w).vSupMin < 90) :
    Completes (.measurementWindowClose w first) s fun t =>
      OpenedFor .supplyLoss s.core.queue t ∧ t.core.sup.low = true := by
  obtain ⟨hheld, -, -, hsame, -⟩ := id hb
  have hl' : (s.windowCore w).session.state.live = true := by simpa using hl
  obtain ⟨hlive, hcontactor⟩ := sessionTakeSet_staysLive (stopping := s.core.session.state == .stopping)
    (e := s.windowEnv w) hl' hd
  have hattached := sessionTakeSet_attached (stopping := s.core.session.state == .stopping) (e := s.windowEnv w) hl' hd
  have hqueue : (sessionTakeSet (s.core.session.state == .stopping) (s.windowEnv w) (s.windowCore w)).queue
      = s.core.queue := by rw [hattached]; simp
  have hsup : (sessionTakeSet (s.core.session.state == .stopping) (s.windowEnv w) (s.windowCore w)).sup
      = s.core.sup := by rw [hattached]; simp
  have hexec := windowClose_hands first hb rfl
  generalize sessionTakeSet (s.core.session.state == .stopping) (s.windowEnv w) (s.windowCore w) = d at *
  obtain ⟨hses, hrecord, hkept, hsupply⟩ := stopCause_opensBlocks (e := s.windowEnv w) (cause := .supplyLoss)
    (c := (heaterTakeSet (s.windowEnv w) d).onSup fun x => { x with low := true }) (by simpa using hlive)
    (by simpa [hcontactor] using hk) rfl (hsame.trans haux)
  rw [takeSupply_enters rfl (by simp [hsup, hlow]) hv, conclude_busy (by rw [hses]; rfl)] at hexec
  refine ⟨_, hexec, openedFor_of hses hrecord ?_ ?_ rfl, ?_⟩
  · exact hkept.trans (by simpa using hqueue)
  · rw [State.afterWindow_core, hsupply]
    simp [hsup, hheld]
  · rw [State.afterWindow_core, hsupply]
    rfl

end

/-! ### STOP, the stop message and the pause timer (R31, R41) -/

/-- What a stop on the current leaves of queue and link. -/
theorem conclude_waits_keeps {e : Env} {cause : StopCause} {c : Core}
    (hs : c.session.state = .preheat ∨ c.session.state = .charging ∨ c.session.state = .paused)
    (hk : c.session.contactor = .closed) (ha : cause.atOnce = false) :
    (conclude e (stopCause e cause c)).queue = c.queue ∧ (conclude e (stopCause e cause c)).link = c.link := by
  rw [conclude_waits hs hk ha]
  simp

theorem ownStop_busy {s : State} (hb : s.core.session.state.busy = true) :
    ownStop [] s = okWith { s with core := conclude s.env (stopCause s.env .vehicleStop s.core) } := if_pos hb

theorem ownStop_rests {s : State} (hb : s.core.session.state.busy = false) :
    ownStop [] s = refusedWith .refusedState s := if_neg (by simpa [State.session] using hb)

/-- Settles O14: the three stops on the current by one rule, the two window closes by the rule for causes at once. -/
theorem stopsWaitForTheCurrent : Obligations.StopsWaitForTheCurrent := by
  intro q s
  refine ⟨fun hs hk => ⟨fun h => ?stop, fun hu => ?message, fun hu ht => ?timer, fun w first hb haux => ?window⟩,
    fun h hs => ?refused⟩
  case stop =>
    have hbusy : s.core.session.state.busy = true := by rcases hs with h | h | h <;> rw [h] <;> rfl
    obtain ⟨hqueue, hlink⟩ := conclude_waits_keeps (e := s.env) (cause := .vehicleStop) hs hk rfl
    exact ⟨_, vehicleDispatch_done h (ownStop_busy (s := shiftHeld s) hbusy),
      stoppedOnCurrent_conclude (c := s.core) hs hk rfl h.1 rfl rfl, rfl, rfl, hqueue, hlink, rfl⟩
  case message =>
    obtain ⟨hqueue, hlink⟩ := conclude_waits_keeps (e := s.env) (cause := .postStop) (c := messageArrives .stop s.core)
      hs hk rfl
    exact ⟨_, State.event_done (fun e c => deliverStop e (messageArrives .stop c)) hu,
      stoppedOnCurrent_conclude (c := messageArrives .stop s.core) hs hk rfl (held_of_up hu) rfl rfl, hqueue, hlink⟩
  case timer =>
    have hdue : pauseTimeout s.env s.core = conclude s.env (stopCause s.env .pauseTimeout s.core) := if_pos ht
    obtain ⟨hqueue, hlink⟩ := conclude_waits_keeps (e := s.env) (cause := .pauseTimeout) hs hk rfl
    have hdone := State.event_done pauseTimeout hu
    rw [hdue] at hdone
    exact ⟨_, hdone, stoppedOnCurrent_conclude (c := s.core) hs hk rfl (held_of_up hu) rfl rfl, hqueue, hlink⟩
  case window =>
    have hl := SessionState.live_of_energized hs
    exact ⟨windowClose_removes first hb hl hk haux, windowClose_losesSupply first hb hl hk haux⟩
  case refused =>
    have hbusy : s.core.session.state.busy = false := by rcases hs with h | h | h <;> rw [h] <;> rfl
    exact vehicleDispatch_refused h (ownStop_rests (s := shiftHeld s) hbusy)

end Sys2Proof.Machine
end

section
/-! PROOFS. The end of the current wait (R33, R35 to R39, R109, R114, R190). -/

namespace Sys2Proof.Machine

/-! ### The contactor opens in STOPPING (R35, R36) -/

/-- The session when the drive is withdrawn and the open confirmation begins, with the faults seen by then. -/
def Session.opens (faults : Half) (s : Session) : Session :=
  { s with contactor := .opening, waitTimer := none, confirmTimer := some 100, faultsSeen := faults }

/-- The withdrawal changes the session and marks an open window, and nothing else (R36, R109). -/
theorem beginOpening_eq (c : Core) :
    beginOpening c = { c with
      session := { c.session with contactor := .opening, waitTimer := none, confirmTimer := some 100 }
      mon := { c.mon with mark := c.mon.mark || c.mon.window } } := by
  rw [beginOpening, setContactor, disturb_eq]
  rfl

@[simp] theorem beginOpening_unmarked (c : Core) : (beginOpening c).mon.unmarked = c.mon.unmarked := by
  simp [beginOpening, setContactor]

@[simp] theorem beginOpening_sup (c : Core) : (beginOpening c).sup = c.sup := by simp [beginOpening]

/-- The confirmed open leaves the session CLOSED (R36, R37). -/
theorem confirmOpen_session (e : Env) (c : Core) :
    ∃ p, (confirmOpen e c).session
      = { ({ c.session with contactor := .opened, confirmTimer := none } : Session).moveTo .closed with
        closePending := p } := by
  obtain ⟨p, hp⟩ := enterClosed_session e ((setContactor .opened c).onSession fun s => { s with confirmTimer := none })
  exact ⟨p, hp.trans (by rw [Core.onSession_session, setContactor_session])⟩

section
variable {e : Env} {cause r : StopCause} {c : Core} (hs : c.session.state = .stopping)
  (hr : c.session.endReason = some r) (hne : r ≠ cause)
include hr hne

/-- A cause that is not the end reason joins the faults seen (R33). -/
theorem addFault_session :
    (addFault cause c).session = { c.session with faultsSeen := c.session.faultsSeen ||| bit 16 cause.code } := by
  simp [addFault, hr, hne]

include hs

/-- In STOPPING a further cause joins the faults seen, and one of the class at once opens a CLOSED contactor whose
contact reads closed (R33, R35). -/
theorem stopCause_opensStopping (hk : c.session.contactor = .closed) (ha : cause.atOnce = true)
    (haux : e.mfe.aux.active = true) :
    (stopCause e cause c).session = c.session.opens (c.session.faultsSeen ||| bit 16 cause.code)
      ∧ (stopCause e cause c).mon.unmarked = c.mon.unmarked ∧ (stopCause e cause c).sup = c.sup := by
  have hfault := addFault_session hr hne
  have hopens : stopCause e cause c = beginOpening (addFault cause c) := by
    simp [stopCause, hs, ha, hk, openContactor, haux]
  rw [hopens]
  exact ⟨by rw [beginOpening_session, hfault]; rfl, by simp, by simp⟩

/-- With the contactor opening already a further cause joins the faults seen alone (R33). -/
theorem stopCause_whileOpening (hk : c.session.contactor = .opening) :
    (stopCause e cause c).session = { c.session with faultsSeen := c.session.faultsSeen ||| bit 16 cause.code }
      ∧ (stopCause e cause c).sup = c.sup := by
  have hjoins : stopCause e cause c = addFault cause c := by simp [stopCause, hs, hk]
  rw [hjoins]
  exact ⟨addFault_session hr hne, by simp⟩

end

/-- A session that opens in STOPPING withdraws the contactor drive (R20). -/
theorem linesOf_opens {faults : Half} {x : Session} {c : Core} (hs : x.state = .stopping)
    (hc : c.session = x.opens faults) : (linesOf c).contactorDrive = false :=
  (linesOf_opening (by rw [hc]; exact hs) (by rw [hc]; rfl)).2

/-! ### The timer of the wait (R35) -/

theorem currentWaitTimer_done {s : State} (hu : s.core.up = true) (ht : s.core.session.waitTimer.isSome = true) :
    exec .currentWaitTimerExpiry s
      = .next (afterBlocks s (conclude s.env (openContactor s.env s.core))) := by
  have hdue : waitTimeout s.env s.core = conclude s.env (openContactor s.env s.core) := if_pos ht
  rw [show exec .currentWaitTimerExpiry s = (s.event waitTimeout).done from rfl, State.event_done _ hu, hdue]

/-! ### The FAULT in STOPPING (R114) -/

/-- The second LOW result in WARN during the current wait: the FAULT is latched and the contactor opens at once. -/
theorem enterFault_stopping {e : Env} {r : StopCause} {c : Core} (hs : c.session.state = .stopping)
    (hk : c.session.contactor = .closed) (haux : e.mfe.aux.active = true) (hr : c.session.endReason = some r)
    (hne : r ≠ .insulationFault) :
    (enterFault e c).session = c.session.opens (c.session.faultsSeen ||| bit 16 StopCause.insulationFault.code)
      ∧ (enterFault e c).mon.unmarked = { c.mon with result := .fault, faultResult := c.mon.last, mark := false } := by
  obtain ⟨hses, hmon, -⟩ := stopCause_opensStopping (e := e) (cause := .insulationFault) (c := c.latched)
    (by simpa using hs) (by simpa using hr) hne (by simpa using hk) rfl haux
  rw [Core.latched_session] at hses
  have hfault : enterFault e c = heaterOff (allocate true e (stopCause e .insulationFault c.latched)) := rfl
  have hnotLive : (stopCause e .insulationFault c.latched).session.state.live = false := by
    rw [hses]
    simp [Session.opens, hs, SessionState.live]
  rw [hfault]
  exact ⟨by rw [heaterOff_session, allocate_session_notLive hnotLive, hses],
    by rw [heaterOff_unmarked, allocate_unmarked, hmon, Core.latched_unmarked]⟩

/-! ### A window in STOPPING (R35, R39, R190) -/

section
variable {w : WindowSamples} {s : State} (first : Bool) (hb : BringsTheSet w s) (hs : s.core.session.state = .stopping)
  (hk : s.core.session.contactor = .closed) (haux : s.env.mfe.aux.active = true)
include hb hs hk

omit hb in
/-- What a set does in STOPPING without a detachment: a current below 10 dA opens the contactor (R35). -/
theorem sessionTakeSet_waits (hd : (s.windowMfe w).detached = false) :
    sessionTakeSet (s.core.session.state == .stopping) (s.windowEnv w) (s.windowCore w)
      = if (measure w).iOut < 10 then openContactor (s.windowEnv w) (s.windowCore w) else s.windowCore w := by
  have hnot : (s.windowMfe w).detached = true ↔ False := by simp [hd]
  simp [sessionTakeSet, hs, hk, hnot]

/-- The next state of a window that keeps the supply and leaves the session in STOPPING. -/
theorem windowClose_stopping {d : Core}
    (hd : sessionTakeSet (s.core.session.state == .stopping) (s.windowEnv w) (s.windowCore w) = d)
    (hstate : d.session.state = .stopping) (hsup : d.sup = s.core.sup) (hstays : SupplyStays w s) :
    ∃ c : Core, exec (.measurementWindowClose w first) s = .next (s.afterWindow w c) ∧ c.session = d.session := by
  obtain ⟨low, hsupply⟩ := takeSupply_stays (e := s.windowEnv w) (p := measure w) (c := heaterTakeSet (s.windowEnv w) d)
    rfl (by rw [heaterTakeSet_sup, hsup]; exact hstays)
  have hexec := windowClose_hands first hb hd
  rw [hsupply, conclude_busy (by rw [Core.onSup_session, heaterTakeSet_session, hstate]; rfl)] at hexec
  exact ⟨_, hexec, by simp⟩

include haux

theorem windowClose_endsWait (hd : (s.windowMfe w).detached = false) (hlt : (measure w).iOut < 10) :
    sessionTakeSet (s.core.session.state == .stopping) (s.windowEnv w) (s.windowCore w)
      = beginOpening (s.windowCore w) := by
  obtain ⟨-, -, -, hsame, -⟩ := id hb
  have haux' : (s.windowEnv w).mfe.aux.active = true := hsame.trans haux
  rw [sessionTakeSet_waits hs hk hd, if_pos hlt, openContactor, if_pos haux']

/-- The entry to SUPPLY-LOW in STOPPING leaves the contactor opening, whether the current had fallen or not. -/
theorem windowClose_losesSupplyStopping {r : StopCause} (hd : (s.windowMfe w).detached = false)
    (hr : s.core.session.endReason = some r) (hne : r ≠ .supplyLoss) (hlow : s.core.sup.low = false)
    (hv : (measure w).vSupMin < 90) :
    ∃ c : Core, exec (.measurementWindowClose w first) s = .next (s.afterWindow w c)
      ∧ c.session = s.core.session.opens (s.core.session.faultsSeen ||| bit 16 StopCause.supplyLoss.code)
      ∧ c.sup.low = true := by
  obtain ⟨-, -, -, hsame, -⟩ := id hb
  have haux' : (s.windowEnv w).mfe.aux.active = true := hsame.trans haux
  have hstop (d : Core) (hsup : d.sup = s.core.sup)
      (hses : d.session = s.core.session ∨ d.session = s.core.session.opens s.core.session.faultsSeen) :
      ∃ c, conclude (s.windowEnv w) (takeSupply (s.windowEnv w) (heaterTakeSet (s.windowEnv w) d)) = c
        ∧ c.session = s.core.session.opens (s.core.session.faultsSeen ||| bit 16 StopCause.supplyLoss.code)
        ∧ c.sup.low = true := by
    have hstopped : (stopCause (s.windowEnv w) .supplyLoss
        ((heaterTakeSet (s.windowEnv w) d).onSup fun x => { x with low := true })).session
          = s.core.session.opens (s.core.session.faultsSeen ||| bit 16 StopCause.supplyLoss.code)
        ∧ (stopCause (s.windowEnv w) .supplyLoss
          ((heaterTakeSet (s.windowEnv w) d).onSup fun x => { x with low := true })).sup
            = { s.core.sup with low := true } := by
      rcases hses with hses | hses
      · obtain ⟨hopens, -, hkept⟩ := stopCause_opensStopping (e := s.windowEnv w) (cause := .supplyLoss) (r := r)
          (c := (heaterTakeSet (s.windowEnv w) d).onSup fun x => { x with low := true }) (by simpa [hses] using hs)
          (by simpa [hses] using hr) hne (by simpa [hses] using hk) rfl haux'
        exact ⟨by simpa [hses] using hopens, by simpa [hsup] using hkept⟩
      · obtain ⟨hjoins, hkept⟩ := stopCause_whileOpening (e := s.windowEnv w) (cause := .supplyLoss) (r := r)
          (c := (heaterTakeSet (s.windowEnv w) d).onSup fun x => { x with low := true })
          (by simpa [hses, Session.opens] using hs) (by simpa [hses, Session.opens] using hr) hne
          (by simp [hses, Session.opens])
        exact ⟨by simpa [hses, Session.opens] using hjoins, by simpa [hsup] using hkept⟩
    obtain ⟨hfinal, hsupply⟩ := hstopped
    rw [takeSupply_enters rfl (by simpa [hsup] using hlow) hv,
      conclude_busy (by rw [hfinal]; simp [Session.opens, hs, SessionState.busy, SessionState.live])]
    exact ⟨_, rfl, hfinal, by rw [hsupply]⟩
  have htake := sessionTakeSet_waits hs hk hd
  have hexec := windowClose_hands first hb rfl
  split at htake
  next hlt =>
    have hends := windowClose_endsWait hb hs hk haux hd hlt
    obtain ⟨c, hc, hses, hlowered⟩ := hstop (beginOpening (s.windowCore w)) (by simp)
      (.inr (by rw [beginOpening_session, State.windowCore_session]; rfl))
    rw [hends, hc] at hexec
    exact ⟨c, hexec, hses, hlowered⟩
  next =>
    obtain ⟨c, hc, hses, hlowered⟩ := hstop (s.windowCore w) (by simp) (.inl (by simp))
    rw [htake, hc] at hexec
    exact ⟨c, hexec, hses, hlowered⟩

end

/-- Settles O13: the timer, the FAULT and the windows, each by what opens the contactor. -/
theorem currentWaitEndsInOpening : Obligations.CurrentWaitEndsInOpening := by
  intro s ht hs
  refine ⟨fun hu haux => ?timer, fun hu haux hd hrel => ?dropped,
    fun samples sum vPos n v r hu hk haux hr hne hm hhalf hw hmark hpol hres hlow hpos hv hsum hn hn0 hbelow => ?fault,
    fun w first hb hk haux => ⟨fun hd hstays r hr hne => ?removed,
      fun hd => ⟨fun hstays => ⟨fun hge => ?stays, fun hlt => ?ends⟩, fun r hr hne hlow hv => ?supply⟩⟩⟩
  case timer =>
    have hopens : openContactor s.env s.core = beginOpening s.core := if_pos haux
    rw [currentWaitTimer_done hu ht, hopens, conclude_busy (by rw [beginOpening_session]; simp [hs, SessionState.busy]),
      beginOpening_eq]
  case dropped =>
    have hopens : openContactor s.env s.core = confirmOpen s.env (beginOpening s.core) := if_neg (by simp [haux])
    obtain ⟨p, hp⟩ := confirmOpen_session s.env (beginOpening s.core)
    have hdone := currentWaitTimer_done hu ht
    rw [beginOpening_session] at hp
    rw [hopens, conclude_closed (by rw [hp]; rfl) (.inr ⟨hd, by rw [hp]; exact hrel⟩)] at hdone
    generalize confirmOpen s.env (beginOpening s.core) = d at *
    obtain ⟨hload, hdrive⟩ := linesOf_closed (c := d) (by rw [hp]; rfl)
    refine ⟨_, hdone, ?_⟩
    show _ ∧ _ ∧ _ ∧ _ ∧ _ ∧ _ ∧ (linesOf d).contactorDrive = false ∧ (linesOf d).pilotLoad = false
    rw [hload, hdrive, afterBlocks, hp]
    exact ⟨rfl, rfl, rfl, rfl, rfl, rfl, rfl, rfl⟩
  case fault =>
    have hnew : nextResult .low (moveCounts .low s.core.mon) = .fault := by
      rw [nextResult_warn _ (by simpa using hres)]
      simp [moveCounts, hlow]
    have hdecide := decideHalf_judges (e := s.env) (c := s.core.sampled sum n)
      (Monitor.discarded_eq_false hmark hw hn0) hpol hpos hm hv rfl (classify_low (s.env.cfg.warnOhms * v / 10000) hbelow)
    rw [show nextResult .low (moveCounts .low (s.core.sampled sum n).mon) = .fault from hnew] at hdecide
    generalize hx : busResult s.env (s.core.sampled sum n) _ v = x at hdecide
    have hset : setResult s.env .fault (s.core.counted s.env sum n x .low)
        = enterFault s.env (s.core.counted s.env sum n x .low) := if_neg (by simp [hres])
    obtain ⟨hses, hmon⟩ := enterFault_stopping (e := s.env) (c := s.core.counted s.env sum n x .low) (r := r)
      (by simpa using hs) (by simpa using hk) haux (by simpa using hr) hne
    have hdec := hdecide.trans (congrArg (Core.onMon · Monitor.unmarked) hset)
    rw [Core.counted_session] at hses
    have hstate : (s.core.counted s.env sum n x .low).mon.state = .monitoring := by simpa using hm
    generalize enterFault s.env (s.core.counted s.env sum n x .low) = d at *
    have hnot (y : SessionState) (hy : y ≠ .stopping) : (d.onMon Monitor.unmarked).session.state ≠ y := by
      rw [Core.onMon_session, hses]
      exact fun h => hy (h.symm.trans hs)
    have hdone := halfPeriod_done hu (by rw [hm]; rfl) hhalf hw hsum hn hdec (hnot _ nofun) (hnot _ nofun)
    have hend : (closeWindow s.env (d.onMon Monitor.unmarked)).session = _ := (closeWindow_session ..).trans hses
    refine ⟨_, hdone, hend, ?_, ?_, linesOf_opens hs hend⟩
    · simp only [afterBlocks, closeWindow_mon, Core.onMon_mon, hmon]
    · simp only [afterBlocks, closeWindow_mon, Core.onMon_mon, hmon, hstate]
  case removed =>
    obtain ⟨-, -, -, hsame, -⟩ := id hb
    have hset : sessionTakeSet (s.core.session.state == .stopping) (s.windowEnv w) (s.windowCore w)
        = stopCause (s.windowEnv w) .cableRemoved (s.windowCore w) := by
      have hdetached : (s.windowEnv w).mfe.detached = true := hd
      simp [sessionTakeSet, hs, hdetached, hd]
    obtain ⟨hses, -, hsup⟩ := stopCause_opensStopping (e := s.windowEnv w) (cause := .cableRemoved)
      (c := s.windowCore w) (by simpa using hs) (by simpa using hr) hne (by simpa using hk) rfl (hsame.trans haux)
    rw [State.windowCore_session] at hses
    obtain ⟨c, hexec, hc⟩ := windowClose_stopping first hb hs hk hset (by rw [hses]; exact hs) (by simpa using hsup)
      hstays
    rw [hses] at hc
    exact ⟨_, hexec, hc, linesOf_opens hs hc⟩
  case stays =>
    have hset := sessionTakeSet_waits hs hk hd
    rw [if_neg (Nat.not_lt.2 hge)] at hset
    obtain ⟨c, hexec, hc⟩ := windowClose_stopping first hb hs hk hset (by simpa using hs) (by simp) hstays
    exact ⟨_, hexec, hc.trans (by simp)⟩
  case ends =>
    have hset := windowClose_endsWait hb hs hk haux hd hlt
    obtain ⟨c, hexec, hc⟩ := windowClose_stopping first hb hs hk hset (by simpa using hs) (by simp) hstays
    rw [beginOpening_session, State.windowCore_session] at hc
    exact ⟨_, hexec, hc, linesOf_opens (faults := s.core.session.faultsSeen) hs hc⟩
  case supply =>
    obtain ⟨c, hexec, hc, hlowered⟩ := windowClose_losesSupplyStopping first hb hs hk haux hd hr hne hlow hv
    exact ⟨_, hexec, hc, hlowered, linesOf_opens hs hc⟩

end Sys2Proof.Machine
end

section
/-! PROOFS. The contactor's confirmations run out or succeed (R27, R34, R36, R37, R139, R140). -/

namespace Sys2Proof.Machine

/-! ### A close that is not confirmed (R27) -/

/-- The blocks when the close confirmation has run out (R27). -/
def Core.unconfirmed (c : Core) : Core := c.onSession fun x => { x with confirmTimer := none }

/-- The stop cause of an unconfirmed close withdraws the drive and examines the contact (R27, R36). -/
theorem closeConfirmTimeout_done {s : State} (hu : s.core.up = true) (ht : s.core.session.confirmTimer.isSome = true)
    (hs : s.core.session.state = .authorizing) (hk : s.core.session.contactor = .closing) :
    exec .closeConfirmTimeout s = .next (afterBlocks s (beginOpening (stopReady s.env .contactorFail s.core.unconfirmed))) := by
  have hdue : closeTimeout s.env s.core = conclude s.env (stopCause s.env .contactorFail s.core.unconfirmed) :=
    if_pos ⟨hk, ht⟩
  rw [stopCause_closing (c := s.core.unconfirmed) (by rw [Core.unconfirmed, Core.onSession_session, hs]; rfl) hk,
    conclude_busy (by rw [beginOpening_session, stopReady_session]; rfl)] at hdue
  rw [show exec .closeConfirmTimeout s = (s.event closeTimeout).done from rfl, State.event_done _ hu, hdue]

/-! ### The open is confirmed (R36, R37, R139) -/

/-- The session and the record at the end of a stop sequence whose open is confirmed, with the faults seen by then. -/
def EndedWith (r : StopCause) (faults : Half) (s t : State) : Prop :=
  t.core.session.state = .closed ∧ t.core.session.contactor = .opened
    ∧ t.core.session.endReason = some r ∧ t.core.session.faultsSeen = faults
    ∧ t.core.session.confirmTimer = none
    ∧ t.lines.pilotLoad = false ∧ t.lines.contactorDrive = false
    ∧ ∀ o : OpenRecord, s.core.meter.openRec = some o → o.closeRequested = false →
        s.core.queue.room = true → o.record.lines ≠ [] →
          t.core.meter.openRec = none ∧ t.core.session.closePending = false
            ∧ hasBit t.core.notices.fleetPending Notice.recordReady.code = true
            ∧ ∃ x : BillingRecord, t.core.queue = s.core.queue.place x
                ∧ PricedFrom o.record.lines x
                ∧ x.number = o.record.number
                ∧ x.continuation = o.record.continuation
                ∧ x.endReason = some (.cause r) ∧ x.faultsSeen = faults
                ∧ x.endTime = some s.core.meter.time

/-- The blocks of a part just before its open is confirmed: the end reason and the faults seen, and a running record
with the lines and the number it had. -/
structure OpensTo (r : StopCause) (faults : Half) (m : Meter) (q : ExportQueue) (c : Core) : Prop where
  reason : c.session.endReason = some r
  faults : c.session.faultsSeen = faults
  unreleased : c.session.releaseSeen = false
  time : c.meter.time = m.time
  queue : c.queue = q
  running : ∀ o, m.openRec = some o → o.closeRequested = false → ∃ p, c.meter.openRec = some p
    ∧ p.record.lines = o.record.lines ∧ p.record.number = o.record.number
    ∧ p.record.continuation = o.record.continuation

theorem confirmOpen_pends {p : Port} {n : Notice} {c : Core} (h : c.Pends p n) (e : Env) :
    (confirmOpen e c).Pends p n :=
  enterClosed_pends (h.frame (by simp [setContactor]))

section
variable {r : StopCause} {faults : Half} {s : State} {e : Env} {c : Core}
  (h : OpensTo r faults s.core.meter s.core.queue c)
include h

/-- A confirmed open ends the event: neither a detachment nor a release was seen (R40). -/
theorem OpensTo.conclude (hd : e.mfe.detached = false) : conclude e (confirmOpen e c) = confirmOpen e c := by
  obtain ⟨p, hp⟩ := confirmOpen_session e c
  exact conclude_closed (by rw [hp]; rfl) (.inr ⟨hd, by rw [hp]; exact h.unreleased⟩)

/-- A record that runs at the confirmed open is closed with the session's end, and placed (R139, R140, R146). -/
theorem OpensTo.places {o : OpenRecord} (ho : s.core.meter.openRec = some o) (hrun : o.closeRequested = false)
    (hroom : s.core.queue.room = true) (hl : o.record.lines ≠ []) :
    (confirmOpen e c).meter.openRec = none ∧ (confirmOpen e c).session.closePending = false
      ∧ (confirmOpen e c).Pends .fleet .recordReady
      ∧ ∃ x : BillingRecord, (confirmOpen e c).queue = s.core.queue.place x
          ∧ PricedFrom o.record.lines x ∧ x.number = o.record.number
          ∧ x.continuation = o.record.continuation
          ∧ x.endReason = some (.cause r) ∧ x.faultsSeen = faults ∧ x.endTime = some s.core.meter.time := by
  obtain ⟨p, hp, hlines, hnumber, hcont⟩ := h.running o ho hrun
  obtain ⟨hmeter, hpending, hready, hqueue⟩ := enterClosed_places (e := e) (o := p) (cause := r)
    (c := (setContactor .opened c).onSession fun x => { x with confirmTimer := none })
    (by simpa [setContactor] using hp) (by simpa [setContactor] using h.reason)
    (by simpa [setContactor, h.queue] using hroom)
  have hq : (confirmOpen e c).queue = s.core.queue.place (closedAs e c.meter faults r p) := by
    simpa [confirmOpen, setContactor, h.queue, h.faults] using hqueue
  have hpriced := closedAs_priced (e := e) c.meter faults r (o := p) (by rwa [hlines])
  rw [hlines] at hpriced
  exact ⟨hmeter, hpending, hready, _, hq, hpriced, hnumber, hcont, rfl, rfl, congrArg some h.time⟩

/-- What a state with the blocks of a confirmed open shows. -/
theorem OpensTo.ended {t : State} (ht : t.core = confirmOpen e c) (hlines : t.lines = linesOf t.core) :
    EndedWith r faults s t := by
  obtain ⟨p, hp⟩ := confirmOpen_session e c
  have hplaces {o : OpenRecord} := h.places (e := e) (o := o)
  rw [← ht] at hp
  obtain ⟨hload, hdrive⟩ := linesOf_closed (c := t.core) (by rw [hp]; rfl)
  refine ⟨by rw [hp]; rfl, by rw [hp]; rfl, by rw [hp]; exact h.reason, by rw [hp]; exact h.faults, by rw [hp]; rfl,
    by rw [hlines, hload], by rw [hlines, hdrive], fun o ho hrun hroom hl => ?_⟩
  rw [ht]
  exact hplaces ho hrun hroom hl

end

section
variable {s : State} {r : StopCause} (hr : s.core.session.endReason = some r)
  (hrel : s.core.session.releaseSeen = false)
include hr hrel

/-- An input that is inactive confirms the open with the blocks as they stand. -/
theorem State.opensTo_asItStands :
    OpensTo r s.core.session.faultsSeen s.core.meter s.core.queue s.core :=
  ⟨hr, rfl, hrel, rfl, rfl, fun o ho _ => ⟨o, ho, rfl, rfl, rfl⟩⟩

/-- WELD joins the faults seen and its copy in the running record before the stop sequence ends (R33, R36, R139). -/
theorem State.opensTo_weld (hne : r ≠ .weld) :
    OpensTo r (s.core.session.faultsSeen ||| bit 16 StopCause.weld.code) s.core.meter s.core.queue
        (addFault .weld (setWeld s.core))
      ∧ (addFault .weld (setWeld s.core)).session.weldLatch = true
      ∧ (addFault .weld (setWeld s.core)).Pends .vehicle .weld
      ∧ (addFault .weld (setWeld s.core)).Pends .fleet .weld := by
  have hses := addFault_session (cause := .weld) (c := setWeld s.core) (r := r) (by simpa [setWeld] using hr) hne
  have hmeter : (addFault .weld (setWeld s.core)).meter = { s.core.meter with
      openRec := s.core.meter.openRec.map (OpenRecord.changed fun x => { x with
        endReason := s.core.session.endReason.map RecordEnd.cause
        faultsSeen := s.core.session.faultsSeen ||| bit 16 StopCause.weld.code }) } := by
    have hnot : ¬(setWeld s.core).session.endReason = some .weld := by simp [setWeld, hr, hne]
    rw [addFault, if_neg hnot, copyFaults, onRunningRecord_meter]
    simp [setWeld]
  have hnotices : (addFault .weld (setWeld s.core)).notices = (setWeld s.core).notices := by
    unfold addFault
    split <;> rfl
  refine ⟨⟨by rw [hses]; simpa [setWeld] using hr, by rw [hses]; simp [setWeld],
      by rw [hses]; simpa [setWeld] using hrel, by rw [hmeter], by simp, fun o ho hrun => ?_⟩,
    by rw [hses]; simp [setWeld], (post_pends_vehicle _ (by decide)).frame hnotices,
    (post_pends_fleet _ (by decide)).frame hnotices⟩
  rw [hmeter, ho, Option.map_some, OpenRecord.changed_running _ hrun]
  exact ⟨_, rfl, rfl, rfl, rfl⟩

end

/-- The end of the open confirmation, as the contact reads (R36). -/
theorem openConfirmTimeout_done {s : State} (hu : s.core.up = true) (ht : s.core.session.confirmTimer.isSome = true)
    (hk : s.core.session.contactor = .opening) :
    exec .openConfirmTimeout s = .next (afterBlocks s (conclude s.env
      (if s.env.mfe.aux.active then weldFound s.env s.core else confirmOpen s.env s.core))) := by
  have hdue : openTimeout s.env s.core = conclude s.env
      (if s.env.mfe.aux.active then weldFound s.env s.core else confirmOpen s.env s.core) := if_pos ⟨hk, ht⟩
  rw [show exec .openConfirmTimeout s = (s.event openTimeout).done from rfl, State.event_done _ hu, hdue]

/-! ### The contact while the contactor opens (R18, R36) -/

/-- A contact that becomes active while the contactor opens changes nothing yet, nor does one that stays inactive. -/
theorem reviewAux_opening {e : Env} {c : Core} (hk : c.session.contactor = .opening) : reviewAux false e c = c := by
  unfold reviewAux
  split
  · rfl
  next hne =>
    have hactive : e.mfe.aux.active = true := Bool.not_eq_false _ ▸ hne
    simp [auxChanged, hactive, hk]

/-- The contact that becomes inactive confirms the open. -/
theorem reviewAux_opened {e : Env} {c : Core} (hk : c.session.contactor = .opening)
    (h : e.mfe.aux.active = false) : reviewAux true e c = confirmOpen e c := by
  simp [reviewAux, auxChanged, h, hk]

/-- Settles O12: each confirmation by what its end finds of the contact. -/
theorem contactorTimeoutsEndTheSession : Obligations.ContactorTimeoutsEndTheSession := by
  intro s hu ht
  refine ⟨fun hs hk => ?unconfirmed, fun hs hk => ⟨fun level haux hlev => ?late,
    fun r hne hr hd hrel => ⟨fun haux => ?weld, fun haux => ?inactive, fun level haux hlev hact => ?opens⟩⟩⟩
  case unconfirmed =>
    have hdone := closeConfirmTimeout_done hu ht hs hk
    have hses := beginOpening_session (stopReady s.env .contactorFail s.core.unconfirmed)
    have hrecord : (beginOpening (stopReady s.env .contactorFail s.core.unconfirmed)).alloc.record = AllocRecord.zero := by
      rw [beginOpening_eq, stopReady_record]
    have hqueue : (beginOpening (stopReady s.env .contactorFail s.core.unconfirmed)).queue = s.core.queue := by
      rw [beginOpening_eq, stopReady_queue]
      rfl
    have hheld : (beginOpening (stopReady s.env .contactorFail s.core.unconfirmed)).sup.held = none := by
      rw [beginOpening_sup, stopReady_sup]
      exact held_of_up hu
    rw [stopReady_session] at hses
    generalize beginOpening (stopReady _ _ _) = d at *
    have hstate : d.session.state = .stopping := by rw [hses]; rfl
    obtain ⟨hload, -⟩ := linesOf_stopping hheld hstate
    refine ⟨_, hdone, hstate, by rw [afterBlocks, hses], by rw [afterBlocks, hses]; rfl, by rw [afterBlocks, hses],
      by rw [afterBlocks, hses], by rw [afterBlocks, hses]; rfl, hrecord, hload,
      (linesOf_opening hstate (by rw [hses])).2, hqueue⟩
  case late =>
    refine ⟨_, auxSettled_done hu hlev (by rw [haux, reviewAux_opening hk]) (by simp [hs]) (by simp [hs]), rfl⟩
  case weld =>
    obtain ⟨hopens, hlatch, hvehicle, hfleet⟩ := s.opensTo_weld hr hrel hne
    have hdone := openConfirmTimeout_done hu ht hk
    obtain ⟨p, hp⟩ := confirmOpen_session s.env (addFault .weld (setWeld s.core))
    rw [if_pos haux, weldFound, hopens.conclude hd] at hdone
    exact ⟨_, hdone, hopens.ended rfl rfl, by rw [afterBlocks, hp]; exact hlatch, confirmOpen_pends hvehicle _,
      confirmOpen_pends hfleet _⟩
  case inactive =>
    have hopens := s.opensTo_asItStands hr hrel
    have hdone := openConfirmTimeout_done hu ht hk
    obtain ⟨p, hp⟩ := confirmOpen_session s.env s.core
    rw [if_neg (by simp [haux]), hopens.conclude hd] at hdone
    exact ⟨_, hdone, hopens.ended rfl rfl, by rw [afterBlocks, hp]; rfl⟩
  case opens =>
    have hopens := s.opensTo_asItStands hr hrel
    have hoff : (s.auxEnv level).mfe.aux.active = false := by simp [State.auxEnv, InputState.active, hact]
    have hconfirms : reviewAux s.env.mfe.aux.active (s.auxEnv level) s.core = confirmOpen (s.auxEnv level) s.core := by
      rw [haux, reviewAux_opened hk hoff]
    have hdone : exec (.digitalInputSettledChange .contactorAux level) s = .next (State.settle { s with
        env := s.auxEnv level
        core := conclude (s.auxEnv level) (reviewAux s.env.mfe.aux.active (s.auxEnv level) s.core) }) :=
      settledChange_done (d := .contactorAux) hu hlev
    obtain ⟨p, hp⟩ := confirmOpen_session (s.auxEnv level) s.core
    rw [hconfirms, hopens.conclude (e := s.auxEnv level) hd] at hdone
    exact ⟨_, hdone, hopens.ended (e := s.auxEnv level) rfl rfl, by rw [State.settle, hp]; rfl⟩

end Sys2Proof.Machine
end

section
/-! PROOFS. The verdicts of the post (R26, R27, R51, R52, R54, R159). -/

namespace Sys2Proof.Machine

/-! ### Grants and refusals (R26, R52, R54) -/

/-- The entry to STOPPING takes no notice out of a pending set. -/
theorem Core.Pends.stopReady {p : Port} {n : Notice} {c : Core} (h : c.Pends p n) (e : Env) (cause : StopCause) :
    (stopReady e cause c).Pends p n :=
  (h.post .sessionState).frame (stopReady_notices e cause c)

/-- AUTH-RESULT goes to both masters (R178). -/
theorem post_authResult_pends (c : Core) (p : Port) : (post .authResult c).Pends p .authResult := by
  cases p with
  | vehicle => exact post_pends_vehicle c (by decide)
  | fleet => exact post_pends_fleet c (by decide)

/-- A grant that completes the pair of facts begins to close the contactor (R26, R27). -/
theorem grant_closes {e : Env} {c : Core} (st : AuthState) (mode : AuthMode) (hs : c.session.state = .authorizing)
    (ht : c.session.selfTestPassed = true) (hk : c.session.contactor = .opened) (haux : e.mfe.aux.active = false) :
    (grant e st mode c).session
        = { c.session with authGranted := true, contactor := .closing, confirmTimer := some 100 }
      ∧ (grant e st mode c).auth = { c.auth with state := st, mode := some mode }
      ∧ (grant e st mode c).link = c.link ∧ (grant e st mode c).sup = c.sup
      ∧ ∀ q, (grant e st mode c).Pends q .authResult := by
  have hgrant : grant e st mode c = setContactor .closing ((post .authResult (settleMode st mode c)).onSession fun x =>
      { x with authGranted := true, confirmTimer := some 100 }) := by
    simp [grant, reportGrant, energizeIfReady, beginEnergizing, hs, ht, hk, haux]
    rfl
  rw [hgrant]
  refine ⟨by rw [setContactor_session]; simp, by simp [setContactor], by simp [setContactor], by simp [setContactor],
    fun q => (post_authResult_pends (settleMode st mode c) q).frame (by simp [setContactor])⟩

/-- The blocks of a refusal, before its stop cause is raised. -/
def Core.refused (c : Core) : Core := post .authResult (c.onAuth fun a => { a with state := .refused, request := none })

theorem Core.refused_pends (c : Core) (p : Port) : c.refused.Pends p .authResult := post_authResult_pends _ p

theorem refuse_eq (e : Env) (cause : StopCause) (c : Core) : refuse e cause c = stopCause e cause c.refused := rfl

/-- A late ACCEPT leaves all but the authorization unit, the running record and the notices (R54). -/
theorem lateAccept_eq (c : Core) :
    lateAccept c = { c with
      auth := { c.auth with state := .online, mode := some .online, lateAccept := true, request := none }
      meter := { c.meter with
        openRec := c.meter.openRec.map (OpenRecord.changed fun r => { r with mode := some .online, lateAccept := true }) }
      notices := enterNotice .authResult c.notices } := by
  rw [lateAccept, onRunningRecord_eq]
  rfl

/-! ### A verdict that matches the pending request (R51) -/

/-- A verdict is a sign of the post, and is then taken (R51, R159). -/
theorem authVerdict_done {s : State} (hu : s.core.up = true) (n : Half) (echo : Tag) (verdict : Byte) :
    exec (.authVerdict n echo verdict) s = .next (afterBlocks s
      (conclude s.env (takeVerdict s.env n echo verdict (messageArrives .authVerdict s.core)))) :=
  State.event_done (fun e c => deliverVerdict n echo verdict e (messageArrives .authVerdict c)) hu

theorem verdictMatches_of {a : Auth} {n : Half} {echo : Tag} {p : PendingAuth} {verdict : Byte}
    (hp : a.request = some p) (hn : p.number = n) (ht : a.sessionTag = some echo) (hv : verdict = 1 ∨ verdict = 2) :
    verdictMatches a n echo verdict = true := by
  rcases hv with rfl | rfl <;> simp [verdictMatches, hp, hn, ht]

theorem takeVerdict_unasked {e : Env} {n : Half} {echo : Tag} {verdict : Byte} {c : Core}
    (h : c.auth.request = none) : takeVerdict e n echo verdict c = c := by
  simp [takeVerdict, verdictMatches, h]

section
variable {e : Env} {n : Half} {echo : Tag} {p : PendingAuth} {c : Core} (hp : c.auth.request = some p)
  (hn : p.number = n) (ht : c.auth.sessionTag = some echo)
include hp hn ht

theorem takeVerdict_accepts (hw : c.auth.state = .waiting) :
    takeVerdict e n echo 1 c = grant e .online .online (c.onAuth fun a => { a with request := none }) := by
  rw [takeVerdict, if_pos (verdictMatches_of hp hn ht (.inl rfl)), hw]
  rfl

theorem takeVerdict_rejects (hw : c.auth.state = .waiting) : takeVerdict e n echo 2 c = refuse e .authRejected c := by
  rw [takeVerdict, if_pos (verdictMatches_of hp hn ht (.inr rfl)), hw]
  rfl

theorem takeVerdict_acceptsLate (ho : c.auth.state = .offline) : takeVerdict e n echo 1 c = lateAccept c := by
  rw [takeVerdict, if_pos (verdictMatches_of hp hn ht (.inl rfl)), ho]
  rfl

theorem takeVerdict_rejectsLate (ho : c.auth.state = .offline) :
    takeVerdict e n echo 2 c = refuse e .authRevoked c := by
  rw [takeVerdict, if_pos (verdictMatches_of hp hn ht (.inr rfl)), ho]
  rfl

end

/-- Settles O18: each verdict by the state of the authorization unit that it finds. -/
theorem verdictsDecideTheSession : Obligations.VerdictsDecideTheSession := by
  intro n echo p s hu
  refine ⟨fun hp hn ht => ⟨fun hw hs hk => ⟨fun hpass haux => ?accept, fun hd hrel => ?reject⟩,
    fun ho hna hnc => ?acceptLate, fun ho hs hk => ?rejectLate⟩, fun hnone hna hnc verdict => ?unasked⟩
  case accept =>
    have hdone := authVerdict_done hu n echo 1
    rw [takeVerdict_accepts (p := p) (by simpa using hp) hn (by simpa using ht) (by simpa using hw)] at hdone
    obtain ⟨hses, hauth, hlink, hsup, hnotices⟩ := grant_closes (e := s.env)
      (c := (messageArrives .authVerdict s.core).onAuth fun a => { a with request := none }) .online .online
      (by simpa using hs) (by simpa using hpass) (by simpa using hk) haux
    simp only [Core.onAuth_session, messageArrives_session, Core.onAuth_auth, messageArrives_auth, Core.onAuth_link,
      Core.onAuth_sup, messageArrives_sup] at hses hauth hlink hsup
    generalize grant _ _ _ _ = d at *
    have hstate : d.session.state = .authorizing := by rw [hses]; exact hs
    rw [conclude_live (by rw [hstate]; rfl)] at hdone
    obtain ⟨hdrive, hload⟩ := linesOf_closing (by rw [hsup]; exact held_of_up hu) hstate (by rw [hses])
    refine ⟨_, hdone, by rw [afterBlocks, hauth], by rw [afterBlocks, hauth], by rw [afterBlocks, hauth], hstate,
      by rw [afterBlocks, hses], by rw [afterBlocks, hses], hnotices .vehicle, hnotices .fleet, hload, hdrive,
      by rw [afterBlocks, hlink]; rfl, by rw [afterBlocks, hlink]; rfl⟩
  case reject =>
    have hdone := authVerdict_done hu n echo 2
    rw [takeVerdict_rejects (p := p) (by simpa using hp) hn (by simpa using ht) (by simpa using hw)] at hdone
    obtain ⟨⟨pending, hses⟩, hauth⟩ := refuse_opened (e := s.env) (c := messageArrives .authVerdict s.core)
      .authRejected (by simpa using hs) (by simpa using hk)
    generalize refuse _ _ _ = d at *
    rw [conclude_closed (by rw [hses]; rfl) (.inr ⟨hd, by rw [hses]; exact hrel⟩)] at hdone
    exact ⟨_, hdone, by rw [afterBlocks, hauth], by rw [afterBlocks, hauth], by rw [afterBlocks, hses]; rfl,
      by rw [afterBlocks, hses]; rfl⟩
  case acceptLate =>
    have hdone := authVerdict_done hu n echo 1
    rw [takeVerdict_acceptsLate (p := p) (by simpa using hp) hn (by simpa using ht) (by simpa using ho), lateAccept_eq,
      conclude_other (by simpa using hna) (by simpa using hnc)] at hdone
    refine ⟨_, hdone, rfl, rfl, fun o ho hrun => ?_⟩
    simp only [afterBlocks, messageArrives_meter, ho, Option.map_some, OpenRecord.changed_running _ hrun]
  case rejectLate =>
    have hdone := authVerdict_done hu n echo 2
    rw [takeVerdict_rejectsLate (p := p) (by simpa using hp) hn (by simpa using ht) (by simpa using ho), refuse_eq] at hdone
    have hwaits := conclude_waits (e := s.env) (cause := .authRevoked) (c := (messageArrives .authVerdict s.core).refused)
      (by simpa [Core.refused] using hs) (by simpa [Core.refused] using hk) rfl
    have hstops := stoppedOnCurrent_conclude (t := afterBlocks s (conclude s.env (stopCause s.env .authRevoked
      (messageArrives .authVerdict s.core).refused))) (e := s.env) (cause := .authRevoked)
      (c := (messageArrives .authVerdict s.core).refused)
      (by simpa [Core.refused] using hs) (by simpa [Core.refused] using hk) rfl
      (by simpa [Core.refused] using held_of_up hu) rfl rfl
    have hauth : (conclude s.env (stopCause s.env .authRevoked (messageArrives .authVerdict s.core).refused)).auth
        = { s.core.auth with state := .refused, request := none } := by
      rw [hwaits]
      simp [Core.refused]
    have hnotices (q : Port) : (conclude s.env (stopCause s.env .authRevoked
        (messageArrives .authVerdict s.core).refused)).Pends q .authResult :=
      (((messageArrives .authVerdict s.core).refused_pends q).stopReady s.env .authRevoked).frame
        (by rw [hwaits, Core.onSession_notices])
    generalize conclude _ _ = d at *
    exact ⟨_, hdone, hstops, by rw [afterBlocks, hauth], by rw [afterBlocks, hauth], by rw [afterBlocks, hauth],
      hnotices .vehicle, hnotices .fleet⟩
  case unasked =>
    have hdone := authVerdict_done hu n echo verdict
    rw [takeVerdict_unasked (by simpa using hnone), conclude_other (by simpa using hna) (by simpa using hnc)] at hdone
    exact hdone

end Sys2Proof.Machine
end

section
/-! PROOFS. The start of a session (R25, R47 to R49, R53, R107, R139, R160). -/

namespace Sys2Proof.Machine

/-! ### The blocks at the entry to AUTHORIZING (R25) -/

/-- The blocks at the entry to AUTHORIZING, before the authorization is decided. -/
def Core.begun (e : Env) (c : Core) : Core :=
  changeState e .authorizing (c.onSession Session.begin)
    |> (fun c => c.onAuth (fixIdentity e))
    |> openRecord
    |> forgetPostLimit
    |> monitorOnAuthorizing e

theorem enterAuthorizing_eq (e : Env) (c : Core) : enterAuthorizing e c = decideAtEntry e (c.begun e) := rfl

/-- A session that has begun after a state of the meter and a number of the session before: its number, its tag and
mode, its open record, the post limit forgotten and the self-test of the monitor. -/
def Core.BegunAfter (number : Half) (time : Word) (held : Option Tag) (mode : Option AuthMode) (c : Core) : Prop :=
  c.session.number = number + 1 ∧ c.auth.sessionTag = held
    ∧ c.auth.mode = mode ∧ c.auth.lateAccept = false
    ∧ (∃ r : BillingRecord, c.meter.openRec = some { record := r, closeRequested := false }
        ∧ r.number = number + 1 ∧ r.continuation = 0 ∧ r.tag = held
        ∧ r.mode = mode ∧ r.startTime = time ∧ r.lines = [])
    ∧ c.meter.energy = 0 ∧ c.meter.remainders = 0
    ∧ c.link.postLimit = none ∧ c.link.heard = false
    ∧ c.mon.state = .selfTest ∧ c.mon.kind = some .session

section
variable (e : Env) (c : Core)

@[simp] theorem Core.begun_session : (c.begun e).session = c.session.begin.moveTo .authorizing := by
  simp [Core.begun]

@[simp] theorem Core.begun_auth : (c.begun e).auth = fixIdentity e c.auth := by
  simp [Core.begun]

@[simp] theorem Core.begun_linkState : (c.begun e).link.state = c.link.state := by
  simp [Core.begun, forgetPostLimit]

theorem Core.begun_link : (c.begun e).link.postLimit = none ∧ (c.begun e).link.heard = false := by
  simp [Core.begun, forgetPostLimit]

/-- A monitor that does not measure begins the session self-test (R107). -/
theorem Core.begun_mon (hm : c.mon.state.measuring = false) :
    (c.begun e).mon.state = .selfTest ∧ (c.begun e).mon.kind = some .session := by
  have hchange := (Monitor.eq_of_unmarked (changeState_unmarked e .authorizing (c.onSession Session.begin))).1
  have hstays : (changeState e .authorizing (c.onSession Session.begin)).mon.state.measuring = false := by
    rw [hchange]
    exact hm
  simp [Core.begun, monitorOnAuthorizing, hstays, enterSelfTest, beginCycle, beginHalf]

theorem Core.begun_time : (c.begun e).meter.time = c.meter.time ∧ (c.begun e).meter.timeValid = c.meter.timeValid := by
  simp [Core.begun, openRecord]

theorem Core.begun_meter : (c.begun e).meter
    = (openRecord ((c.onSession Session.begin).onAuth (fixIdentity e))).meter := by
  simp [Core.begun, openRecord, Session.moveTo]

theorem Core.begun_begunAfter (hm : c.mon.state.measuring = false) :
    (c.begun e).BegunAfter c.session.number c.meter.time (if e.cfg.authRequired then c.auth.driverTag else none)
      none := by
  obtain ⟨hlimit, hheard⟩ := c.begun_link e
  obtain ⟨hstate, hkind⟩ := c.begun_mon e hm
  have hmeter := c.begun_meter e
  have hses := c.begun_session e
  have hauth := c.begun_auth e
  generalize c.begun e = d at *
  rw [Core.BegunAfter, hmeter, hses, hauth]
  exact ⟨rfl, rfl, rfl, rfl, ⟨_, rfl, rfl, rfl, rfl, rfl, rfl, rfl⟩, rfl, rfl, hlimit, hheard, hstate, hkind⟩

end

/-! ### The decision at the entry (R49) -/

section
variable {e : Env} {c : Core} {n : Half} {time : Word} {held : Option Tag}
  (h : c.BegunAfter n time held none) (hs : c.session.state = .authorizing)
  (ht : c.session.selfTestPassed = false)

/-- A grant before the self-test has passed is recorded, and the session waits (R26). -/
theorem grant_recorded (st : AuthState) (mode : AuthMode) (hs : c.session.state = .authorizing)
    (ht : c.session.selfTestPassed = false) :
    grant e st mode c
      = (post .authResult (settleMode st mode c)).onSession fun x => { x with authGranted := true } := by
  simp [grant, reportGrant, energizeIfReady, hs, ht]

include h

/-- AUTH-REQUEST and the pending request leave what has begun. -/
theorem Core.BegunAfter.askPost : (askPost e c).BegunAfter n time held none := h

include hs ht

/-- A grant settles the mode of a session that has begun, with that of its record (R49, R139). -/
theorem Core.BegunAfter.grant (st : AuthState) (mode : AuthMode) :
    (grant e st mode c).BegunAfter n time held (some mode) ∧ (Machine.grant e st mode c).session.state = .authorizing
      ∧ (Machine.grant e st mode c).session.authGranted = true
      ∧ (Machine.grant e st mode c).auth = { c.auth with state := st, mode := some mode }
      ∧ (Machine.grant e st mode c).Pends .vehicle .authResult := by
  obtain ⟨hsession, hauth⟩ := grant_waits (e := e) st mode hs ht
  obtain ⟨hnumber, htag, -, hlate, ⟨r, hrec, hr⟩, henergy, hrem, hlink, hheard, hmon⟩ := h
  have hgrant := grant_recorded (e := e) st mode hs ht
  have hmeter : (Machine.grant e st mode c).meter
      = { c.meter with openRec := some { record := { r with mode := some mode }, closeRequested := false } } := by
    rw [hgrant, Core.onSession_meter, post_meter, settleMode, onRunningRecord_meter, Core.onAuth_meter, hrec,
      Option.map_some, OpenRecord.changed_running _ rfl]
  obtain ⟨hnumber', hcont, htag', -, hstart, hlines⟩ := hr
  refine ⟨?_, by rw [hsession]; exact hs, by rw [hsession], hauth, ?_⟩
  · rw [Core.BegunAfter, hsession, hauth, hmeter]
    exact ⟨hnumber, htag, rfl, hlate, ⟨_, rfl, hnumber', hcont, htag', rfl, hstart, hlines⟩, henergy, hrem,
      by rw [hgrant]; simpa using hlink, by rw [hgrant]; simpa using hheard, by rw [hgrant]; simpa using hmon⟩
  · exact (post_authResult_pends (settleMode st mode c) .vehicle).frame (by rw [hgrant]; rfl)

end

/-- The blocks with the entries removed that an offline decision passes over (R57). -/
def Core.lookedOver (tag : Tag) (c : Core) : Core :=
  c.onAuth fun a => { a with allowList := (lookup c.meter tag a.allowList).1 }

/-- The offline decision of a session with a tag: the lookup grants or refuses it (R53, R57). -/
theorem offlineDecision_tagged {e : Env} {c : Core} {tag : Tag} (htag : c.auth.sessionTag = some tag) :
    offlineDecision e c = if (lookup c.meter tag c.auth.allowList).2 then grant e .offline .offline (c.lookedOver tag)
      else refuse e .authRejected (c.lookedOver tag) := by
  rw [offlineDecision, htag]
  rfl

/-- The entry to STOPPING ends a session self-test (R107). -/
theorem stopReady_monitorOff {e : Env} {cause : StopCause} {c : Core} (hm : c.mon.state = .selfTest)
    (hk : c.mon.kind = some .session) : (stopReady e cause c).mon.state = .off := by
  have hends (d : Core) (hd : d.mon.unmarked = c.mon.unmarked) : (monitorOnStopping e d).mon.state = .off := by
    have hstate := (Monitor.eq_of_unmarked hd).1
    have hkind : d.mon.kind = c.mon.kind := (congrArg Monitor.kind hd :)
    rw [monitorOnStopping, if_pos (by simp [hstate, hkind, hm, hk]), leaveMeasuring_mon]
  exact (Monitor.eq_of_unmarked (allocate_unmarked ..)).1.trans (hends _ (by simp))

/-- A refusal before the contactor closes turns the monitor OFF and posts AUTH-RESULT (R53, R107). -/
theorem refuse_endsTest {e : Env} {cause : StopCause} {c : Core} (hs : c.session.state = .authorizing)
    (hk : c.session.contactor = .opened) (hm : c.mon.state = .selfTest) (hkind : c.mon.kind = some .session) :
    (refuse e cause c).mon.state = .off ∧ (refuse e cause c).Pends .vehicle .authResult := by
  have hoff : (stopReady e cause c.refused).mon.state = .off := stopReady_monitorOff hm hkind
  have hunmarked := enterClosed_unmarked (e := e) (c := stopReady e cause c.refused) (by rw [hoff]; rfl)
  rw [refuse_eq, stopCause_opened (c := c.refused) (by rw [show c.refused.session = c.session from rfl, hs]; rfl) hk]
  exact ⟨(Monitor.eq_of_unmarked hunmarked).1.trans hoff, enterClosed_pends ((c.refused_pends .vehicle).stopReady e cause)⟩

/-! ### The start (R24, R25) -/

theorem leaveClosed_elsewhere {e : Env} {c : Core} (h : c.session.state ≠ .closed) : leaveClosed e c = c := by
  simp [leaveClosed, h]

theorem leaveClosed_waits {e : Env} {c : Core} (hd : e.mfe.detached = false) (hr : c.session.releaseSeen = false) :
    leaveClosed e c = c := by
  simp [leaveClosed, hd, hr]

/-- The event that meets the last start condition in ATTACHED starts the session. -/
theorem conclude_starts {e : Env} {c : Core} (hs : c.session.state = .attached) (ha : c.active = true)
    (hm : missingStart e c = 0) : conclude e c = leaveClosed e (decideAtEntry e (c.begun e)) := by
  rw [conclude, evaluateStart, if_pos (by simp [hs, ha, hm]), enterAuthorizing_eq]

/-- The blocks with a driver tag stored or cleared (R47). -/
def Core.tagged (tag : Option Tag) (c : Core) : Core := c.onAuth fun a => { a with driverTag := tag }

theorem setDriverTag_done {q : Byte} {content : List Byte} {tag : Option Tag} {s : State} (h : VehicleTakes s)
    (hc : tagOperand content = some tag) :
    exec (.setDriverTag q content) s
      = .next (afterVehicle s (conclude s.env (s.core.tagged tag)) 0x06 q .ok [] .none) :=
  vehicleDispatch_done h (withOperand_some hc (shiftHeld s))

section
variable {q : Byte} {tag : Tag} {s : State} (h : VehicleTakes s) (hs : s.core.session.state = .attached)
  (hm : missingStart s.env (s.core.tagged (some tag)) = 0)
include h hs hm

/-- The tag that meets the last start condition starts the session. -/
theorem setDriverTag_starts :
    exec (.setDriverTag q tag.bytes) s = .next (afterVehicle s
      (leaveClosed s.env (decideAtEntry s.env ((s.core.tagged (some tag)).begun s.env))) 0x06 q .ok [] .none) := by
  obtain ⟨hheld, hpower, -, -⟩ := id h
  have hactive : (s.core.tagged (some tag)).active = true := by simp [Core.tagged, Core.active, hheld, hpower]
  rw [setDriverTag_done h (show tagOperand tag.bytes = some (some tag) from rfl),
    conclude_starts (c := s.core.tagged (some tag)) hs hactive hm]

end

/-- Settles O17: the tag is stored, or starts the session in the way that the configuration and the link decide. -/
theorem driverTagStartsTheSession : Obligations.DriverTagStartsTheSession := by
  intro q tag s h
  refine ⟨fun hna hnc => ⟨?stores, ?clears⟩, fun hs hm hoff => ?starts⟩
  case stores =>
    rw [setDriverTag_done h (show tagOperand tag.bytes = some (some tag) from rfl),
      conclude_other (c := s.core.tagged (some tag)) hna hnc]
    rfl
  case clears =>
    rw [setDriverTag_done h (show tagOperand [] = some none from rfl),
      conclude_other (c := s.core.tagged none) hna hnc]
    rfl
  case starts =>
    have hdone := setDriverTag_starts (q := q) h hs hm
    have hbegun := (s.core.tagged (some tag)).begun_begunAfter s.env hoff
    have hses := (s.core.tagged (some tag)).begun_session s.env
    have hauth := (s.core.tagged (some tag)).begun_auth s.env
    have hlink := (s.core.tagged (some tag)).begun_linkState s.env
    obtain ⟨htime, hvalid⟩ := (s.core.tagged (some tag)).begun_time s.env
    generalize (s.core.tagged (some tag)).begun s.env = d at *
    have hstate : d.session.state = .authorizing := by rw [hses]; rfl
    have hpass : d.session.selfTestPassed = false := by rw [hses]; rfl
    have hentry (hreq : s.env.cfg.authRequired = true) (hlost : s.core.link.state = .lost) :
        decideAtEntry s.env d = (if (lookup d.meter tag d.auth.allowList).2
            then grant s.env .offline .offline (d.lookedOver tag) else refuse s.env .authRejected (d.lookedOver tag))
          ∧ d.auth.allowList = s.core.auth.allowList
          ∧ ∀ a : AllowEntry, a.expired d.meter = a.expired s.core.meter := by
      have hdecides : decideAtEntry s.env d = offlineDecision s.env d := by
        simp [decideAtEntry, hreq, hlink, Core.tagged, hlost]
      have htag : d.auth.sessionTag = some tag := by
        rw [hauth]
        exact if_pos hreq
      refine ⟨hdecides.trans (offlineDecision_tagged htag), by rw [hauth]; rfl, fun a => ?_⟩
      rw [AllowEntry.expired, htime, hvalid]
      rfl
    refine ⟨fun hreq hlost => ?asked, fun hfree => ?free, fun hreq hlost => ⟨fun hfound => ?granted,
      fun hnone hk hdet => ?refused⟩⟩
    case asked =>
      have hasks : decideAtEntry s.env d = askPost s.env d := by simp [decideAtEntry, hreq, hlink, Core.tagged, hlost]
      have hsession : (askPost s.env d).session = d.session := by simp [askPost]
      have hrequest : (askPost s.env d).auth = { d.auth with
          state := .waiting
          request := some { number := d.session.number, sendTime := d.meter.time, timer := some 10000 } } := by
        simp [askPost]
      have hbegan := hbegun.askPost (e := s.env)
      rw [if_pos hreq] at hbegan
      rw [hasks, leaveClosed_elsewhere (by rw [hsession, hstate]; nofun)] at hdone
      generalize askPost s.env d = b at *
      rw [hses] at hsession hrequest
      rw [htime] at hrequest
      exact ⟨_, hdone, hbegan, by rw [afterVehicle, hsession]; rfl, by rw [afterVehicle, hsession]; rfl,
        by rw [afterVehicle, hsession]; rfl, by rw [afterVehicle, hsession]; rfl, by rw [afterVehicle, hrequest],
        by rw [afterVehicle, hrequest]; rfl⟩
    case free =>
      have hgrant : decideAtEntry s.env d = grant s.env .free .free d := by simp [decideAtEntry, hfree]
      obtain ⟨hbegan, hstays, hgranted, hauthor, hpends⟩ := hbegun.grant (e := s.env) hstate hpass .free .free
      rw [hgrant, leaveClosed_elsewhere (by rw [hstays]; nofun)] at hdone
      rw [if_neg (by simp [hfree])] at hbegan
      exact ⟨_, hdone, hbegan, hstays, hgranted, by rw [afterVehicle, hauthor], by rw [afterVehicle, hauthor, hauth]; rfl, hpends⟩
    case granted =>
      obtain ⟨hoffline, hlist, hexpired⟩ := hentry hreq hlost
      have hgrant := hoffline.trans (if_pos ((lookup_found_iff ..).2 (by simpa only [hlist, hexpired] using hfound)))
      rw [if_pos hreq] at hbegun
      obtain ⟨hbegan, hstays, hgranted, hauthor, hpends⟩ := Core.BegunAfter.grant (e := s.env)
        (c := d.lookedOver tag) hbegun hstate hpass .offline .offline
      rw [hgrant, leaveClosed_elsewhere (by rw [hstays]; nofun)] at hdone
      exact ⟨_, hdone, hbegan, hstays, hgranted, by rw [afterVehicle, hauthor],
        by rw [afterVehicle, hauthor, Core.lookedOver, Core.onAuth_auth, hauth]; rfl, hpends⟩
    case refused =>
      obtain ⟨hoffline, hlist, hexpired⟩ := hentry hreq hlost
      have hrefuse := hoffline.trans (if_neg (by
        rw [lookup_notFound (by simpa only [hlist, hexpired] using hnone)]
        simp))
      obtain ⟨-, -, -, -, -, -, -, -, -, hmon, hkind⟩ := hbegun
      have hopened : d.session.contactor = .opened := by rw [hses]; exact hk
      obtain ⟨⟨pending, hclosed⟩, hauthor⟩ := refuse_opened (e := s.env)
        (c := d.lookedOver tag) .authRejected hstate hopened
      obtain ⟨hmonitor, hpends⟩ := refuse_endsTest (e := s.env) (cause := .authRejected)
        (c := d.lookedOver tag) hstate hopened hmon hkind
      rw [show (d.lookedOver tag).session = _ from hses] at hclosed
      rw [hrefuse] at hdone
      generalize refuse s.env .authRejected _ = b at hdone hclosed hauthor hmonitor hpends
      rw [leaveClosed_waits hdet (by rw [hclosed]; rfl)] at hdone
      exact ⟨_, hdone, by rw [afterVehicle, hclosed]; rfl, by rw [afterVehicle, hclosed]; rfl,
        by rw [afterVehicle, hclosed]; rfl, by rw [afterVehicle, hauthor], by rw [afterVehicle, hauthor], hmonitor,
        hpends⟩

end Sys2Proof.Machine
end

section
/-! PROOFS. RELEASE-RECORD (R40, R136, R138, R140, R145, R148, R149): the removal, and what the room leads to. -/

namespace Sys2Proof.Machine

/-! ### The request (R148) -/

theorem releaseOperand_bytes (n : Half) (k : Byte) : releaseOperand (le 2 n.toNat ++ [k]) = some (n, k.toNat) := by
  have hn : leVal (le 2 n.toNat) = n.toNat := (leVal_le 2 n.toNat).trans (Nat.mod_eq_of_lt n.isLt)
  show some (BitVec.ofNat 16 (leVal (le 2 n.toNat)), k.toNat) = _
  rw [hn, BitVec.ofNat_toNat, BitVec.setWidth_eq]

theorem releaseOperand_length {c : List Byte} (h : c.length ≠ 3) : releaseOperand c = none := by
  unfold releaseOperand
  split
  · exact absurd rfl h
  · rfl

/-- The blocks with the oldest record removed (R148). -/
def Core.released (c : Core) : Core := c.onQueue ExportQueue.release

/-- What a release does that names the oldest record (R148, R149). -/
def releaseOldest (e : Env) (c : Core) : Core := conclude e (roomReport e c.released)

section
variable {q k : Byte} {n : Half} {s : State} (h : FleetTakes s)
include h

theorem releaseRecord_done {core : Core} {status : Status}
    (hown : ownReleaseRecord (le 2 n.toNat ++ [k]) (s.onFport closingFlag)
      = { state := (s.onFport closingFlag).onCore fun _ => core, status, content := [] }) :
    exec (.releaseRecord q (le 2 n.toNat ++ [k])) s
      = .next (afterFleet s core (le 2 n.toNat ++ [k]) [] 0x41 q status) :=
  fleetRequest_done h (frameFits_of_short _ _ (by simp [le_length])) hown

theorem releaseRecord_releases {r : BillingRecord} (hr : s.core.queue.oldest = some r) (hn : r.number = n)
    (hk : r.continuation = k.toNat) :
    exec (.releaseRecord q (le 2 n.toNat ++ [k])) s
      = .next (afterFleet s (releaseOldest s.env s.core) (le 2 n.toNat ++ [k]) [] 0x41 q .ok) := by
  refine releaseRecord_done h ?_
  rw [ownReleaseRecord, withOperand_some (releaseOperand_bytes n k)]
  simp only [State.onFport_core, hr, hn, hk, and_self, if_true]
  rfl

end

/-! ### The queue (R144, R146, R148) -/

theorem ExportQueue.release_eq (q : ExportQueue) :
    q.release = if q.queue = [] then { queue := [], held := none }
      else { queue := q.queue.tail ++ q.held.toList, held := none } := by
  unfold ExportQueue.release
  split
  next hq => simp [hq]
  next hq => simp [hq]

/-- With the held record promoted the queue is full again, and the held position has the room (R145, R146). -/
theorem ExportQueue.release_full {q : ExportQueue} (hl : q.queue.length = 8) (hh : q.held.isSome = true) :
    q.release.room = true ∧ ∀ r, q.release.place r = { queue := q.queue.tail ++ q.held.toList, held := some r } := by
  have hrelease : q.release = { queue := q.queue.tail ++ q.held.toList, held := none } := by
    rw [q.release_eq, if_neg (by rintro hnil; simp [hnil] at hl)]
  obtain ⟨x, hx⟩ := Option.isSome_iff_exists.1 hh
  rw [hrelease]
  exact ⟨by simp [ExportQueue.room], fun r => by simp [ExportQueue.place, hl, hx]⟩

/-! ### What the room leads to (R138, R145, R149) -/

theorem roomReport_waiting {e : Env} {c : Core} {o : OpenRecord} (ho : c.meter.openRec = some o)
    (hroom : c.queue.room = true) (hclose : o.closeRequested = true) : roomReport e c = handOver e o.record c := by
  simp [roomReport, ho, hroom, hclose]

/-- In HELD the room splits the record, and BILLING-HOLD is released (R138, R149). -/
theorem roomReport_held {e : Env} {c : Core} {o : OpenRecord} (ho : c.meter.openRec = some o)
    (hroom : c.queue.room = true) (hrun : o.closeRequested = false) (hheld : c.meter.held = true) :
    roomReport e c = settlePause e (setPause .billingHold false
      ((splitRecord e o c).onMeter fun m => { m with held := false })) := by
  simp [roomReport, ho, hroom, hrun, hheld]

/-- A session in PAUSED stays there as long as a cause is left, and keeps its causes (R30, R31). -/
theorem settlePause_paused {e : Env} {c : Core} (hs : c.session.state = .paused) :
    (settlePause e c).session.pauseCauses = c.session.pauseCauses
      ∧ ((settlePause e c).session.state = .paused ↔ c.session.pauseCauses ≠ 0) := by
  have hchoice (h0 : c.session.pauseCauses = 0) : runningChoice e c.session ≠ .paused := by
    cases hpermit : chargePermitted e c.session <;> simp [runningChoice, h0, hpermit]
  unfold settlePause
  rw [hs]
  simp only
  split
  next h0 => simp [chooseRunning, Session.moveTo, hchoice h0, h0]
  next h0 => exact ⟨rfl, iff_of_true hs h0⟩

/-- The record that a split closes has the lines it stood with, priced (R136, R140). -/
theorem splitContent_priced (c : Core) (r : BillingRecord) : PricedFrom r.lines (splitContent c r) := ⟨rfl, rfl, rfl⟩

section
variable {s : State} {o : OpenRecord} (ho : s.core.meter.openRec = some o) (hl : s.core.queue.queue.length = 8)
  (hh : s.core.queue.held.isSome = true)
include ho hl hh

/-- A close that waits is placed in the room of the release, and the session hears of it (R149). -/
theorem releaseOldest_places (hclose : o.closeRequested = true) :
    ∃ d : Core, releaseOldest s.env s.core = conclude s.env d
      ∧ d.queue = { queue := s.core.queue.queue.tail ++ s.core.queue.held.toList, held := some o.record }
      ∧ d.meter.openRec = none ∧ d.session = { s.core.session with closePending := false }
      ∧ d.Pends .fleet .recordReady ∧ d.auth = s.core.auth ∧ d.sup = s.core.sup := by
  obtain ⟨hroom, hplace⟩ := ExportQueue.release_full hl hh
  refine ⟨handOver s.env o.record s.core.released, ?_, ?_, ?_, ?_, handOver_ready .., by simp [Core.released],
    by simp [Core.released]⟩
  · rw [releaseOldest, roomReport_waiting (c := s.core.released) ho hroom hclose]
  · rw [handOver_queue, ← hplace]
    rfl
  · rw [handOver_meter]
  · rw [handOver_session]
    rfl

/-- In HELD the record is split, and the session leaves PAUSED with the last cause. -/
theorem releaseOldest_splits (hrun : o.closeRequested = false) (hheld : s.core.meter.held = true)
    (hs : s.core.session.state = .paused) :
    (releaseOldest s.env s.core).queue = { queue := s.core.queue.queue.tail ++ s.core.queue.held.toList
                                           held := some (splitContent s.core.released o.record) }
      ∧ (releaseOldest s.env s.core).meter = { s.core.meter with
          held := false
          openRec := some { record := continuationOf s.core.released o.record, closeRequested := false } }
      ∧ (releaseOldest s.env s.core).session.pauseCauses
          = putBit s.core.session.pauseCauses PauseCause.billingHold.code false
      ∧ ((releaseOldest s.env s.core).session.state = .paused
          ↔ putBit s.core.session.pauseCauses PauseCause.billingHold.code false ≠ 0) := by
  obtain ⟨hroom, hplace⟩ := ExportQueue.release_full hl hh
  have hsplit : (splitRecord s.env o s.core.released).queue = _ := (placeRecord_queue ..).trans (hplace _)
  have hmeter : ((splitRecord s.env o s.core.released).onMeter fun m => { m with held := false }).meter
      = { s.core.meter with
          held := false
          openRec := some { record := continuationOf s.core.released o.record, closeRequested := false } } := by
    simp [splitRecord, Core.released]
  have hses : ((splitRecord s.env o s.core.released).onMeter fun m => { m with held := false }).session
      = s.core.session := by simp [Core.released]
  have hreport := roomReport_held (e := s.env) (c := s.core.released) ho hroom hrun hheld
  have hqueue : ((splitRecord s.env o s.core.released).onMeter fun m => { m with held := false }).queue = _ := hsplit
  generalize (splitRecord s.env o s.core.released).onMeter _ = d at hmeter hses hreport hqueue
  rw [setPause_live _ _ (by rw [hses, hs]; rfl)] at hreport
  obtain ⟨hcauses, hpaused⟩ := settlePause_paused (e := s.env)
    (c := d.onSession fun x => { x with pauseCauses := putBit x.pauseCauses PauseCause.billingHold.code false })
    (by rw [Core.onSession_session, hses]; exact hs)
  rw [Core.onSession_session, hses] at hcauses hpaused
  rw [releaseOldest, hreport, conclude_live (settlePause_live (by rw [Core.onSession_session, hses, hs]; rfl)),
    settlePause_queue, settlePause_meter, Core.onSession_queue, Core.onSession_meter]
  exact ⟨hqueue, hmeter, hcauses, hpaused⟩

end

/-- Settles O31: the four answers, then each use of the room that a release makes. -/
theorem releaseRemovesTheOldestRecord : Obligations.ReleaseRemovesTheOldestRecord := by
  intro q k n s h
  obtain ⟨hnotHeld, hpower, -⟩ := id h
  refine ⟨fun c hc hf => ?form, fun hnone => ?empty, fun r hr => ⟨fun hnot => ?notOldest, fun hn hk hna =>
    ⟨fun hno hnc => ?removed, fun o ho hl hh => ⟨fun hclose hs => ⟨fun hd hrel => ?rests, fun hd => ?detached,
      fun hd hrel hce hhe => ?released⟩, fun hrun hheld hs => ?split⟩⟩⟩⟩
  case form => exact fleetRequest_done h hf (withOperand_none (releaseOperand_length hc) _)
  case empty =>
    refine releaseRecord_done h ?_
    rw [ownReleaseRecord, withOperand_some (releaseOperand_bytes n k)]
    simp only [State.onFport_core, hnone]
    rfl
  case notOldest =>
    refine releaseRecord_done h ?_
    rw [ownReleaseRecord, withOperand_some (releaseOperand_bytes n k)]
    simp only [State.onFport_core, hr, hnot, if_false]
    rfl
  case removed =>
    have hreport : roomReport s.env s.core.released = s.core.released := by simp [roomReport, Core.released, hno]
    rw [releaseRecord_releases h hr hn hk, releaseOldest, hreport,
      conclude_other (c := s.core.released) hna hnc, ← ExportQueue.release_eq]
    rfl
  case rests =>
    obtain ⟨d, hd', hqueue, hmeter, hses, hready, -, -⟩ := releaseOldest_places ho hl hh hclose
    have hdone := releaseRecord_releases (q := q) h hr hn hk
    rw [hd', conclude_closed (by rw [hses]; exact hs) (.inr ⟨hd, by rw [hses]; exact hrel⟩)] at hdone
    exact ⟨_, hdone,
      ⟨by rw [afterFleet, hqueue], by rw [afterFleet, hqueue], hmeter, by rw [afterFleet, hses], hready⟩, hses⟩
  case detached =>
    obtain ⟨d, hd', hqueue, hmeter, hses, hready, -, hsup⟩ := releaseOldest_places ho hl hh hclose
    have hdone := releaseRecord_releases (q := q) h hr hn hk
    rw [hd', conclude_detached (by rw [hses]; exact hs) (by rw [hses])
      (by simp [Core.active, hsup, hnotHeld, hpower]) hd] at hdone
    obtain ⟨htag, hinactive, htimer, hnotices⟩ := enterIdle_spec s.env d
    have hsession := enterIdle_session s.env d
    rw [hses] at hsession
    have hqueue' := (enterIdle_queue s.env d).trans hqueue
    have hmeter' : (enterIdle s.env d).meter.openRec = none := by rw [enterIdle_meter, hmeter]
    have hready' : (enterIdle s.env d).Pends .fleet .recordReady := (hready.post .sessionState).frame hnotices
    generalize enterIdle s.env d = b at *
    exact ⟨_, hdone, ⟨by rw [afterFleet, hqueue'], by rw [afterFleet, hqueue'], hmeter', by rw [afterFleet, hsession]; rfl,
      hready'⟩, by rw [afterFleet, hsession]; rfl, by rw [afterFleet, hsession]; rfl, by rw [afterFleet, hsession],
      htag, hinactive, htimer⟩
  case released =>
    obtain ⟨d, hd', hqueue, hmeter, hses, hready, hauth, hsup⟩ := releaseOldest_places ho hl hh hclose
    have hdone := releaseRecord_releases (q := q) h hr hn hk
    rw [hd', conclude_released (by rw [hses]; exact hs) (by rw [hses]) (by simp [Core.active, hsup, hnotHeld, hpower]) hd
      (by rw [hses]; exact hrel) (by rw [hses]; exact hce) (by rw [hses]; exact hhe)] at hdone
    have hsession := changeState_session s.env .attached d
    rw [hses] at hsession
    have hqueue' := (changeState_queue s.env .attached d).trans hqueue
    have hmeter' : (changeState s.env .attached d).meter.openRec = none := by rw [changeState_meter, hmeter]
    have hauth' := (changeState_auth s.env .attached d).trans hauth
    have hready' := hready.changeState s.env .attached
    generalize changeState s.env .attached d = b at *
    exact ⟨_, hdone, ⟨by rw [afterFleet, hqueue'], by rw [afterFleet, hqueue'], hmeter', by rw [afterFleet, hsession]; rfl,
      hready'⟩, by rw [afterFleet, hsession]; rfl, by rw [afterFleet, hsession]; rfl, by rw [afterFleet, hauth']⟩
  case split =>
    have hdone := releaseRecord_releases (q := q) h hr hn hk
    obtain ⟨hqueue, hmeter, hcauses, hpaused⟩ := releaseOldest_splits ho hl hh hrun hheld hs
    generalize releaseOldest s.env s.core = d at *
    refine ⟨_, hdone, by rw [afterFleet, hqueue], ⟨_, by rw [afterFleet, hqueue], splitContent_priced .., rfl, rfl, rfl⟩,
      ⟨continuationOf s.core.released o.record, by rw [afterFleet, hmeter], rfl, rfl, rfl, rfl, rfl⟩,
      by rw [afterFleet, hmeter], hcauses, ?_⟩
    rw [afterFleet, hcauses]
    exact hpaused

end Sys2Proof.Machine
end
